-- ==== Sys2Proof/Word.lean ====
section
/-! DEFINITION. The byte and tag types of the host link and of the tables (R173, R187). Every other
quantity of the LF760 is a number with a stated range and is held as a Nat or an Int. -/

namespace Sys2Proof

/-- One byte of a packet, a table or the frame memory. -/
abbrev Byte := BitVec 8

/-- The tag of a host packet, 0..255, chosen by the host and returned in the REPLY (R173). -/
abbrev Tag := BitVec 8

end Sys2Proof
end

