-- ==== Sys2Proof/Config.lean ====
section
/-! DEFINITION. What is fixed for the machine: the sizes the spec gives, and the one free value of the
model (a choice between two orders that the spec allows, R99). -/

namespace Sys2Proof.Config

/-- Size of the frame memory in bytes (R140). -/
def frameMemoryBytes : Nat := 268435456

/-- Places in the command buffer (R175). -/
def commandBufferPlaces : Nat := 4

/-- Largest upstream payload in bytes (R173). -/
def maxUpstreamPayload : Nat := 264

/-- Entries the focus history holds (R90). -/
def historyEntries : Nat := 64

/-- Blur records the blur queue holds (R136). -/
def blurQueuePlaces : Nat := 4

/-- Steps of the iris phase of LENS_REFERENCE (R76). -/
def referenceIrisSteps : Nat := 60

/-- Steps the focus phase of LENS_REFERENCE allows (R76). -/
def referenceFocusSteps : Nat := 4200

/-- Steps the zoom phase of LENS_REFERENCE allows (R77). -/
def referenceZoomSteps : Nat := 2200

/-- Rounds of the grant of R65 that one step may run (log entry 11). -/
def grantRounds : Nat := 64

/-- FREE VALUE (log entry 6). The k-th time a disturbance and the figures of one frame reach the Focus
Controller at one EOF (R99): true when the figures are taken first. R99 allows both orders. -/
opaque figuresFirst : Nat → Bool

end Sys2Proof.Config
end

