-- ==== Sys2Proof/Syntax.lean ====
section
/-! DEFINITION. The commands and events of the LF760: one constructor of Instr per row of
spec/opcode_table.json. A host command carries its tag and its arguments as the numbers its payload
fields hold (R188), before any range is checked; an event carries what the outside world supplies. -/

namespace Sys2Proof

/-- The arguments of a host command: the numbers of its payload, or a payload that is longer or shorter
than the command's arguments (R176, R188). -/
inductive Payload (α : Type) where
  | args (a : α)
  | wrongLength
  deriving DecidableEq, Repr

/-- Sensor frame and output window in pixels (R2). -/
structure Geometry where
  w : Nat
  h : Nat
  outW : Nat
  outH : Nat
  deriving DecidableEq, Repr

/-- One number for each mosaic channel (R1): black levels (R3). -/
structure Channels where
  r : Nat
  gr : Nat
  gb : Nat
  b : Nat
  deriving DecidableEq, Repr

/-- Arguments of PATH_SETUP (R3). -/
structure PathSetupArgs where
  geometry : Geometry
  black : Channels
  b1 : Nat
  b2 : Nat
  b3 : Nat
  timeout : Nat
  deriving DecidableEq, Repr

/-- Arguments of STATS_SETUP (R28). -/
structure StatsSetupArgs where
  clip : Nat
  noise : Nat
  rate : Nat
  deriving DecidableEq, Repr

/-- Arguments of AE_SETUP (R34). -/
structure AeSetupArgs where
  target : Nat
  compensation : Int
  deadband : Nat
  damping : Nat
  maxStep : Nat
  settleCount : Nat
  hlPull : Nat
  blLift : Nat
  boost : Nat
  breakLevel : Nat
  latency : Nat
  weightTable : Nat
  deriving DecidableEq, Repr

/-- Arguments of AE_MANUAL (R52). -/
structure AeManualArgs where
  tI : Nat
  iris : Nat
  gI : Nat
  deriving DecidableEq, Repr

/-- One number for each source of lens moves, in tie order (R62). -/
structure PerSource where
  park : Nat
  track : Nat
  zoom : Nat
  iris : Nat
  af : Nat
  manual : Nat
  deriving DecidableEq, Repr

/-- Arguments of LENS_SETUP (R72). -/
structure LensSetupArgs where
  levels : PerSource
  parkClass : Nat
  trackClass : Nat
  afClass : Nat
  zoomBacklash : Nat
  focusBacklash : Nat
  homePos : Nat
  homeTol : Nat
  deriving DecidableEq, Repr

/-- A target position and a speed class: FOCUS_MOVE (R73) and ZOOM_TO (R108). -/
structure MoveArgs where
  target : Nat
  speed : Nat
  deriving DecidableEq, Repr

/-- Arguments of ZOOM_BY (R109). -/
structure ZoomByArgs where
  delta : Int
  speed : Nat
  deriving DecidableEq, Repr

/-- One window of AF_SETUP (R83, R188). -/
structure WindowArgs where
  enabled : Nat
  fc : Nat
  fr : Nat
  nc : Nat
  nr : Nat
  deriving DecidableEq, Repr

/-- Arguments of AF_SETUP (R83); windows holds windows 0..7 in order. -/
structure AfSetupArgs where
  mode : Nat
  selection : Nat
  selected : Nat
  windows : List WindowArgs
  coarseStep : Nat
  fineStep : Nat
  minFigure : Nat
  monitorFrames : Nat
  monitorRatio : Nat
  settleTimeout : Nat
  deriving DecidableEq, Repr

/-- Arguments of STAB_SETUP (R138). -/
structure StabSetupArgs where
  dt : Nat
  biasShift : Nat
  leakShift : Nat
  panRef : Nat
  panDeb : Nat
  combination : Nat
  yawEnable : Nat
  pitchEnable : Nat
  stillRef : Nat
  shakyRef : Nat
  ppu : Nat
  shiftTol : Nat
  shiftFaultCount : Nat
  blurLimit : Nat
  deriving DecidableEq, Repr

/-- Arguments of STORE_SETUP (R145). -/
structure StoreSetupArgs where
  mode : Nat
  slots : Nat
  policy : Nat
  nAfter : Nat
  nPre : Nat
  gateMask : Nat
  gateTimeout : Nat
  timeoutAction : Nat
  filterMask : Nat
  skipMax : Nat
  holdMask : Nat
  releaseMode : Nat
  noticeMode : Nat
  deriving DecidableEq, Repr

/-- Arguments of FETCH (R156, R188). -/
structure FetchArgs where
  selector : Nat
  parts : Nat
  slot : Nat
  deriving DecidableEq, Repr

/-- Arguments of SHUTTER_SETUP (R160). -/
structure ShutterSetupArgs where
  debounce : Nat
  s1Enable : Nat
  s2Enable : Nat
  deriving DecidableEq, Repr

/-- Arguments of CONDITIONS_SETUP (R171); set is the 4-byte bit set of condition numbers (R188). -/
structure ConditionsSetupArgs where
  set : Nat
  enable : Nat
  mode : Nat
  n : Nat
  deriving DecidableEq, Repr

/-- Arguments of TABLE_LOAD (R180). -/
structure TableLoadArgs where
  table : Nat
  offset : Nat
  data : List Byte
  deriving DecidableEq, Repr

/-- Arguments of TABLE_READ (R183). -/
structure TableReadArgs where
  table : Nat
  offset : Nat
  length : Nat
  deriving DecidableEq, Repr

/-- Levels of the lens position sensors as sampled after a step (R59). -/
structure LensSample where
  home : Bool
  wide : Bool
  tele : Bool
  deriving DecidableEq, Repr

/-- Levels of every sampled line at power-on reset: the lens sensors (R59, R80), the strobe line (R135,
R139) and the shutter line (R162). -/
structure LineLevels where
  lens : LensSample
  strobe : Bool
  s1 : Bool
  s2 : Bool
  deriving DecidableEq, Repr

/-- The two levels of the shutter line (R160). -/
inductive ShutterLine where
  | s1
  | s2
  deriving DecidableEq, Repr

/-- The commands and events of the LF760, in the order of spec/opcode_table.json. -/
inductive Instr where
  | powerOnReset (lines : LineLevels)
  | frameStart
  | line (pixels : List Nat)
  | frameEnd
  | frameTimeout
  | upstreamPacket (bytes : List Byte)
  | unknownCommand (tag : Tag) (code : Byte)
  | pathSetup (tag : Tag) (args : Payload PathSetupArgs)
  | pathStart (tag : Tag) (args : Payload Unit)
  | pathStop (tag : Tag) (args : Payload Unit)
  | statsSetup (tag : Tag) (args : Payload StatsSetupArgs)
  | aeMode (tag : Tag) (args : Payload Nat)
  | aeSetup (tag : Tag) (args : Payload AeSetupArgs)
  | aeManual (tag : Tag) (args : Payload AeManualArgs)
  | lensSetup (tag : Tag) (args : Payload LensSetupArgs)
  | focusMove (tag : Tag) (args : Payload MoveArgs)
  | lensStop (tag : Tag) (args : Payload Unit)
  | lensReference (tag : Tag) (args : Payload Unit)
  | lensPark (tag : Tag) (args : Payload Unit)
  | afSetup (tag : Tag) (args : Payload AfSetupArgs)
  | afStart (tag : Tag) (args : Payload Unit)
  | afCancel (tag : Tag) (args : Payload Unit)
  | afHistory (tag : Tag) (args : Payload Unit)
  | zoomSetup (tag : Tag) (args : Payload Nat)
  | zoomTo (tag : Tag) (args : Payload MoveArgs)
  | zoomBy (tag : Tag) (args : Payload ZoomByArgs)
  | zoomStop (tag : Tag) (args : Payload Unit)
  | stabMode (tag : Tag) (args : Payload Nat)
  | stabCenter (tag : Tag) (args : Payload Unit)
  | stabSetup (tag : Tag) (args : Payload StabSetupArgs)
  | storeSetup (tag : Tag) (args : Payload StoreSetupArgs)
  | storeStart (tag : Tag) (args : Payload Unit)
  | storeStop (tag : Tag) (args : Payload Unit)
  | trigger (tag : Tag) (args : Payload Unit)
  | accept (tag : Tag) (args : Payload Nat)
  | discard (tag : Tag) (args : Payload Nat)
  | release (tag : Tag) (args : Payload Nat)
  | fetch (tag : Tag) (args : Payload FetchArgs)
  | sendAbort (tag : Tag) (args : Payload Unit)
  | noticeArm (tag : Tag) (args : Payload Unit)
  | shutterSetup (tag : Tag) (args : Payload ShutterSetupArgs)
  | conditionsSetup (tag : Tag) (args : Payload ConditionsSetupArgs)
  | conditionsClear (tag : Tag) (args : Payload Nat)
  | tableLoad (tag : Tag) (args : Payload TableLoadArgs)
  | tableCommit (tag : Tag) (args : Payload Nat)
  | tableRead (tag : Tag) (args : Payload TableReadArgs)
  | reset (tag : Tag) (args : Payload Nat)
  | statusQuery (tag : Tag) (args : Payload Unit)
  | resetCompletion
  | packetBoundary
  | stepBoundary (sample : LensSample) (withCancel : Bool)
  | referenceStep (sample : LensSample)
  | writeItemAcknowledged
  | writeItemNotAcknowledged
  | rateSample (seq : Nat) (yaw : Int) (pitch : Int)
  | readback (yaw : Int) (pitch : Int)
  | strobeRise
  | strobeFall
  | shutterLevelChange (which : ShutterLine) (level : Bool)
  | debounceExpiry (which : ShutterLine)
  | gateExpiry
  | settleTimeout
  | timedLatchExpiry (condition : Nat)
  deriving DecidableEq, Repr

end Sys2Proof
end

