-- ==== Sys2Proof/WellFormed.lean ====
section
/-! DEFINITION. Which commands and events the outside world can form: every argument of a host command
fits the field that carries it (R188), every event value lies in the range its rule gives. A
well-formed command may still be refused or clamped by the block that takes it. -/

namespace Sys2Proof

/-- An unsigned field of one byte holds n (R188). -/
def fits8 (n : Nat) : Bool := decide (n < 256)

/-- An unsigned field of two bytes holds n (R188). -/
def fits16 (n : Nat) : Bool := decide (n < 65536)

/-- An unsigned field of four bytes holds n (R188). -/
def fits32 (n : Nat) : Bool := decide (n < 4294967296)

/-- A signed field of one byte holds i (R187, R188). -/
def fitsSigned8 (i : Int) : Bool := decide (-128 ≤ i ∧ i < 128)

/-- A signed field of two bytes holds i (R187, R188). -/
def fitsSigned16 (i : Int) : Bool := decide (-32768 ≤ i ∧ i < 32768)

/-- A payload of the wrong length is always possible; otherwise its arguments must fit. -/
def Payload.fits {α : Type} (f : α → Bool) : Payload α → Bool
  | .args a => f a
  | .wrongLength => true

def Geometry.fits (g : Geometry) : Bool := fits16 g.w && fits16 g.h && fits16 g.outW && fits16 g.outH

def Channels.fits (c : Channels) : Bool := fits16 c.r && fits16 c.gr && fits16 c.gb && fits16 c.b

def PathSetupArgs.fits (a : PathSetupArgs) : Bool :=
  a.geometry.fits && a.black.fits && fits16 a.b1 && fits16 a.b2 && fits16 a.b3 && fits16 a.timeout

def StatsSetupArgs.fits (a : StatsSetupArgs) : Bool := fits16 a.clip && fits8 a.noise && fits8 a.rate

def AeSetupArgs.fits (a : AeSetupArgs) : Bool :=
  fits8 a.target && fitsSigned8 a.compensation && fits8 a.deadband && fits8 a.damping && fits8 a.maxStep &&
  fits8 a.settleCount && fits8 a.hlPull && fits8 a.blLift && fits8 a.boost && fits8 a.breakLevel &&
  fits8 a.latency && fits8 a.weightTable

def AeManualArgs.fits (a : AeManualArgs) : Bool := fits8 a.tI && fits8 a.iris && fits8 a.gI

def PerSource.fits (p : PerSource) : Bool :=
  fits8 p.park && fits8 p.track && fits8 p.zoom && fits8 p.iris && fits8 p.af && fits8 p.manual

def LensSetupArgs.fits (a : LensSetupArgs) : Bool :=
  a.levels.fits && fits8 a.parkClass && fits8 a.trackClass && fits8 a.afClass && fits8 a.zoomBacklash &&
  fits8 a.focusBacklash && fits16 a.homePos && fits8 a.homeTol

def MoveArgs.fits (a : MoveArgs) : Bool := fits16 a.target && fits8 a.speed

def ZoomByArgs.fits (a : ZoomByArgs) : Bool := fitsSigned16 a.delta && fits8 a.speed

def WindowArgs.fits (w : WindowArgs) : Bool :=
  fits8 w.enabled && fits8 w.fc && fits8 w.fr && fits8 w.nc && fits8 w.nr

def AfSetupArgs.fits (a : AfSetupArgs) : Bool :=
  fits8 a.mode && fits8 a.selection && fits8 a.selected && decide (a.windows.length = 8) &&
  a.windows.all WindowArgs.fits && fits8 a.coarseStep && fits8 a.fineStep && fits32 a.minFigure &&
  fits8 a.monitorFrames && fits8 a.monitorRatio && fits8 a.settleTimeout

def StabSetupArgs.fits (a : StabSetupArgs) : Bool :=
  fits16 a.dt && fits8 a.biasShift && fits8 a.leakShift && fits16 a.panRef && fits8 a.panDeb &&
  fits8 a.combination && fits8 a.yawEnable && fits8 a.pitchEnable && fits16 a.stillRef && fits16 a.shakyRef &&
  fits16 a.ppu && fits16 a.shiftTol && fits8 a.shiftFaultCount && fits16 a.blurLimit

def StoreSetupArgs.fits (a : StoreSetupArgs) : Bool :=
  fits8 a.mode && fits8 a.slots && fits8 a.policy && fits8 a.nAfter && fits8 a.nPre && fits8 a.gateMask &&
  fits8 a.gateTimeout && fits8 a.timeoutAction && fits8 a.filterMask && fits8 a.skipMax && fits8 a.holdMask &&
  fits8 a.releaseMode && fits8 a.noticeMode

def FetchArgs.fits (a : FetchArgs) : Bool := fits8 a.selector && fits8 a.parts && fits8 a.slot

def ShutterSetupArgs.fits (a : ShutterSetupArgs) : Bool := fits8 a.debounce && fits8 a.s1Enable && fits8 a.s2Enable

def ConditionsSetupArgs.fits (a : ConditionsSetupArgs) : Bool :=
  fits32 a.set && fits8 a.enable && fits8 a.mode && fits8 a.n

def TableLoadArgs.fits (a : TableLoadArgs) : Bool :=
  fits8 a.table && fits16 a.offset && decide (a.data.length ≤ 256)

def TableReadArgs.fits (a : TableReadArgs) : Bool := fits8 a.table && fits16 a.offset && fits16 a.length

/-- The command code names a command that travels in a COMMAND packet (R188): 1..41 but for 37. -/
def isCommandCode (code : Byte) : Bool :=
  decide (1 ≤ code.toNat ∧ code.toNat ≤ 41 ∧ code.toNat ≠ 37)

/-- A command or event that the outside world can form. -/
def Instr.wellFormed : Instr → Bool
  | .powerOnReset _ => true
  | .frameStart => true
  | .line pixels => pixels.all fun p => decide (p ≤ 4095)
  | .frameEnd => true
  | .frameTimeout => true
  | .upstreamPacket _ => true
  | .unknownCommand _ code => !isCommandCode code
  | .pathSetup _ a => a.fits PathSetupArgs.fits
  | .pathStart _ _ => true
  | .pathStop _ _ => true
  | .statsSetup _ a => a.fits StatsSetupArgs.fits
  | .aeMode _ a => a.fits fits8
  | .aeSetup _ a => a.fits AeSetupArgs.fits
  | .aeManual _ a => a.fits AeManualArgs.fits
  | .lensSetup _ a => a.fits LensSetupArgs.fits
  | .focusMove _ a => a.fits MoveArgs.fits
  | .lensStop _ _ => true
  | .lensReference _ _ => true
  | .lensPark _ _ => true
  | .afSetup _ a => a.fits AfSetupArgs.fits
  | .afStart _ _ => true
  | .afCancel _ _ => true
  | .afHistory _ _ => true
  | .zoomSetup _ a => a.fits fits8
  | .zoomTo _ a => a.fits MoveArgs.fits
  | .zoomBy _ a => a.fits ZoomByArgs.fits
  | .zoomStop _ _ => true
  | .stabMode _ a => a.fits fits8
  | .stabCenter _ _ => true
  | .stabSetup _ a => a.fits StabSetupArgs.fits
  | .storeSetup _ a => a.fits StoreSetupArgs.fits
  | .storeStart _ _ => true
  | .storeStop _ _ => true
  | .trigger _ _ => true
  | .accept _ a => a.fits fits8
  | .discard _ a => a.fits fits8
  | .release _ a => a.fits fits8
  | .fetch _ a => a.fits FetchArgs.fits
  | .sendAbort _ _ => true
  | .noticeArm _ _ => true
  | .shutterSetup _ a => a.fits ShutterSetupArgs.fits
  | .conditionsSetup _ a => a.fits ConditionsSetupArgs.fits
  | .conditionsClear _ a => a.fits fits32
  | .tableLoad _ a => a.fits TableLoadArgs.fits
  | .tableCommit _ a => a.fits fits8
  | .tableRead _ a => a.fits TableReadArgs.fits
  | .reset _ a => a.fits fits8
  | .statusQuery _ _ => true
  | .resetCompletion => true
  | .packetBoundary => true
  | .stepBoundary _ _ => true
  | .referenceStep _ => true
  | .writeItemAcknowledged => true
  | .writeItemNotAcknowledged => true
  | .rateSample seq yaw pitch =>
      decide (seq < 256 ∧ -32767 ≤ yaw ∧ yaw ≤ 32767 ∧ -32767 ≤ pitch ∧ pitch ≤ 32767)
  | .readback yaw pitch => decide (-2047 ≤ yaw ∧ yaw ≤ 2047 ∧ -2047 ≤ pitch ∧ pitch ≤ 2047)
  | .strobeRise => true
  | .strobeFall => true
  | .shutterLevelChange _ _ => true
  | .debounceExpiry _ => true
  | .gateExpiry => true
  | .settleTimeout => true
  | .timedLatchExpiry condition => decide (condition < 25)

end Sys2Proof
end

