-- ==== Sys2Proof/Decode.lean ====
section
/-! DEFINITION. From the bytes of an upstream packet to the command it carries (R176, R188), and the
decoder of table words: no row of spec/opcode_table.json gives bits, so no word spells a command. -/

namespace Sys2Proof

/-- The command that a word spells by the bits of spec/opcode_table.json: none, since no row gives bits. -/
def decodeTableWord (_nbits _w : Nat) : Option Instr := none

/-- The byte at offset i of a payload, as a number. -/
def payload8 (p : List Byte) (i : Nat) : Nat := (p.getD i 0).toNat

/-- The two-byte field at offset i, high byte first (R187). -/
def payload16 (p : List Byte) (i : Nat) : Nat := payload8 p i * 256 + payload8 p (i + 1)

/-- The four-byte field at offset i, high byte first (R187). -/
def payload32 (p : List Byte) (i : Nat) : Nat := payload16 p i * 65536 + payload16 p (i + 2)

/-- The signed one-byte field at offset i, two's complement (R187). -/
def payloadSigned8 (p : List Byte) (i : Nat) : Int :=
  if payload8 p i < 128 then (payload8 p i : Int) else (payload8 p i : Int) - 256

/-- The signed two-byte field at offset i, two's complement (R187). -/
def payloadSigned16 (p : List Byte) (i : Nat) : Int :=
  if payload16 p i < 32768 then (payload16 p i : Int) else (payload16 p i : Int) - 65536

/-- Arguments of a fixed length n: read by f when the payload has exactly n bytes (R176). -/
def fixedArgs {α : Type} (n : Nat) (f : List Byte → α) (p : List Byte) : Payload α :=
  if p.length = n then .args (f p) else .wrongLength

def readPathSetup (p : List Byte) : PathSetupArgs where
  geometry := ⟨payload16 p 0, payload16 p 2, payload16 p 4, payload16 p 6⟩
  black := ⟨payload16 p 8, payload16 p 10, payload16 p 12, payload16 p 14⟩
  b1 := payload16 p 16
  b2 := payload16 p 18
  b3 := payload16 p 20
  timeout := payload16 p 22

def readStatsSetup (p : List Byte) : StatsSetupArgs := ⟨payload16 p 0, payload8 p 2, payload8 p 3⟩

def readAeSetup (p : List Byte) : AeSetupArgs where
  target := payload8 p 0
  compensation := payloadSigned8 p 1
  deadband := payload8 p 2
  damping := payload8 p 3
  maxStep := payload8 p 4
  settleCount := payload8 p 5
  hlPull := payload8 p 6
  blLift := payload8 p 7
  boost := payload8 p 8
  breakLevel := payload8 p 9
  latency := payload8 p 10
  weightTable := payload8 p 11

def readAeManual (p : List Byte) : AeManualArgs := ⟨payload8 p 0, payload8 p 1, payload8 p 2⟩

def readLensSetup (p : List Byte) : LensSetupArgs where
  levels := ⟨payload8 p 0, payload8 p 1, payload8 p 2, payload8 p 3, payload8 p 4, payload8 p 5⟩
  parkClass := payload8 p 6
  trackClass := payload8 p 7
  afClass := payload8 p 8
  zoomBacklash := payload8 p 9
  focusBacklash := payload8 p 10
  homePos := payload16 p 11
  homeTol := payload8 p 13

def readMove (p : List Byte) : MoveArgs := ⟨payload16 p 0, payload8 p 2⟩

def readZoomBy (p : List Byte) : ZoomByArgs := ⟨payloadSigned16 p 0, payload8 p 2⟩

def readWindow (p : List Byte) (i : Nat) : WindowArgs :=
  ⟨payload8 p i, payload8 p (i + 1), payload8 p (i + 2), payload8 p (i + 3), payload8 p (i + 4)⟩

def readAfSetup (p : List Byte) : AfSetupArgs where
  mode := payload8 p 0
  selection := payload8 p 1
  selected := payload8 p 2
  windows := (List.range 8).map fun k => readWindow p (3 + 5 * k)
  coarseStep := payload8 p 43
  fineStep := payload8 p 44
  minFigure := payload32 p 45
  monitorFrames := payload8 p 49
  monitorRatio := payload8 p 50
  settleTimeout := payload8 p 51

def readStabSetup (p : List Byte) : StabSetupArgs where
  dt := payload16 p 0
  biasShift := payload8 p 2
  leakShift := payload8 p 3
  panRef := payload16 p 4
  panDeb := payload8 p 6
  combination := payload8 p 7
  yawEnable := payload8 p 8
  pitchEnable := payload8 p 9
  stillRef := payload16 p 10
  shakyRef := payload16 p 12
  ppu := payload16 p 14
  shiftTol := payload16 p 16
  shiftFaultCount := payload8 p 18
  blurLimit := payload16 p 19

def readStoreSetup (p : List Byte) : StoreSetupArgs where
  mode := payload8 p 0
  slots := payload8 p 1
  policy := payload8 p 2
  nAfter := payload8 p 3
  nPre := payload8 p 4
  gateMask := payload8 p 5
  gateTimeout := payload8 p 6
  timeoutAction := payload8 p 7
  filterMask := payload8 p 8
  skipMax := payload8 p 9
  holdMask := payload8 p 10
  releaseMode := payload8 p 11
  noticeMode := payload8 p 12

def readFetch (p : List Byte) : FetchArgs := ⟨payload8 p 0, payload8 p 1, payload8 p 2⟩

def readShutterSetup (p : List Byte) : ShutterSetupArgs := ⟨payload8 p 0, payload8 p 1, payload8 p 2⟩

def readConditionsSetup (p : List Byte) : ConditionsSetupArgs :=
  ⟨payload32 p 0, payload8 p 4, payload8 p 5, payload8 p 6⟩

def readTableRead (p : List Byte) : TableReadArgs := ⟨payload8 p 0, payload16 p 1, payload16 p 3⟩

def noArgs (_ : List Byte) : Unit := ()

/-- The command of a COMMAND packet with code c and argument bytes p (R188): the codes number the
commands of section 10.4 from 1; 37, TABLE_LOAD, travels only as TABLE_DATA. -/
def commandOfCode (tag : Tag) (code : Byte) (p : List Byte) : Instr :=
  match code.toNat with
  | 1 => .pathSetup tag (fixedArgs 24 readPathSetup p)
  | 2 => .pathStart tag (fixedArgs 0 noArgs p)
  | 3 => .pathStop tag (fixedArgs 0 noArgs p)
  | 4 => .statsSetup tag (fixedArgs 4 readStatsSetup p)
  | 5 => .aeMode tag (fixedArgs 1 (payload8 · 0) p)
  | 6 => .aeSetup tag (fixedArgs 12 readAeSetup p)
  | 7 => .aeManual tag (fixedArgs 3 readAeManual p)
  | 8 => .lensSetup tag (fixedArgs 14 readLensSetup p)
  | 9 => .focusMove tag (fixedArgs 3 readMove p)
  | 10 => .lensStop tag (fixedArgs 0 noArgs p)
  | 11 => .lensReference tag (fixedArgs 0 noArgs p)
  | 12 => .lensPark tag (fixedArgs 0 noArgs p)
  | 13 => .afSetup tag (fixedArgs 52 readAfSetup p)
  | 14 => .afStart tag (fixedArgs 0 noArgs p)
  | 15 => .afCancel tag (fixedArgs 0 noArgs p)
  | 16 => .afHistory tag (fixedArgs 0 noArgs p)
  | 17 => .zoomSetup tag (fixedArgs 1 (payload8 · 0) p)
  | 18 => .zoomTo tag (fixedArgs 3 readMove p)
  | 19 => .zoomBy tag (fixedArgs 3 readZoomBy p)
  | 20 => .zoomStop tag (fixedArgs 0 noArgs p)
  | 21 => .stabMode tag (fixedArgs 1 (payload8 · 0) p)
  | 22 => .stabCenter tag (fixedArgs 0 noArgs p)
  | 23 => .stabSetup tag (fixedArgs 21 readStabSetup p)
  | 24 => .storeSetup tag (fixedArgs 13 readStoreSetup p)
  | 25 => .storeStart tag (fixedArgs 0 noArgs p)
  | 26 => .storeStop tag (fixedArgs 0 noArgs p)
  | 27 => .trigger tag (fixedArgs 0 noArgs p)
  | 28 => .accept tag (fixedArgs 1 (payload8 · 0) p)
  | 29 => .discard tag (fixedArgs 1 (payload8 · 0) p)
  | 30 => .release tag (fixedArgs 1 (payload8 · 0) p)
  | 31 => .fetch tag (fixedArgs 3 readFetch p)
  | 32 => .sendAbort tag (fixedArgs 0 noArgs p)
  | 33 => .noticeArm tag (fixedArgs 0 noArgs p)
  | 34 => .shutterSetup tag (fixedArgs 3 readShutterSetup p)
  | 35 => .conditionsSetup tag (fixedArgs 7 readConditionsSetup p)
  | 36 => .conditionsClear tag (fixedArgs 4 (payload32 · 0) p)
  | 38 => .tableCommit tag (fixedArgs 1 (payload8 · 0) p)
  | 39 => .tableRead tag (fixedArgs 5 readTableRead p)
  | 40 => .reset tag (fixedArgs 1 (payload8 · 0) p)
  | 41 => .statusQuery tag (fixedArgs 0 noArgs p)
  | _ => .unknownCommand tag code

/-- The command of a COMMAND packet (R176): the first payload byte is the code. A payload without a code
byte names no command (log entry 25). -/
def decodeCommand (tag : Tag) : List Byte → Instr
  | [] => .unknownCommand tag 0
  | code :: p => commandOfCode tag code p

/-- The TABLE_LOAD of a TABLE_DATA packet (R188): identifier, offset, and 0..256 data bytes. -/
def decodeTableData (tag : Tag) (p : List Byte) : Instr :=
  if 3 ≤ p.length ∧ p.length ≤ 259 then .tableLoad tag (.args ⟨payload8 p 0, payload16 p 1, p.drop 3⟩)
  else .tableLoad tag .wrongLength

end Sys2Proof
end

