-- ==== Sys2Proof/Machine/State.lean ====
section
/-! DEFINITION. Everything the LF760 holds, block by block as section 2.2 names the blocks, with the queue
of commands and events that wait, and State.reset: the machine right after power-on reset. A
field's docstring names the rule that gives it. All of it is plain data. -/

namespace Sys2Proof.Machine

/-! ### Memory -/

/-- Bytes by address: addresses strictly rising and no byte equal to what an unlisted address reads as. -/
abbrev Memory := List Host.Cell

/-! ### Frame Intake and Pixel Path (chapter 1) -/

/-- Intake states (section 1.4). -/
inductive IntakeMode where
  | stopped
  | waiting
  | inFrame
  deriving DecidableEq, Repr

/-- Causes of a truncated frame (R9). -/
inductive TruncationCause where
  | newStart
  | shortFrame
  | timeout
  | stopped
  deriving DecidableEq, Repr

/-- INTAKE: R2, R3, R6, R10. The frame timeout is the loaded value in ms while it runs. lastSof is the FN of
the latest SOF since power-on reset (R170). -/
structure Intake where
  mode : IntakeMode
  fn : Nat
  lineCounter : Nat
  timer : Option Nat
  geometry : Geometry
  black : Channels
  b1 : Nat
  b2 : Nat
  b3 : Nat
  timeout : Nat
  lastSof : Option Nat
  deriving DecidableEq, Repr

/-- The shading choice PXP holds for a frame (R13): the band, and the working copy of its table, none while
that table is invalid. -/
structure Shading where
  band : Nat
  table : Option Memory
  deriving DecidableEq, Repr

/-- PXP's per-frame values (R12 to R15): black levels and shading, none until the next SOF; dg; crop. -/
structure Pxp where
  black : Option Channels
  shading : Option Shading
  dg : Nat
  cropX : Nat
  cropY : Nat
  deriving DecidableEq, Repr

/-! ### Statistics Unit (chapter 2) -/

/-- One focus window definition, in zone units (R23). -/
structure Window where
  enabled : Bool
  fc : Nat
  fr : Nat
  nc : Nat
  nr : Nat
  deriving DecidableEq, Repr

/-- A window's running figure: F, its SAT mark and the window's cell sum (R24, R25). -/
structure Figure where
  f : Nat
  sat : Bool
  cells : Nat
  deriving DecidableEq, Repr

/-- The measurement of the frame in progress: the per-frame copies of R17, and the running sums.
evenPairs holds, for each cell of the latest even line, the sum of its R and Gr pixels (R19). -/
structure Measurement where
  w : Nat
  h : Nat
  zw : Nat
  zh : Nat
  clip : Nat
  noise : Nat
  windows : List Window
  zoneSums : List Nat
  clipped : List Nat
  figures : List Figure
  evenPairs : List Nat
  deriving DecidableEq, Repr

/-- A window record of R25: enabled, F, SAT mark, window mean, used columns and rows (R29). -/
structure WindowRecord where
  enabled : Bool
  f : Nat
  sat : Bool
  mean : Nat
  columns : Nat
  rows : Nat
  deriving DecidableEq, Repr

/-- The contents of a STATS packet, fixed when it is built (R29). -/
structure StatsPacket where
  fn : Nat
  zw : Nat
  zh : Nat
  clip : Nat
  noise : Nat
  replaced : Nat
  means : List Nat
  clipped : List Nat
  mask : List Nat
  windows : List WindowRecord
  deriving DecidableEq, Repr

/-- STATS: parameters (R28), divider and waiting packet (R29, R30), replaced count (R30), measurement (R17). -/
structure Stats where
  clip : Nat
  noise : Nat
  rate : Nat
  divider : Nat
  replaced : Nat
  waiting : Option StatsPacket
  measure : Option Measurement
  deriving DecidableEq, Repr

/-! ### Exposure Controller (chapter 3) -/

/-- Controller states (section 3.1). -/
inductive AeState where
  | off
  | run
  | held
  | locked
  | fault
  deriving DecidableEq, Repr

/-- Exposure programs (R37). -/
inductive Program where
  | live
  | capture
  deriving DecidableEq, Repr

/-- A setting: time index, desired iris position, sensor gain index, digital gain step (R47). -/
structure Setting where
  tI : Nat
  iris : Nat
  gA : Nat
  gD : Nat
  deriving DecidableEq, Repr

/-- An issued exposure record before it takes effect: setting, program, capture mark (R49). -/
structure Issue where
  setting : Setting
  program : Program
  mark : Option Nat
  deriving DecidableEq, Repr

/-- A record of the in-flight list with its effective FN (R49). -/
structure InFlight where
  effective : Nat
  issue : Issue
  deriving DecidableEq, Repr

/-- One I2C transaction of a write sequence: device, register and byte (R36). -/
structure SensorItem where
  device : Nat
  register : Nat
  data : Byte
  deriving DecidableEq, Repr

/-- The write sequence in progress: the record being written and the items not yet acknowledged, the item
on the bus first (R49); whether it is the retry (R51). -/
structure WriteSequence where
  issue : Issue
  items : List SensorItem
  retry : Bool
  deriving DecidableEq, Repr

/-- The item on the sensor control port; owned is false once a reset has ended its sequence (R57). -/
structure BusItem where
  item : SensorItem
  owned : Bool
  deriving DecidableEq, Repr

/-- A frame's exposure as fixed at its SOF (R38). -/
structure FrameExposure where
  tI : Nat
  aE : Nat
  gA : Nat
  gD : Nat
  x : Nat
  program : Program
  mark : Option Nat
  state : AeState
  settled : Bool
  deriving DecidableEq, Repr

/-- The per-frame metering copy of R38 step 4: weights, boost, subject mask. -/
structure MeterCopy where
  weights : List Nat
  boost : Nat
  subject : List Nat
  deriving DecidableEq, Repr

/-- The twelve parameters of R34. -/
structure AeParams where
  target : Nat
  compensation : Int
  deadband : Nat
  damping : Nat
  maxStep : Nat
  settleCount : Nat
  hlPull : Nat
  blLift : Nat
  boost : Nat
  breakLevel : Nat
  latency : Nat
  weightTable : Nat
  deriving DecidableEq, Repr

/-- AEC: state (R32), parameters (R34), in-flight list and latest issued setting (R49, R50), records
awaiting write and retry (R49, R51), write sequence and bus item (R36, R57), failure count and retry flag
(R51), manual setting (R52), program, mark due and trigger number (R53), settled counter, SETTLED (R48),
break counter (R55), reported M, E, T_eff (R40), the frame's exposure, metering copy and iris-moving mark
(R38). -/
structure Aec where
  state : AeState
  params : AeParams
  inFlight : List InFlight
  latest : Option Setting
  awaiting : Option Issue
  retry : Option Issue
  sequence : Option WriteSequence
  bus : Option BusItem
  failures : Nat
  retryFlag : Bool
  manual : Option Setting
  program : Program
  markDue : Bool
  trigger : Nat
  settledCount : Nat
  settled : Bool
  breakCount : Nat
  m : Nat
  e : Int
  tEff : Nat
  frame : FrameExposure
  copy : MeterCopy
  irisMoved : Bool
  deriving DecidableEq, Repr

/-! ### Lens Drive Sequencer (chapter 4) -/

/-- The three motors (R58). -/
inductive Motor where
  | zoom
  | focus
  | iris
  deriving DecidableEq, Repr

/-- The six sources of move requests, in tie order (R62). -/
inductive Source where
  | park
  | track
  | zoom
  | iris
  | af
  | manual
  deriving DecidableEq, Repr

/-- Phases of a move (R61). -/
inductive Phase where
  | main
  | ret
  deriving DecidableEq, Repr

/-- A motor's position and valid flag (R58). -/
structure MotorState where
  pos : Nat
  valid : Bool
  deriving DecidableEq, Repr

/-- A taken request in a source's slot (R63, R64). -/
structure Request where
  motor : Motor
  target : Nat
  speed : Nat
  deriving DecidableEq, Repr

/-- The running move (R60, R61): dest is the destination of its phase; stop is the mark of R70, mute the
mark of R81 (it delivers no outcome), retarget the mark of R64. -/
structure Move where
  source : Source
  motor : Motor
  level : Nat
  target : Nat
  speed : Nat
  phase : Phase
  dest : Nat
  stop : Bool
  mute : Bool
  retarget : Bool
  deriving DecidableEq, Repr

/-- A suspended move (R67). dest is the destination of its phase, from which the remaining steps follow;
retarget is also set when its target is replaced while suspended (R64, R68). -/
structure Suspended where
  source : Source
  motor : Motor
  level : Nat
  target : Nat
  speed : Nat
  phase : Phase
  dest : Nat
  posAt : Nat
  retarget : Bool
  deriving DecidableEq, Repr

/-- The request slots: each source's pending request (R64). -/
structure Slots where
  park : Option Request
  track : Option Request
  zoom : Option Request
  iris : Option Request
  af : Option Request
  manual : Option Request
  deriving DecidableEq, Repr

/-- LENS_REFERENCE in progress (R75 to R77): the motor of its phase, the steps that phase has taken, whether
the sensor has yet been left (seeking), and the mark that ends it at the next boundary. -/
structure Reference where
  motor : Motor
  steps : Nat
  seeking : Bool
  stop : Bool
  deriving DecidableEq, Repr

/-- LENS_PARK in progress (R78): the motor of the part in hand, and whether LENS_STOP has cancelled it. -/
structure Park where
  part : Motor
  cancelled : Bool
  deriving DecidableEq, Repr

/-- Parameters of LENS_SETUP (R72). -/
structure LensParams where
  levels : PerSource
  parkClass : Nat
  trackClass : Nat
  afClass : Nat
  zoomBacklash : Nat
  focusBacklash : Nat
  homePos : Nat
  homeTol : Nat
  deriving DecidableEq, Repr

/-- LDS: motors (R58), latched sensor levels (R59), running move, step timer period in µs while it runs
(R60), suspended stack, top first (R67), slots (R64), reference (R75), park (R78), parameters (R72). -/
structure Lds where
  zoom : MotorState
  focus : MotorState
  iris : MotorState
  latched : LensSample
  running : Option Move
  timer : Option Nat
  stack : List Suspended
  slots : Slots
  reference : Option Reference
  park : Option Park
  params : LensParams
  deriving DecidableEq, Repr

/-! ### Focus Controller (chapter 5) -/

/-- Modes of AFC (section 5.1). -/
inductive AfMode where
  | off
  | single
  | continuous
  | manual
  deriving DecidableEq, Repr

/-- States of AFC (section 5.1). -/
inductive AfState where
  | idle
  | coarse
  | fine
  | locked
  | monitor
  | settle
  | failed
  deriving DecidableEq, Repr

/-- Failure reasons (R82, R103). -/
inductive FailReason where
  | lowContrast
  | unstable
  | disturbed
  | historyFull
  | lost
  | settleTimeout
  deriving DecidableEq, Repr

/-- Window selection (R83). -/
inductive Selection where
  | selected
  | multi
  deriving DecidableEq, Repr

/-- One window's part of a history entry (R90). -/
structure EntryFigure where
  window : Nat
  f : Nat
  sat : Bool
  mean : Nat
  deriving DecidableEq, Repr

/-- One entry of the focus history (R90); fine is its phase. -/
structure HistoryEntry where
  pos : Nat
  fn : Nat
  fine : Bool
  blurred : Bool
  figures : List EntryFigure
  deriving DecidableEq, Repr

/-- What a scan waits for (R89, R94): the end of a move to a sample position, the SOF of a candidate, the EOF
of the candidate (with its blurred mark), or the end of the move to the lock position. -/
inductive ScanWait where
  | move
  | sof
  | eof (blurred : Bool)
  | lockMove
  deriving DecidableEq, Repr

/-- A peak of a figure: F and the focus position of its entry (R91). -/
structure Peak where
  f : Nat
  pos : Nat
  deriving DecidableEq, Repr

/-- The scan in hand (R82, R88 to R94): range, phase positions, index of the next position, the coarse
peak of each window that has one, the peak of the primary window once the coarse phase has ended, the primary
window once fixed, drop and discard counters, what it waits for, and the lock position once chosen. -/
structure Scan where
  inf : Nat
  near : Nat
  positions : List Nat
  next : Nat
  peaks : List (Option Peak)
  coarsePeak : Option Peak
  primary : Option Nat
  drops : Nat
  discards : Nat
  wait : ScanWait
  lockPos : Nat
  deriving DecidableEq, Repr

/-- The frame in progress as a reference or monitored frame (R95): its blurred flag at SOF, and whether a
focus step fell in it. -/
structure FrameTest where
  blurred : Bool
  stepped : Bool
  deriving DecidableEq, Repr

/-- Lock data (R94, R95): lock position, lock distance D, N_lock and its taken flag. -/
structure Lock where
  pos : Nat
  d : Nat
  n : Nat
  taken : Bool
  deriving DecidableEq, Repr

/-- AFC: R82. windowSet and range belong to the scan that made the history, and historyMade says that the history
has held an entry since the latest reset (R190); primaryFigure is that of R84; frame is the frame in progress as R95
tests it. -/
structure Afc where
  mode : AfMode
  selection : Selection
  selected : Nat
  windows : List Window
  coarseStep : Nat
  fineStep : Nat
  minFigure : Nat
  monitorFrames : Nat
  monitorRatio : Nat
  settleTimeout : Nat
  state : AfState
  failure : Option FailReason
  scan : Option Scan
  restarts : Nat
  history : List HistoryEntry
  historyMade : Bool
  windowSet : List Nat
  range : Option (Nat × Nat)
  primary : Option Nat
  lock : Option Lock
  primaryFigure : Option Nat
  frame : Option FrameTest
  monitorCount : Nat
  settleCount : Nat
  rescanAfterZoom : Bool
  deriving DecidableEq, Repr

/-! ### Zoom Controller (chapter 6) -/

/-- States of ZMC (R106). -/
inductive ZoomMode where
  | idle
  | moving
  | stopping
  deriving DecidableEq, Repr

/-- The zoom in hand (R106): target, end-clamp flag, segment end, all cleared on entering IDLE (R112 to R114). -/
structure ZoomInHand where
  target : Nat
  endClamp : Bool
  segmentEnd : Nat
  deriving DecidableEq, Repr

/-- Direction (up) and speed class of the latest zoom (R106). -/
structure ZoomTravel where
  up : Bool
  speed : Nat
  deriving DecidableEq, Repr

/-- ZMC: state and zoom in hand (R106), direction and speed class, kept in IDLE and none since a reset (R106,
R119), tracking enable (R107), track-limit flag (R118). -/
structure Zmc where
  mode : ZoomMode
  zoom : Option ZoomInHand
  travel : Option ZoomTravel
  tracking : Bool
  trackLimit : Bool
  deriving DecidableEq, Repr

/-! ### Motion Unit (chapter 7) -/

/-- Stabilizer modes (R128). -/
inductive StabMode where
  | off
  | optical
  | electronic
  deriving DecidableEq, Repr

/-- Shake classes (R127). -/
inductive ShakeClass where
  | still
  | normal
  | shaky
  | panning
  deriving DecidableEq, Repr

/-- The previous sign of c (R124). -/
inductive PrevSign where
  | cleared
  | positive
  | negative
  deriving DecidableEq, Repr

/-- How the axis assertions combine (R125). -/
inductive PanCombination where
  | or
  | and
  deriving DecidableEq, Repr

/-- One axis: bias B, last corrected rate c, angle A (R121 to R123), pan counter and previous sign (R124),
total shift, optical target and residual of the latest sample (R130, R131). -/
structure Axis where
  bias : Int
  angle : Int
  rate : Int
  panCount : Nat
  prevSign : PrevSign
  total : Int
  optical : Int
  residual : Int
  deriving DecidableEq, Repr

/-- A pair of values on the two axes. -/
structure AxisPair where
  yaw : Int
  pitch : Int
  deriving DecidableEq, Repr

/-- The accumulator of an open blur window (R135). -/
structure BlurWindow where
  yawMax : Int
  yawMin : Int
  pitchMax : Int
  pitchMin : Int
  count : Nat
  deriving DecidableEq, Repr

/-- A blur record (R135). -/
structure BlurRecord where
  yaw : Nat
  pitch : Nat
  count : Nat
  deriving DecidableEq, Repr

/-- Parameters of STAB_SETUP (R138). -/
structure StabParams where
  dt : Nat
  biasShift : Nat
  leakShift : Nat
  panRef : Nat
  panDeb : Nat
  combination : PanCombination
  yawEnable : Bool
  pitchEnable : Bool
  stillRef : Nat
  shakyRef : Nat
  ppu : Nat
  shiftTol : Nat
  shiftFaultCount : Nat
  blurLimit : Nat
  deriving DecidableEq, Repr

/-- MOU: mode (R128), fault state and counter (R133, R134), parameters (R138), axes, pan (R125), shake class
and interval (R127), last sequence number (R121), target history (R133), latest readback (R133), strobe
level and blur window (R135), blur queue, oldest first (R136). -/
structure Mou where
  mode : StabMode
  fault : Bool
  faultCount : Nat
  params : StabParams
  yaw : Axis
  pitch : Axis
  pan : Bool
  shake : ShakeClass
  peak : Nat
  panSeen : Bool
  sampleSeen : Bool
  lastSeq : Option Nat
  target : AxisPair
  targetBefore : Option AxisPair
  readback : AxisPair
  strobe : Bool
  window : Option BlurWindow
  queue : List BlurRecord
  deriving DecidableEq, Repr

/-! ### Capture Store (chapter 8) -/

/-- Slot states (R141). -/
inductive SlotState where
  | free
  | filling
  | ready
  | held
  | sending
  deriving DecidableEq, Repr

/-- Parts of a capture (R140). -/
inductive Part where
  | stream
  | pre
  | post
  deriving DecidableEq, Repr

/-- Moving flags of the three motors (R142). -/
structure Moving where
  zoom : Bool
  focus : Bool
  iris : Bool
  deriving DecidableEq, Repr

/-- The frame record of R142, in the order of its table. -/
structure FrameRecord where
  fn : Nat
  captureId : Nat
  part : Part
  index : Nat
  outW : Nat
  outH : Nat
  length : Nat
  exposure : FrameExposure
  zoom : MotorState
  focus : MotorState
  iris : MotorState
  moving : Moving
  afState : AfState
  primary : Option Nat
  primaryFigure : Option Nat
  shake : ShakeClass
  stab : StabMode
  blur : Option BlurRecord
  cropX : Nat
  cropY : Nat
  skippedBefore : Nat
  forced : Bool
  blurred : Bool
  trackLimit : Bool
  shiftLimit : Bool
  clippedSubject : Bool
  deriving DecidableEq, Repr

/-- A slot record (R140): before is the state a SENDING slot had. -/
structure Slot where
  state : SlotState
  record : Option FrameRecord
  recordSent : Bool
  imageSent : Bool
  captureId : Nat
  part : Part
  order : Nat
  before : SlotState
  deriving DecidableEq, Repr

/-- Store modes (R145). -/
inductive StoreMode where
  | off
  | stream
  | burst
  | pretrigger
  deriving DecidableEq, Repr

/-- Capture states (section 8.3). -/
inductive CaptureState where
  | idle
  | armed
  | gating
  | capturing
  deriving DecidableEq, Repr

/-- Overflow policies (R147). -/
inductive Overflow where
  | stop
  | overwrite
  deriving DecidableEq, Repr

/-- Gate timeout actions (R152). -/
inductive TimeoutAction where
  | proceed
  | cancel
  deriving DecidableEq, Repr

/-- Release modes (R155). -/
inductive ReleaseMode where
  | auto
  | explicit
  deriving DecidableEq, Repr

/-- Notice modes (R159). -/
inductive NoticeMode where
  | none
  | first
  | every
  | heldOnly
  deriving DecidableEq, Repr

/-- The gate mask (R145, R151). -/
structure GateMask where
  aeSettled : Bool
  afLocked : Bool
  shakeOk : Bool
  deriving DecidableEq, Repr

/-- The filter mask (R145, R153). -/
structure FilterMask where
  blurred : Bool
  irisMoving : Bool
  zoomMoving : Bool
  focusMoving : Bool
  aeUnsettled : Bool
  deriving DecidableEq, Repr

/-- The hold mask (R145, R149). -/
structure HoldMask where
  forced : Bool
  blurred : Bool
  clippedSubject : Bool
  shiftLimit : Bool
  trackLimit : Bool
  aeUnsettled : Bool
  deriving DecidableEq, Repr

/-- Parameters of STORE_SETUP but for the slot count, which is the length of the slot list (R145). -/
structure StoreParams where
  mode : StoreMode
  overflow : Overflow
  nAfter : Nat
  nPre : Nat
  gate : GateMask
  gateTimeout : Nat
  timeoutAction : TimeoutAction
  filter : FilterMask
  skipMax : Nat
  hold : HoldMask
  release : ReleaseMode
  notice : NoticeMode
  deriving DecidableEq, Repr

/-- One line of the shutter (R160): the timer is the loaded debounce time in ms while it runs. -/
structure Shutter where
  raw : Bool
  debounced : Bool
  timer : Option Nat
  enable : Bool
  deriving DecidableEq, Repr

/-- The capture counters (R143). filedPre counts the PRE frames filed, from which their index is taken
(R142, log entry 17). -/
structure Counters where
  storedStream : Nat
  storedPre : Nat
  storedPost : Nat
  missed : Nat
  skipped : Nat
  post : Nat
  filedPre : Nat
  deriving DecidableEq, Repr

/-- The contents of a RECORD packet, fixed when the fetch is taken (R157, R190). -/
structure RecordPacket where
  slot : Nat
  state : SlotState
  heldMark : Bool
  record : FrameRecord
  deriving DecidableEq, Repr

/-- A fetch in progress (R156 to R158): tag, slot, the storing order of the frame asked for, the RECORD packet
not yet begun, the next line of the image and its line count when the image is asked, whether it is aborted,
and whether its slot is freed at its end (R162). -/
structure Fetch where
  tag : Tag
  slot : Nat
  order : Nat
  record : Option RecordPacket
  image : Bool
  nextLine : Nat
  aborted : Bool
  freeAtEnd : Bool
  deriving DecidableEq, Repr

/-- CST: parameters (R145), slots 0..N − 1 (R140), storing order counter (R140), frame memory (R140), capture
state, id and counters (R143), gate count, awaited trigger number and forced mark (R150 to R152), skip
counter (R153), fetch (R156), notice-armed flag (R159), shutter lines, debounce time, withheld release
(R160, R161). -/
structure Cst where
  params : StoreParams
  slots : List Slot
  order : Nat
  dram : Memory
  state : CaptureState
  captureId : Nat
  counters : Counters
  gateCount : Nat
  trigger : Nat
  forced : Bool
  skips : Nat
  fetch : Option Fetch
  noticeArmed : Bool
  s1 : Shutter
  s2 : Shutter
  debounce : Nat
  withheldRelease : Bool
  deriving DecidableEq, Repr

/-! ### Condition Unit (chapter 9) -/

/-- Latch modes (R163). -/
inductive LatchMode where
  | latched
  | timed
  | level
  deriving DecidableEq, Repr

/-- One condition (R163). current and latchedLevel are used by the four state conditions alone. -/
structure Condition where
  latch : Bool
  count : Nat
  mode : LatchMode
  n : Nat
  frames : Nat
  notice : Bool
  current : Bool
  latchedLevel : Bool
  deriving DecidableEq, Repr

/-- CND: the 25 conditions in number order, and the waiting-notice flag (R163). -/
structure Cnd where
  conditions : List Condition
  waiting : Bool
  deriving DecidableEq, Repr

/-! ### Link Interface (chapter 10) -/

/-- Reply statuses (R177). -/
inductive Status where
  | done
  | doneClamped
  | accepted
  | refusedBusy
  | refusedState
  | refusedArg
  | refusedTable
  | refusedUnreferenced
  | unknownCommand
  deriving DecidableEq, Repr

/-- An upstream packet that passed its check: TABLE_DATA or COMMAND, tag and payload (R173). -/
structure HostPacket where
  tableData : Bool
  tag : Tag
  payload : List Byte
  deriving DecidableEq, Repr

/-- A place of the command buffer (R175): a packet not yet handed on, the command being taken by its block,
or a command whose REPLY is built and waits to be sent. -/
inductive BufferPlace where
  | waiting (packet : HostPacket)
  | taken (tag : Tag)
  | answered (tag : Tag)
  deriving DecidableEq, Repr

/-- A downstream packet: kind byte, tag and payload (R173, R187). -/
structure Packet where
  kind : Byte
  tag : Tag
  payload : List Byte
  deriving DecidableEq, Repr

/-- A REPLY of the reply queue (R177), with the HISTORY or STATUS packets that follow it (R178). -/
structure Reply where
  tag : Tag
  code : Byte
  status : Status
  data : List Byte
  follow : List Packet
  deriving DecidableEq, Repr

/-- What the end of the packet being sent brings about (R157, R158): nothing, the record_sent of a slot's
frame, the end of the image, or the end of an aborted fetch. -/
inductive SendEnd where
  | nothing
  | record (slot : Nat) (order : Nat)
  | line (final : Bool)
  | abort
  deriving DecidableEq, Repr

/-- The packet being sent: its bytes as they stand on the link, header, payload and check (R174, R187), and what its
end brings about. -/
structure Sending where
  bytes : List Byte
  atEnd : SendEnd
  deriving DecidableEq, Repr

/-- One table: pending copy, working copy, valid flag, commit-pending flag (R179). -/
structure Table where
  pending : Memory
  working : Memory
  valid : Bool
  commitPending : Bool
  deriving DecidableEq, Repr

/-- A RESET whose REPLY is not yet built (R184): its tag, and whether it kept a waiting NOTICE, which is then sent
after that REPLY (R172). -/
structure ResetWait where
  tag : Tag
  noticeKept : Bool
  deriving DecidableEq, Repr

/-- LNK: command buffer (R175), reply queue and the packets that follow the REPLY last begun (R178), packet
being sent, link-error mark and count (R174), the fourteen tables (R179), RESET in progress (R184). -/
structure Lnk where
  buffer : List BufferPlace
  replies : List Reply
  following : List Packet
  sending : Option Sending
  errorMark : Bool
  errorCount : Nat
  tables : List Table
  resetWait : Option ResetWait
  deriving DecidableEq, Repr

/-! ### The machine -/

/-- The LF760. choices counts the free choices taken so far (the model's own field, log entry 6); pending
holds the commands and events that wait, first in first out. -/
structure State where
  intake : Intake
  pxp : Pxp
  stats : Stats
  aec : Aec
  lds : Lds
  afc : Afc
  zmc : Zmc
  mou : Mou
  cst : Cst
  cnd : Cnd
  lnk : Lnk
  choices : Nat
  pending : List Instr
  deriving DecidableEq, Repr

/-- Reasons a step can stop with a fault. -/
inductive Fault where
  /-- Raised by LINE and by PACKET_BOUNDARY when the bytes of a stored line would lie beyond the end of the
  frame memory (R140: it holds 268,435,456 bytes). Safe: R3 and R145 keep every frame within its slot, so no run
  from reset reaches it. -/
  | frameMemoryAddress
  deriving DecidableEq, Repr

/-- Reasons a step can be refused. -/
inductive Refusal where
  /-- Raised by exec for a row without a meaning. Safe: the machine stops. No arm uses it. -/
  | notModelled (mnemonic : String)
  deriving DecidableEq, Repr

/-! ### Updates of one block -/

def State.setIntake (s : State) (x : Intake) : State := { s with intake := x }
def State.setPxp (s : State) (x : Pxp) : State := { s with pxp := x }
def State.setStats (s : State) (x : Stats) : State := { s with stats := x }
def State.setAec (s : State) (x : Aec) : State := { s with aec := x }
def State.setLds (s : State) (x : Lds) : State := { s with lds := x }
def State.setAfc (s : State) (x : Afc) : State := { s with afc := x }
def State.setZmc (s : State) (x : Zmc) : State := { s with zmc := x }
def State.setMou (s : State) (x : Mou) : State := { s with mou := x }
def State.setCst (s : State) (x : Cst) : State := { s with cst := x }
def State.setCnd (s : State) (x : Cnd) : State := { s with cnd := x }
def State.setLnk (s : State) (x : Lnk) : State := { s with lnk := x }
def State.setChoices (s : State) (x : Nat) : State := { s with choices := x }
def State.setPending (s : State) (x : List Instr) : State := { s with pending := x }

/-! ### Reset values -/

def resetGeometry : Geometry := ⟨4640, 3480, 4384, 3288⟩

/-- INTAKE after power-on reset (R2, R3, R16). -/
def resetIntake : Intake where
  mode := .stopped
  fn := 0
  lineCounter := 0
  timer := none
  geometry := resetGeometry
  black := ⟨64, 64, 64, 64⟩
  b1 := 512
  b2 := 1024
  b3 := 1536
  timeout := 200
  lastSof := none

/-- PXP after power-on reset (R16): no per-frame values, dg(0), the centre of the margins. -/
def resetPxp : Pxp := ⟨none, none, 256, 128, 96⟩

/-- STATS after power-on reset (R31). -/
def resetStats : Stats := ⟨64, 16, 0, 0, 0, none, none⟩

def resetAeParams : AeParams := ⟨150, 0, 2, 8, 24, 3, 12, 8, 4, 32, 2, 0⟩

/-- The exposure of no frame: what a frame without a record in effect has at iris position 0 (R38). -/
def noExposure : FrameExposure := ⟨0, 0, 0, 0, 0, .live, none, .off, false⟩

/-- AEC after power-on reset (R57). -/
def resetAec : Aec where
  state := .off
  params := resetAeParams
  inFlight := []
  latest := none
  awaiting := none
  retry := none
  sequence := none
  bus := none
  failures := 0
  retryFlag := false
  manual := none
  program := .live
  markDue := false
  trigger := 0
  settledCount := 0
  settled := false
  breakCount := 0
  m := 0
  e := 0
  tEff := 0
  frame := noExposure
  copy := ⟨[], 0, []⟩
  irisMoved := false

def resetLensParams : LensParams := ⟨⟨0, 1, 2, 2, 3, 3⟩, 1, 3, 2, 12, 8, 256, 4⟩

def noSlots : Slots := ⟨none, none, none, none, none, none⟩

/-- LDS after power-on reset (R58, R80), with the sensor levels sampled from the lines. -/
def resetLds (lens : LensSample) : Lds where
  zoom := ⟨0, false⟩
  focus := ⟨0, false⟩
  iris := ⟨0, false⟩
  latched := lens
  running := none
  timer := none
  stack := []
  slots := noSlots
  reference := none
  park := none
  params := resetLensParams

def resetWindows : List Window :=
  ⟨true, 6, 4, 4, 4⟩ :: List.replicate 7 ⟨false, 0, 0, 1, 1⟩

/-- AFC after power-on reset (R83, R105). -/
def resetAfc : Afc where
  mode := .off
  selection := .selected
  selected := 0
  windows := resetWindows
  coarseStep := 48
  fineStep := 8
  minFigure := 20000
  monitorFrames := 6
  monitorRatio := 12
  settleTimeout := 30
  state := .idle
  failure := none
  scan := none
  restarts := 0
  history := []
  historyMade := false
  windowSet := []
  range := none
  primary := none
  lock := none
  primaryFigure := none
  frame := none
  monitorCount := 0
  settleCount := 0
  rescanAfterZoom := false

/-- ZMC after power-on reset (R119). -/
def resetZmc : Zmc := ⟨.idle, none, none, true, false⟩

def resetStabParams : StabParams := ⟨500, 10, 12, 1280, 200, .or, true, true, 64, 640, 96, 64, 4, 24⟩

def resetAxis : Axis := ⟨0, 0, 0, 0, .cleared, 0, 0, 0⟩

/-- MOU after power-on reset (R139), with the strobe level sampled from the line. -/
def resetMou (strobe : Bool) : Mou where
  mode := .off
  fault := false
  faultCount := 0
  params := resetStabParams
  yaw := resetAxis
  pitch := resetAxis
  pan := false
  shake := .normal
  peak := 0
  panSeen := false
  sampleSeen := false
  lastSeq := none
  target := ⟨0, 0⟩
  targetBefore := none
  readback := ⟨0, 0⟩
  strobe := strobe
  window := none
  queue := []

/-- A FREE slot (R141), which holds no frame: part STREAM, capture id 0, sent flags false (log entry 72). -/
def freeSlot : Slot := ⟨.free, none, false, false, 0, .stream, 0, .free⟩

def resetStoreParams : StoreParams where
  mode := .off
  overflow := .stop
  nAfter := 8
  nPre := 4
  gate := ⟨true, false, false⟩
  gateTimeout := 15
  timeoutAction := .proceed
  filter := ⟨false, false, false, false, false⟩
  skipMax := 0
  hold := ⟨false, false, false, false, false, false⟩
  release := .auto
  notice := .none

def noCounters : Counters := ⟨0, 0, 0, 0, 0, 0, 0⟩

/-- CST after power-on reset (R145, R162), with the shutter levels sampled from the lines. -/
def resetCst (s1 s2 : Bool) : Cst where
  params := resetStoreParams
  slots := List.replicate 12 freeSlot
  order := 0
  dram := []
  state := .idle
  captureId := 0
  counters := noCounters
  gateCount := 0
  trigger := 0
  forced := false
  skips := 0
  fetch := none
  noticeArmed := false
  s1 := ⟨s1, s1, none, false⟩
  s2 := ⟨s2, s2, none, false⟩
  debounce := 10
  withheldRelease := false

/-- A condition after power-on reset (R172). Its frame counter, which R172 calls stopped, holds 0 (log entry 74). -/
def resetCondition : Condition := ⟨false, 0, .latched, 1, 0, false, false, false⟩

/-- CND after power-on reset (R172): every current level is false, as the other blocks leave them. -/
def resetCnd : Cnd := ⟨List.replicate 25 resetCondition, false⟩

def resetTable : Table := ⟨[], [], false, false⟩

/-- LNK after power-on reset (R185): all bytes of the tables are 0. -/
def resetLnk : Lnk where
  buffer := []
  replies := []
  following := []
  sending := none
  errorMark := false
  errorCount := 0
  tables := List.replicate 14 resetTable
  resetWait := none

/-- The machine right after power-on reset with every sampled line inactive (log entry 4). -/
def State.reset : State where
  intake := resetIntake
  pxp := resetPxp
  stats := resetStats
  aec := resetAec
  lds := resetLds ⟨false, false, false⟩
  afc := resetAfc
  zmc := resetZmc
  mou := resetMou false
  cst := resetCst false false
  cnd := resetCnd
  lnk := resetLnk
  choices := 0
  pending := []

end Sys2Proof.Machine
end

