-- ==== Sys2Proof/Machine/Ops.lean ====
section
/-! DEFINITION. The operations shared by every block: bytes of memory and of tables, rounding (section
4.5), the orders of frame numbers and storing orders (section 4.3, R140), bit sets and byte fields (R187),
the zoom table lookups (R116), and the cyclic check (R174). -/

namespace Sys2Proof.Machine

/-! ### Memory -/

/-- What an address that is not listed reads as: all table bytes are 0 after power-on reset (R185); for the
frame memory, log entry 14. -/
def unlistedByte : Byte := 0

/-- The byte at address a. -/
def memRead : Memory → Nat → Byte
  | [], _ => unlistedByte
  | (k, v) :: rest, a => if a = k then v else memRead rest a

/-- Writes byte b at address a, keeping the canonical form. -/
def memWrite : Memory → Nat → Byte → Memory
  | [], a, b => if b = unlistedByte then [] else [(a, b)]
  | (k, v) :: rest, a, b =>
    if a < k then (if b = unlistedByte then (k, v) :: rest else (a, b) :: (k, v) :: rest)
    else if a = k then (if b = unlistedByte then rest else (a, b) :: rest)
    else (k, v) :: memWrite rest a b

/-- Writes a run of bytes from address a on. -/
def memWriteBytes (m : Memory) (a : Nat) : List Byte → Memory
  | [] => m
  | b :: bs => memWriteBytes (memWrite m a b) (a + 1) bs

/-- The n bytes from address a on. -/
def memReadBytes (m : Memory) (a n : Nat) : List Byte := (List.range n).map fun i => memRead m (a + i)

/-- The canonical form: addresses strictly rising, every listed address at least lo, no listed byte equal to
what an unlisted address reads as. -/
def memWfFrom (lo : Nat) : Memory → Bool
  | [] => true
  | (k, v) :: rest => decide (lo ≤ k) && decide (v ≠ unlistedByte) && memWfFrom (k + 1) rest

/-- The canonical form of a memory. -/
def memWf (m : Memory) : Bool := memWfFrom 0 m

/-! ### Numbers -/

/-- A value held to lo..hi (section 4.6). -/
def clampNat (lo hi n : Nat) : Nat := max lo (min hi n)

/-- A signed value held to lo..hi (section 4.6). -/
def clampInt (lo hi i : Int) : Int := max lo (min hi i)

/-- i / d rounded half away from zero (section 4.5). -/
def divRoundAway (i : Int) (d : Nat) : Int :=
  if 0 ≤ i then (((2 * i.natAbs + d) / (2 * d) : Nat) : Int) else -(((2 * i.natAbs + d) / (2 * d) : Nat) : Int)

/-- i / d rounded to the nearest even integer, a value exactly between two even integers going to the one
nearer zero (section 4.5, R132). -/
def divRoundEvenTowardZero (i : Int) (d : Nat) : Int :=
  if 0 ≤ i then ((2 * ((i.natAbs + d - 1) / (2 * d)) : Nat) : Int)
  else -((2 * ((i.natAbs + d - 1) / (2 * d)) : Nat) : Int)

/-- Frame A is later than frame B (section 4.3). -/
def fnLater (a b : Nat) : Bool :=
  let d := (a + 65536 - b % 65536) % 65536
  decide (1 ≤ d ∧ d ≤ 32767)

/-- The frame number after n (R6). -/
def fnNext (n : Nat) : Nat := (n + 1) % 65536

/-- Storing order a is later than b (R140). -/
def orderLater (a b : Nat) : Bool :=
  let d := (a + 4294967296 - b % 4294967296) % 4294967296
  decide (1 ≤ d ∧ d ≤ 2147483647)

/-- Distance of two positions. -/
def distance (a b : Nat) : Nat := max a b - min a b

/-- Member j of the listing is in the bit set n (R187). -/
def inBitSet (n j : Nat) : Bool := n.testBit j

/-- The bit set n has no bit at or above the size of its listing (R188). -/
def bitSetWithin (n size : Nat) : Bool := decide (n < 2 ^ size)

/-- Replaces element i of a list by its image under f, leaving the list as it is when there is no element i. -/
def modifyAt {α : Type} (f : α → α) : List α → Nat → List α
  | [], _ => []
  | x :: xs, 0 => f x :: xs
  | x :: xs, i + 1 => x :: modifyAt f xs i

/-! ### Byte fields (R187) -/

def byteOf (n : Nat) : Byte := BitVec.ofNat 8 n

/-- A two-byte field, high byte first. -/
def field16 (n : Nat) : List Byte := [byteOf (n / 256), byteOf n]

/-- A four-byte field, high byte first. -/
def field32 (n : Nat) : List Byte := field16 (n / 65536) ++ field16 n

/-- A signed two-byte field, two's complement. -/
def fieldSigned16 (i : Int) : List Byte := field16 (i % 65536).toNat

/-- A signed four-byte field, two's complement. -/
def fieldSigned32 (i : Int) : List Byte := field32 (i % 4294967296).toNat

def fieldBool (b : Bool) : List Byte := [if b then 1 else 0]

def field8 (n : Nat) : List Byte := [byteOf n]

/-- An optional field of one byte: presence, then the value or 0. -/
def fieldOption8 : Option Nat → List Byte
  | some n => [1, byteOf n]
  | none => [0, 0]

/-- An optional field of two bytes: presence, then the value or 0. -/
def fieldOption16 : Option Nat → List Byte
  | some n => 1 :: field16 n
  | none => 0 :: field16 0

/-- The primary window: one byte, FFh when absent. -/
def fieldPrimary : Option Nat → List Byte
  | some n => [byteOf n]
  | none => [255]

/-- A bit set of the given members in n bytes, member j at bit j, bit 0 the least significant bit of the last
byte. -/
def fieldBitSet (n : Nat) (members : List Nat) : List Byte :=
  (List.range n).map fun i =>
    byteOf ((List.range 8).foldl
      (fun acc b => if members.contains (8 * (n - 1 - i) + b) then acc + 2 ^ b else acc) 0)

/-- A set of up to 32 members given as a number, in n bytes. -/
def fieldNumberSet (n : Nat) (bits : Nat) : List Byte :=
  (List.range n).map fun i => byteOf (bits / 256 ^ (n - 1 - i))

/-! ### The check (R174) -/

/-- One bit of the cyclic check with polynomial x^16 + x^12 + x^5 + 1. -/
def crcBit (crc : BitVec 16) (bit : Bool) : BitVec 16 :=
  let out := crc.msb
  let shifted := crc <<< 1
  if out != bit then shifted ^^^ 0x1021#16 else shifted

/-- One byte of the check, most significant bit first. -/
def crcByte (crc : BitVec 16) (b : Byte) : BitVec 16 :=
  [7, 6, 5, 4, 3, 2, 1, 0].foldl (fun c i => crcBit c (b.getLsbD i)) crc

/-- The check of a run of bytes, from the starting value 65,535. -/
def crc16 (bytes : List Byte) : BitVec 16 := bytes.foldl crcByte 0xFFFF#16

/-- The check of a run of bytes as it is sent, high byte first (R174, R187). -/
def checkBytes (bytes : List Byte) : List Byte := field16 (crc16 bytes).toNat

/-! ### Tables (R179, R191) -/

def shadingId (band : Nat) : Nat := band
def weightId (k : Nat) : Nat := 4 + k
def programLiveId : Nat := 8
def programCaptureId : Nat := 9
def timeId : Nat := 10
def againId : Nat := 11
def sensorWriteId : Nat := 12
def zoomId : Nat := 13

/-- Sizes of the tables in bytes (R179). -/
def tableSizes : List Nat :=
  [6144, 6144, 6144, 6144, 192, 192, 192, 192, 18, 18, 514, 196, 34, 264]

def tableSize (id : Nat) : Nat := tableSizes.getD id 0

def State.table (s : State) (id : Nat) : Table := s.lnk.tables.getD id resetTable

def State.tableValid (s : State) (id : Nat) : Bool := (s.table id).valid

/-- The working copy of a table. -/
def State.working (s : State) (id : Nat) : Memory := (s.table id).working

/-- The one-byte entry at offset a, as a number. -/
def tbl8 (m : Memory) (a : Nat) : Nat := (memRead m a).toNat

/-- The two-byte entry at offset a, high byte first. -/
def tbl16 (m : Memory) (a : Nat) : Nat := tbl8 m a * 256 + tbl8 m (a + 1)

/-- tI_max, the number of TIME entries less one (R35). -/
def State.tIMax (s : State) : Nat := tbl16 (s.working timeId) 0 - 1

/-- gA_max, the number of AGAIN entries less one (R35). -/
def State.gAMax (s : State) : Nat := tbl16 (s.working againId) 0 - 1

/-- GAIN_MAX = gA_max + 31 (R35). -/
def State.gainMax (s : State) : Nat := s.gAMax + 31

/-- Line count of time index tI (R35). -/
def State.timeLines (s : State) (tI : Nat) : Nat := tbl16 (s.working timeId) (2 + 2 * tI)

/-- Sensor gain code of gain index gA (R35). -/
def State.gainCode (s : State) (gA : Nat) : Nat := tbl16 (s.working againId) (2 + 2 * gA)

/-! ### Motors and zoom table lookups (R58, R116) -/

def Lds.motor (l : Lds) : Motor → MotorState
  | .zoom => l.zoom
  | .focus => l.focus
  | .iris => l.iris

def Lds.setMotor (l : Lds) (m : Motor) (x : MotorState) : Lds :=
  match m with
  | .zoom => { l with zoom := x }
  | .focus => { l with focus := x }
  | .iris => { l with iris := x }

/-- A row of the ZOOM table (R115, R191). -/
structure ZoomRow where
  aW : Nat
  hT : Nat
  k : Nat
  inf : Nat
  near : Nat
  deriving DecidableEq, Repr

/-- Row i of a ZOOM table's bytes. -/
def zoomRowOf (m : Memory) (i : Nat) : ZoomRow :=
  ⟨tbl8 m (8 * i), tbl8 m (8 * i + 1), tbl16 m (8 * i + 2), tbl16 m (8 * i + 4), tbl16 m (8 * i + 6)⟩

/-- The row looked up at zoom position p (R116). -/
def zoomRowIndex (p : Nat) : Nat := min 32 (p / 64)

/-- The row index at the zoom position as it stands, 32 while the zoom is invalid (R39, R130). -/
def State.zoomRowNow (s : State) : Nat := if s.lds.zoom.valid then zoomRowIndex s.lds.zoom.pos else 32

/-- aW at the zoom position as it stands; 47 while the ZOOM table is invalid (R39). -/
def State.aWNow (s : State) : Nat :=
  if s.tableValid zoomId then (zoomRowOf (s.working zoomId) s.zoomRowNow).aW else 47

/-- hT at the zoom position as it stands; 255 while the ZOOM table is invalid (R39). -/
def State.hTNow (s : State) : Nat :=
  if s.tableValid zoomId then (zoomRowOf (s.working zoomId) s.zoomRowNow).hT else 255

/-- K at the zoom position as it stands; 0 while the ZOOM table is invalid (R130). -/
def State.shiftScaleNow (s : State) : Nat :=
  if s.tableValid zoomId then (zoomRowOf (s.working zoomId) s.zoomRowNow).k else 0

/-- v0 + (v1 − v0) × f / 64, the fraction rounded half away from zero (R116). -/
def interpolate (v0 v1 f : Nat) : Nat :=
  ((v0 : Int) + divRoundAway (((v1 : Int) - v0) * f) 64).toNat

/-- inf at zoom position p (R116). -/
def State.infAt (s : State) (p : Nat) : Nat :=
  let m := s.working zoomId
  if 2048 ≤ p then (zoomRowOf m 32).inf
  else interpolate (zoomRowOf m (p / 64)).inf (zoomRowOf m (p / 64 + 1)).inf (p % 64)

/-- near at zoom position p (R116). -/
def State.nearAt (s : State) (p : Nat) : Nat :=
  let m := s.working zoomId
  if 2048 ≤ p then (zoomRowOf m 32).near
  else interpolate (zoomRowOf m (p / 64)).near (zoomRowOf m (p / 64 + 1)).near (p % 64)

/-! ### Focus windows on the zone grid (R23) -/

def Window.usedColumns (w : Window) : Nat := min w.nc (16 - w.fc)

def Window.usedRows (w : Window) : Nat := min w.nr (12 - w.fr)

/-- The zones of a window, in zone order (R23). -/
def Window.zones (w : Window) : List Nat :=
  (List.range w.usedRows).flatMap fun r => (List.range w.usedColumns).map fun c => 16 * (w.fr + r) + (w.fc + c)

end Sys2Proof.Machine
end

