-- ==== Sys2Proof/Machine/Operands.lean ====
section
/-! DEFINITION. The operand forms of the host commands: structural arguments read as enumerations (section
11.5, R188), continuous arguments clamped to their ranges (section 4.6), and whether a clamp acted. -/

namespace Sys2Proof.Machine

/-- A continuous argument clamped to lo..hi, with whether the clamp changed it (section 4.6). -/
structure Clamped (α : Type) where
  value : α
  changed : Bool
  deriving DecidableEq, Repr

def clampArg (lo hi n : Nat) : Clamped Nat := ⟨clampNat lo hi n, clampNat lo hi n != n⟩

def clampIntArg (lo hi i : Int) : Clamped Int := ⟨clampInt lo hi i, clampInt lo hi i != i⟩

/-- DONE_CLAMPED when a clamp acted, else the given status (section 4.6). -/
def clampedStatus (changed : Bool) (otherwise : Status) : Status := if changed then .doneClamped else otherwise

/-- A yes or no argument: 1 or 0 (R188). -/
def yesNo? : Nat → Option Bool
  | 0 => some false
  | 1 => some true
  | _ => none

def aeModeArg? : Nat → Option AeState
  | 0 => some .off
  | 1 => some .run
  | 3 => some .locked
  | _ => none

def afMode? : Nat → Option AfMode
  | 0 => some .off
  | 1 => some .single
  | 2 => some .continuous
  | 3 => some .manual
  | _ => none

def selection? : Nat → Option Selection
  | 0 => some .selected
  | 1 => some .multi
  | _ => none

/-- ZOOM_SETUP: ON 0, OFF 1, in the written order of R107 (log entry 24). -/
def onOff? : Nat → Option Bool
  | 0 => some true
  | 1 => some false
  | _ => none

def stabMode? : Nat → Option StabMode
  | 0 => some .off
  | 1 => some .optical
  | 2 => some .electronic
  | _ => none

def panCombination? : Nat → Option PanCombination
  | 0 => some .or
  | 1 => some .and
  | _ => none

def storeMode? : Nat → Option StoreMode
  | 0 => some .off
  | 1 => some .stream
  | 2 => some .burst
  | 3 => some .pretrigger
  | _ => none

def overflow? : Nat → Option Overflow
  | 0 => some .stop
  | 1 => some .overwrite
  | _ => none

def timeoutAction? : Nat → Option TimeoutAction
  | 0 => some .proceed
  | 1 => some .cancel
  | _ => none

def releaseMode? : Nat → Option ReleaseMode
  | 0 => some .auto
  | 1 => some .explicit
  | _ => none

def noticeMode? : Nat → Option NoticeMode
  | 0 => some .none
  | 1 => some .first
  | 2 => some .every
  | 3 => some .heldOnly
  | _ => none

def latchMode? : Nat → Option LatchMode
  | 0 => some .latched
  | 1 => some .timed
  | 2 => some .level
  | _ => none

/-- A gate mask in the order of R145. -/
def gateMask? (n : Nat) : Option GateMask :=
  if bitSetWithin n 3 then some ⟨inBitSet n 0, inBitSet n 1, inBitSet n 2⟩ else none

/-- A filter mask in the order of R145. -/
def filterMask? (n : Nat) : Option FilterMask :=
  if bitSetWithin n 5 then some ⟨inBitSet n 0, inBitSet n 1, inBitSet n 2, inBitSet n 3, inBitSet n 4⟩ else none

/-- A hold mask in the order of R145. -/
def holdMask? (n : Nat) : Option HoldMask :=
  if bitSetWithin n 6 then
    some ⟨inBitSet n 0, inBitSet n 1, inBitSet n 2, inBitSet n 3, inBitSet n 4, inBitSet n 5⟩
  else none

/-- FETCH selectors (R156). -/
inductive Selector where
  | oldest
  | newest
  | slot
  deriving DecidableEq, Repr

def selector? : Nat → Option Selector
  | 0 => some .oldest
  | 1 => some .newest
  | 2 => some .slot
  | _ => none

/-- FETCH parts (R156). -/
structure Parts where
  record : Bool
  image : Bool
  deriving DecidableEq, Repr

def parts? : Nat → Option Parts
  | 0 => some ⟨true, false⟩
  | 1 => some ⟨false, true⟩
  | 2 => some ⟨true, true⟩
  | _ => none

/-- RESET scopes (R184): FULL is true. -/
def resetScope? : Nat → Option Bool
  | 0 => some false
  | 1 => some true
  | _ => none

/-- The bytes of a stored frame of a geometry: out_w × out_h × 3/2 (R140). -/
def storedBytes (g : Geometry) : Nat := g.outW * g.outH * 3 / 2

/-- The slot size at slot count n (R140). -/
def slotSize (n : Nat) : Nat := Config.frameMemoryBytes / n

/-- The ranges and constraints of R2. -/
def geometryAllowed (g : Geometry) : Bool :=
  decide (640 ≤ g.w ∧ g.w ≤ 5120 ∧ g.w % 2 = 0) &&
  decide (480 ≤ g.h ∧ g.h ≤ 3840 ∧ g.h % 2 = 0) &&
  decide (320 ≤ g.outW ∧ g.outW ≤ g.w ∧ g.outW % 2 = 0 ∧ (g.w - g.outW) % 4 = 0) &&
  decide (240 ≤ g.outH ∧ g.outH ≤ g.h ∧ g.outH % 2 = 0 ∧ (g.h - g.outH) % 4 = 0)

def marginX (g : Geometry) : Nat := g.w - g.outW

def marginY (g : Geometry) : Nat := g.h - g.outH

end Sys2Proof.Machine
end

