-- ==== Sys2Proof/Machine/Flags.lean ====
section
/-! DEFINITION. The Condition Unit (chapter 9): raising an event condition, following a level, clearing,
timed latches, set-up and resets, and the queueing of a NOTICE. -/

namespace Sys2Proof.Machine

/-! ### Condition numbers (R163) -/

def condAeSettled : Nat := 0
def condAeLimitHigh : Nat := 1
def condAeLimitLow : Nat := 2
def condAeFault : Nat := 3
def condMoveDone : Nat := 4
def condLensLost : Nat := 5
def condLensFault : Nat := 6
def condAfLocked : Nat := 7
def condAfFailed : Nat := 8
def condAfAborted : Nat := 9
def condZoomDone : Nat := 10
def condZoomEnd : Nat := 11
def condPan : Nat := 12
def condShiftFault : Nat := 13
def condShiftLimit : Nat := 14
def condMotionGap : Nat := 15
def condFrameReady : Nat := 16
def condFrameHeld : Nat := 17
def condStoreFull : Nat := 18
def condCaptureDone : Nat := 19
def condTriggerTimeout : Nat := 20
def condFrameTruncated : Nat := 21
def condSensorStall : Nat := 22
def condLineError : Nat := 23
def condTableApplied : Nat := 24

/-- The four state conditions, in condition-number order (R163). -/
def stateConditions : List Nat := [condAeSettled, condPan, condShiftFault, condStoreFull]

def isStateCondition (k : Nat) : Bool := stateConditions.contains k

/-- The groups Lens and Tables (R163), which RESET PIPELINE keeps (R172). -/
def keptByPipeline (k : Nat) : Bool := [condMoveDone, condLensLost, condLensFault, condTableApplied].contains k

def Cnd.condition (c : Cnd) (k : Nat) : Condition := c.conditions.getD k resetCondition

/-- Changes condition k. -/
def cndModify (c : Cnd) (k : Nat) (f : Condition → Condition) : Cnd :=
  { c with conditions := modifyAt f c.conditions k }

/-- A latching of condition k queues a NOTICE when its enable is yes and none waits (R169). -/
def cndQueueNotice (c : Cnd) (k : Nat) : Cnd := if (c.condition k).notice then { c with waiting := true } else c

/-- The frame counter a raising or change loads (R164, R165, R166). -/
def loadFrames (x : Condition) : Nat := if x.mode = .timed then x.n else x.frames

/-- A latch set afresh with count 1 (R164, R165). -/
def latchFresh (x : Condition) : Condition := { x with latch := true, count := 1, frames := loadFrames x }

/-- A raising or change while the latch is set (R164, R165). -/
def latchAgain (x : Condition) : Condition := { x with count := min 255 (x.count + 1), frames := loadFrames x }

/-- Event condition k is raised (R164). -/
def cndRaise (c : Cnd) (k : Nat) : Cnd :=
  if (c.condition k).latch then cndModify c k latchAgain
  else cndQueueNotice (cndModify c k latchFresh) k

/-- A state condition's response to a change of its current level to b (R165, R167). -/
def levelChanged (b : Bool) (x : Condition) : Condition :=
  match x.mode with
  | .level => { x with current := b, latch := b, latchedLevel := b, count := if b then 1 else 0 }
  | _ =>
    if x.latch then latchAgain { x with current := b }
    else latchFresh { x with current := b, latchedLevel := b }

/-- The owning block of state condition k reports level b (R165). -/
def cndSetLevel (c : Cnd) (k : Nat) (b : Bool) : Cnd :=
  let x := c.condition k
  if x.current = b then c
  else if x.mode ≠ .level ∧ x.latch then cndModify c k (levelChanged b)
  else cndQueueNotice (cndModify c k (levelChanged b)) k

/-- The latch after a clear, before any re-latch (R168). The stopped frame counter holds 0 (log entry 74). -/
def latchCleared (x : Condition) : Condition := { x with latch := false, count := 0, frames := 0 }

/-- Clearing condition k re-latches it: a state condition whose level differs from its latched level (R168). -/
def relatches (k : Nat) (x : Condition) : Bool := isStateCondition k && (x.current != x.latchedLevel)

/-- The clear of one condition (R168). -/
def cndClear (c : Cnd) (k : Nat) : Cnd :=
  let x := c.condition k
  if x.mode = .level ∨ x.latch = false then c
  else if relatches k x then
    cndQueueNotice (cndModify c k fun y => latchFresh { latchCleared y with latchedLevel := y.current }) k
  else cndModify c k latchCleared

/-- Condition k counts frames: TIMED with its latch set (R166). -/
def countsFrames (x : Condition) : Bool := decide (x.mode = .timed) && x.latch

/-- The frame count of condition k at an SOF (R166): its counter decreases, and at 0 its latch clears. -/
def cndFrameTick (c : Cnd) (k : Nat) : Cnd :=
  let x := c.condition k
  if countsFrames x then
    if x.frames ≤ 1 then cndClear (cndModify c k fun y => { y with frames := 0 }) k
    else cndModify c k fun y => { y with frames := y.frames - 1 }
  else c

/-- CND's work at an SOF (R166). -/
def cndSof (c : Cnd) : Cnd := (List.range 25).foldl cndFrameTick c

/-- The expiry of condition k's frame counter (R166): acts only on a counter about to reach 0. -/
def cndExpire (c : Cnd) (k : Nat) : Cnd :=
  if (c.condition k).frames ≤ 1 then cndFrameTick c k else c

/-- CONDITIONS_SETUP on one condition (R171). A frame counter that it stops holds 0 (log entry 74). -/
def conditionSetup (notice : Bool) (mode : LatchMode) (n : Nat) (x : Condition) : Condition :=
  let y := { x with notice := notice, mode := mode, n := n }
  match x.mode, mode with
  | .level, .level => y
  | _, .level =>
    { y with latch := x.current, latchedLevel := x.current, count := if x.current then 1 else 0, frames := 0 }
  | _, .timed => { y with frames := if x.latch then n else 0 }
  | _, .latched => { y with frames := 0 }

/-- The members of a bit set of condition numbers, in condition-number order. -/
def conditionSet (set : Nat) : List Nat := (List.range 25).filter (inBitSet set)

/-- A condition after a reset (R172) that leaves its level at b; kept keeps latch, count and frame counter. A frame counter
that the reset stops holds 0 (log entry 74). -/
def conditionReset (full kept : Bool) (b : Bool) (x : Condition) : Condition :=
  if full then { resetCondition with current := b, latchedLevel := b }
  else if kept then x
  else
    let latch := decide (x.mode = .level) && b
    { x with latch := latch, count := if latch then 1 else 0, frames := 0, current := b, latchedLevel := b }

/-- The level a reset leaves for condition k: false but for SHIFT_FAULT and STORE_FULL (R172). -/
def levelAfterReset (shiftFault storeFull : Bool) (k : Nat) : Bool :=
  (k == condShiftFault && shiftFault) || (k == condStoreFull && storeFull)

/-- CND after a reset, with the levels the other blocks leave (R172). -/
def cndReset (full shiftFault storeFull : Bool) (c : Cnd) : Cnd :=
  { conditions := (List.range 25).map fun k =>
      conditionReset full (keptByPipeline k) (levelAfterReset shiftFault storeFull k) (c.condition k)
    waiting := if full then false else c.waiting }

/-! ### On the machine -/

def State.raise (s : State) (k : Nat) : State := s.setCnd (cndRaise s.cnd k)

def State.level (s : State) (k : Nat) (b : Bool) : State := s.setCnd (cndSetLevel s.cnd k b)

end Sys2Proof.Machine
end

