-- ==== Sys2Proof/Machine/Buffer.lean ====
section
/-! DEFINITION. The command buffer of the Link Interface (R174 to R177): an upstream packet's check, the turn
of a command, handing it to its block, and building its REPLY. -/

namespace Sys2Proof.Machine

/-- What a block answers to a command (R177): status, result data, and the packets that follow the REPLY. -/
structure Answer where
  status : Status
  data : List Byte
  follow : List Packet
  deriving DecidableEq, Repr

/-- An answer without result data. -/
def answer (st : Status) : Answer := ⟨st, [], []⟩

/-- The payload of an upstream packet given by its bytes on the link: what stands between the 4-byte header and the
2-byte check (R187). -/
def upPayload (p : List Byte) : List Byte := (p.drop 4).take (p.length - 6)

/-- The payload length that the header of an upstream packet states (R187). -/
def upLength (p : List Byte) : Nat := payload16 p 2

/-- An upstream packet passes (R174, R187): its last two bytes are the check of those before them, the header's length is
that of the payload and at most 264, and its kind byte is exactly COMMAND or TABLE_DATA. -/
def packetPasses (p : List Byte) : Bool :=
  decide (6 ≤ p.length) && (p.drop (p.length - 2) == checkBytes (p.take (p.length - 2))) &&
  decide ((upPayload p).length = upLength p) && decide (upLength p ≤ Config.maxUpstreamPayload) &&
  (p.getD 0 0 == 0x01#8 || p.getD 0 0 == 0x02#8)

/-- What the buffer takes of an upstream packet that passes (R173, R175). -/
def hostPacketOf (p : List Byte) : HostPacket := ⟨p.getD 0 0 == 0x02#8, p.getD 1 0, upPayload p⟩

/-- The command a buffered packet carries (R176). -/
def hostPacketCommand (p : HostPacket) : Instr :=
  if p.tableData then decodeTableData p.tag p.payload else decodeCommand p.tag p.payload

/-- The oldest packet not yet handed on (R176). -/
def nextWaiting : List BufferPlace → Option HostPacket
  | [] => none
  | .waiting p :: _ => some p
  | _ :: rest => nextWaiting rest

/-- A command is being taken by its block (R175). -/
def isTaken : BufferPlace → Bool
  | .taken _ => true
  | _ => false

/-- It is command i's turn (R176): no command is being taken, and i is the oldest packet not yet handed on, or
none waits and the buffer has a place for i to arrive in (log entry 1). -/
def commandTurn (l : Lnk) (i : Instr) : Bool :=
  !(l.buffer.any isTaken) &&
  match nextWaiting l.buffer with
  | some p => decide (hostPacketCommand p = i)
  | none => decide (l.buffer.length < Config.commandBufferPlaces)

/-- The buffer with the oldest waiting packet, or a newly arrived one, being taken (R175). -/
def takePlace (tag : Tag) : List BufferPlace → List BufferPlace
  | [] => [.taken tag]
  | .waiting _ :: rest => .taken tag :: rest
  | p :: rest => p :: takePlace tag rest

/-- The buffer once the command being taken has been answered (R175). -/
def answerPlace : List BufferPlace → List BufferPlace
  | [] => []
  | .taken tag :: rest => .answered tag :: rest
  | p :: rest => p :: answerPlace rest

/-- The command is handed to its block (R176). -/
def lnkTake (l : Lnk) (tag : Tag) : Lnk := { l with buffer := takePlace tag l.buffer }

/-- The REPLY is built and placed in the reply queue (R176, R177). -/
def lnkAnswer (l : Lnk) (tag : Tag) (code : Byte) (a : Answer) : Lnk :=
  { l with buffer := answerPlace l.buffer, replies := l.replies ++ [⟨tag, code, a.status, a.data, a.follow⟩] }

/-- Command i, taken by its block at its turn and answered; out of turn nothing happens (R176). -/
def takeCommand (i : Instr) (tag : Tag) (code : Byte) (block : State → State × Answer) (s : State) : State :=
  if commandTurn s.lnk i then
    let r := block (s.setLnk (lnkTake s.lnk tag))
    r.1.setLnk (lnkAnswer r.1.lnk tag code r.2)
  else s

/-- A payload of the wrong length is answered REFUSED_ARG, with no effect (R176). -/
def withArgs {α : Type} (p : Payload α) (block : α → State → State × Answer) (s : State) : State × Answer :=
  match p with
  | .args a => block a s
  | .wrongLength => (s, answer .refusedArg)

/-- A host command with arguments (R176). -/
def hostCommand {α : Type} (i : Instr) (tag : Tag) (code : Byte) (p : Payload α)
    (block : α → State → State × Answer) (s : State) : State :=
  takeCommand i tag code (withArgs p block) s

/-- An upstream packet arrives (R174, R175): it joins the buffer at the tail, or is dropped with a link error.
With the buffer full the flow control holds the host, and no packet arrives (log entry 34). -/
def lnkReceive (l : Lnk) (p : List Byte) : Lnk :=
  if l.buffer.length < Config.commandBufferPlaces then
    if packetPasses p then { l with buffer := l.buffer ++ [.waiting (hostPacketOf p)] }
    else { l with errorMark := true, errorCount := min 65535 (l.errorCount + 1) }
  else l

end Sys2Proof.Machine
end

