-- ==== Sys2Proof/Machine/ExposureState.lean ====
section
/-! DEFINITION. The Exposure Controller's state as the other blocks move it: SETTLED (R48), the hold during a
scan (R33), the capture program (R53, R54), and the clamp to new TIME and AGAIN tables (R35). -/

namespace Sys2Proof.Machine

/-- SETTLED by the rule of AEC's state (R48), at frame fn. -/
def settledByRule (a : Aec) (fn : Nat) : Bool :=
  match a.state with
  | .run => decide (a.params.settleCount ≤ a.settledCount)
  | .held => decide (a.params.settleCount ≤ a.settledCount)
  | .fault => false
  | _ => a.latest.isSome && a.inFlight.all (fun r => !fnLater r.effective fn) && a.awaiting.isNone &&
      a.retry.isNone && a.sequence.isNone

/-- SETTLED judged anew, and AE_SETTLED following it (R48). -/
def aecJudge (s : State) : State :=
  let b := settledByRule s.aec s.intake.fn
  (s.setAec { s.aec with settled := b }).level condAeSettled b

/-- SETTLED judged anew where it follows the records: not in RUN and HELD, where a counting frame judges it. -/
def aecJudgeRecords (s : State) : State :=
  match s.aec.state with
  | .run => s
  | .held => s
  | _ => aecJudge s

/-- AEC enters a state (R48: at every state change SETTLED is judged anew). -/
def aecEnter (s : State) (st : AeState) : State := aecJudge (s.setAec { s.aec with state := st })

/-- AEC follows AFC's entering (scanning) or leaving of COARSE and FINE (R33). -/
def aecFollowFocus (s : State) (scanning : Bool) : State :=
  if scanning then
    if s.aec.state = .run then aecEnter (s.setAec { s.aec with breakCount := 0 }) .held else s
  else if s.aec.state = .held then aecEnter s .run
  else s

/-- An issued record without its capture mark (R53). -/
def Issue.unmark (i : Issue) : Issue := { i with mark := none }

/-- A trigger reaches AEC (R53). -/
def aecTrigger (a : Aec) : Aec :=
  { a with
    program := .capture
    trigger := (a.trigger + 1) % 256
    markDue := true
    inFlight := a.inFlight.map fun r => { r with issue := r.issue.unmark }
    awaiting := a.awaiting.map Issue.unmark
    retry := a.retry.map Issue.unmark
    sequence := a.sequence.map fun w => { w with issue := w.issue.unmark } }

/-- The end of a capture reaches AEC (R54). -/
def aecCaptureEnd (a : Aec) : Aec := { a with program := .live, markDue := false }

/-- A setting within the maxima of the working TIME and AGAIN tables (R35). -/
def Setting.within (x : Setting) (tIMax gAMax : Nat) : Setting := { x with tI := min tIMax x.tI, gA := min gAMax x.gA }

def Issue.within (x : Issue) (tIMax gAMax : Nat) : Issue := { x with setting := x.setting.within tIMax gAMax }

/-- AEC's held settings brought within new maxima (R35), the record being written with them (log entry 13). -/
def aecClampTables (a : Aec) (tIMax gAMax : Nat) : Aec :=
  { a with
    inFlight := a.inFlight.map fun r => { r with issue := r.issue.within tIMax gAMax }
    latest := a.latest.map (·.within tIMax gAMax)
    awaiting := a.awaiting.map (·.within tIMax gAMax)
    retry := a.retry.map (·.within tIMax gAMax)
    sequence := a.sequence.map fun w => { w with issue := w.issue.within tIMax gAMax }
    manual := a.manual.map (·.within tIMax gAMax) }

end Sys2Proof.Machine
end

