-- ==== Sys2Proof/Machine/LensSlots.lean ====
section
/-! DEFINITION. Requests and cancels of lens moves (R62 to R64, R70), the backlash rule (R61), the step periods
(R60), and which source is toward which target. -/

namespace Sys2Proof.Machine

/-- The sources in tie order (R62). -/
def sourceOrder : List Source := [.park, .track, .zoom, .iris, .af, .manual]

def perSource (p : PerSource) : Source → Nat
  | .park => p.park
  | .track => p.track
  | .zoom => p.zoom
  | .iris => p.iris
  | .af => p.af
  | .manual => p.manual

/-- The level of a source (R62). -/
def Lds.level (l : Lds) (src : Source) : Nat := perSource l.params.levels src

def Slots.get (sl : Slots) : Source → Option Request
  | .park => sl.park
  | .track => sl.track
  | .zoom => sl.zoom
  | .iris => sl.iris
  | .af => sl.af
  | .manual => sl.manual

def Slots.set (sl : Slots) (src : Source) (r : Option Request) : Slots :=
  match src with
  | .park => { sl with park := r }
  | .track => { sl with track := r }
  | .zoom => { sl with zoom := r }
  | .iris => { sl with iris := r }
  | .af => { sl with af := r }
  | .manual => { sl with manual := r }

/-- The top of a motor's range (R58). -/
def motorTop : Motor → Nat
  | .zoom => 2048
  | .focus => 4095
  | .iris => 47

/-- A motor's backlash (R61). -/
def LensParams.backlash (p : LensParams) : Motor → Nat
  | .zoom => p.zoomBacklash
  | .focus => p.focusBacklash
  | .iris => 0

/-- The step period in µs (R60). -/
def stepPeriod : Motor → Nat → Nat
  | .zoom, 0 => 2000
  | .zoom, 1 => 1000
  | .zoom, 2 => 625
  | .zoom, _ => 500
  | .focus, 0 => 1000
  | .focus, 1 => 500
  | .focus, 2 => 333
  | .focus, _ => 250
  | .iris, _ => 1500

/-- The destination of phase MAIN of a move from p toward t with backlash b (R61). -/
def mainDest (p t b : Nat) : Nat := if t < p then t - b else t

/-- The backlash rule gives no travel (R61). -/
def noTravel (p t : Nat) : Bool := decide (p = t)

/-- The source of the running move. -/
def Lds.runs (l : Lds) (src : Source) : Bool :=
  match l.running with
  | some m => decide (m.source = src)
  | none => false

/-- The source has a suspended move. -/
def Lds.suspends (l : Lds) (src : Source) : Bool := l.stack.any fun x => decide (x.source = src)

/-- The source has a move pending, suspended or running. -/
def Lds.hasMove (l : Lds) (src : Source) : Bool := (l.slots.get src).isSome || l.suspends src || l.runs src

/-- The source has a move toward target t pending, suspended or running (R47). -/
def Lds.hasMoveToward (l : Lds) (src : Source) (t : Nat) : Bool :=
  (match l.slots.get src with | some r => decide (r.target = t) | none => false) ||
  l.stack.any (fun x => decide (x.source = src ∧ x.target = t)) ||
  (match l.running with | some m => decide (m.source = src ∧ m.target = t) | none => false)

/-- No move of any source is running, suspended or pending (R72, R75). -/
def Lds.noMoves (l : Lds) : Bool :=
  l.running.isNone && l.stack.isEmpty && sourceOrder.all fun src => (l.slots.get src).isNone

/-- The drive is idle (R60). -/
def Lds.idle (l : Lds) : Bool := l.running.isNone && l.reference.isNone

/-- A suspended move takes a replaced target and class (R64). -/
def Suspended.retargeted (x : Suspended) (r : Request) : Suspended :=
  { x with target := r.target, speed := r.speed, retarget := true }

/-- A request is placed in its source's slot (R63, R64): its target clamped into the motor's range, and not
taken for a motor that is not valid. -/
def ldsPlace (l : Lds) (src : Source) (r : Request) : Lds :=
  let r := { r with target := min (motorTop r.motor) r.target }
  if (l.motor r.motor).valid then
    match l.running with
    | some m =>
      if m.source = src then
        if m.stop then { l with slots := l.slots.set src (some r) }
        else { l with running := some { m with target := r.target, speed := r.speed, retarget := true } }
      else if l.suspends src then
        { l with stack := l.stack.map fun x => if x.source = src then x.retargeted r else x }
      else { l with slots := l.slots.set src (some r) }
    | none =>
      if l.suspends src then
        { l with stack := l.stack.map fun x => if x.source = src then x.retargeted r else x }
      else { l with slots := l.slots.set src (some r) }
  else l

/-- A source cancel (R70): the pending request and the suspended move are removed, the running move is marked
for stop. -/
def ldsCancel (l : Lds) (src : Source) : Lds :=
  { l with
    slots := l.slots.set src none
    stack := l.stack.filter fun x => decide (x.source ≠ src)
    running := l.running.map fun m => if m.source = src then { m with stop := true } else m }

/-- A source cancel delivers MOVE_STOPPED at once: a pending request or suspended move is removed (R70). -/
def Lds.cancelStopsNow (l : Lds) (src : Source) : Bool := (l.slots.get src).isSome || l.suspends src

def State.place (s : State) (src : Source) (r : Request) : State := s.setLds (ldsPlace s.lds src r)

def State.cancelMove (s : State) (src : Source) : State := s.setLds (ldsCancel s.lds src)

/-- A move runs on the motor at this moment (R60), the reference's phase counting as one (R76). -/
def Lds.moving (l : Lds) (m : Motor) : Bool :=
  (match l.running with | some x => decide (x.motor = m) | none => false) ||
  (match l.reference with | some r => decide (r.motor = m) | none => false)

end Sys2Proof.Machine
end

