-- ==== Sys2Proof/Machine/Focus.lean ====
section
/-! DEFINITION. The Focus Controller (chapter 5): scan start and its checks, the coarse and fine phases, lock,
monitoring, and what each outside event does to a scan. Requests are placed in AF's slot; the caller runs
the grant. -/

namespace Sys2Proof.Machine

/-- AFC is scanning with the exposure held (R33). -/
def AfState.scanning : AfState → Bool
  | .coarse => true
  | .fine => true
  | _ => false

/-- COARSE, FINE or SETTLE: a scan is in hand. -/
def AfState.inScan : AfState → Bool
  | .coarse => true
  | .fine => true
  | .settle => true
  | _ => false

/-- LOCKED or MONITOR. -/
def AfState.lockedOn : AfState → Bool
  | .locked => true
  | .monitor => true
  | _ => false

/-- AFC enters a state, and AEC follows it (R33). -/
def afcEnter (s : State) (st : AfState) : State := aecFollowFocus (s.setAfc { s.afc with state := st }) st.scanning

/-- The primary window and the lock data cleared (R83, R85, R86). -/
def Afc.unlocked (a : Afc) : Afc := { a with primary := none, lock := none, primaryFigure := none, frame := none }

/-- AFC enters FAILED with a reason (R82): AF is cancelled, the reason recorded, AF_FAILED latched; the primary window
and the lock data are cleared at once (log entry 57). -/
def afcFail (s : State) (r : FailReason) : State :=
  let s := s.cancelMove .af
  let s := (s.setAfc { s.afc.unlocked with failure := some r, scan := none }).raise condAfFailed
  afcEnter s .failed

/-- Numbers of the enabled windows, in window order. -/
def enabledWindows (ws : List Window) : List Nat :=
  (List.range 8).filter fun i => match ws[i]? with | some w => w.enabled | none => false

/-- Positions from start toward the other end by step, the last being the other end (R88, R93). -/
def stepPositions (start other step : Nat) : List Nat :=
  (List.range ((distance start other + step - 1) / step)).map
    (fun i => if start ≤ other then start + i * step else start - i * step) ++ [other]

/-- The coarse positions from focus position p over the range inf..near by c (R88). -/
def coarsePositions (p inf near c : Nat) : List Nat :=
  if distance p inf ≤ distance near p then stepPositions inf near c else stepPositions near inf c

/-- The fine positions over lo..hi by step, from the end nearer p, the lower end when equally near (R93). -/
def finePositions (p lo hi step : Nat) : List Nat :=
  if distance p lo ≤ distance p hi then stepPositions lo hi step else stepPositions hi lo step

/-- AFC requests the AF source to a focus position, with the AF speed class (R88). -/
def afcRequest (s : State) (pos : Nat) : State := s.place .af ⟨.focus, pos, s.lds.params.afClass⟩

/-- AFC enters COARSE on the range inf..near from the present focus position, and requests the first coarse
position (R85, R88, R100). -/
def afcBeginCoarse (s : State) (inf near : Nat) : State :=
  let positions := coarsePositions s.lds.focus.pos inf near s.afc.coarseStep
  let scan : Scan :=
    { inf := inf, near := near, positions := positions, next := 1, peaks := List.replicate 8 none,
      coarsePeak := none, primary := if s.afc.selection = .selected then some s.afc.selected else none,
      drops := 0, discards := 0, wait := .move, lockPos := 0 }
  let s := s.setAfc { s.afc with scan := some scan, history := [] }
  afcRequest (afcEnter s .coarse) (positions.headD 0)

/-- A scan start whose checks have passed (R85). -/
def afcScanStart (s : State) : State :=
  let inf := s.infAt s.lds.zoom.pos
  let near := s.nearAt s.lds.zoom.pos
  let s := s.setAfc { s.afc.unlocked with
    restarts := 0, rescanAfterZoom := false, windowSet := enabledWindows s.afc.windows, range := some (inf, near) }
  afcBeginCoarse s inf near

/-- Steps 3 to 5 of the checks of AF_START: none when they pass (R85). -/
def afcRangeChecks (s : State) : Option Status :=
  if !s.tableValid zoomId then some .refusedTable
  else if !(s.lds.focus.valid && s.lds.zoom.valid) then some .refusedUnreferenced
  else if (enabledWindows s.afc.windows).isEmpty then some .refusedState
  else none

/-- Steps 2 to 5 of the checks of AF_START (R85). -/
def afcBusyChecks (s : State) : Option Status :=
  if s.afc.state.inScan || s.zmc.mode ≠ .idle then some .refusedBusy else afcRangeChecks s

/-- The checks of AF_START in order: none when it is taken (R85). -/
def afcStartChecks (s : State) : Option Status :=
  if s.afc.mode = .off ∨ s.afc.mode = .manual then some .refusedState else afcBusyChecks s

/-- AF_CANCEL's effect (R86). -/
def afcCancel (s : State) : State :=
  match s.afc.state with
  | .idle => s.setAfc { s.afc with rescanAfterZoom := false }
  | .locked | .monitor | .failed => afcEnter (s.setAfc { s.afc.unlocked with rescanAfterZoom := false }) .idle
  | _ =>
    let s := s.cancelMove .af
    afcEnter (s.setAfc { s.afc with scan := none, rescanAfterZoom := false }) .idle

/-- An S1 assertion passed to AFC (R87). -/
def afcS1Assert (s : State) : State :=
  match afcStartChecks s with
  | none => afcScanStart s
  | some _ => s

/-- An S1 release passed to AFC (R87). -/
def afcS1Release (s : State) : State :=
  match s.afc.state with
  | .coarse | .fine | .settle => afcCancel s
  | .locked => afcEnter (s.setAfc s.afc.unlocked) .idle
  | _ => s

/-- A scan ended from outside: AF is cancelled, AFC enters IDLE and AF_ABORTED latches (R101, R102). -/
def afcAbort (s : State) (rescan : Bool) : State :=
  let s := s.cancelMove .af
  let s := (s.setAfc { s.afc with scan := none, rescanAfterZoom := s.afc.rescanAfterZoom || rescan }).raise condAfAborted
  afcEnter s .idle

/-- LDS tells AFC that a ZOOM move is granted or resumed (R101). -/
def afcZoomGranted (s : State) : State :=
  if s.afc.state.inScan then afcAbort s (decide (s.afc.mode = .continuous)) else s

/-- PATH_STOP reaches AFC (R102). -/
def afcPathStop (s : State) : State := if s.afc.state.inScan then afcAbort s false else s

/-- The focus valid flag becomes false (R102). -/
def afcFocusInvalid (s : State) : State :=
  if s.afc.state.inScan || s.afc.state.lockedOn then afcFail s .lost else s

/-- ZMC has reached IDLE (R98). -/
def afcZoomIdle (s : State) : State :=
  if s.afc.rescanAfterZoom then
    let s := s.setAfc { s.afc with rescanAfterZoom := false }
    if s.afc.mode = .continuous ∧ (s.afc.state = .idle ∨ s.afc.state.lockedOn) then
      match afcRangeChecks s with
      | none => afcScanStart s
      | some _ => s
    else s
  else s

/-- A disturbance from AEC (R99). -/
def afcDisturbance (s : State) : State :=
  if s.afc.state.scanning then
    let s := s.setAfc { s.afc with restarts := s.afc.restarts + 1 }
    if 3 ≤ s.afc.restarts then afcFail s .disturbed
    else
      let s := s.cancelMove .af
      afcEnter (s.setAfc { s.afc with settleCount := 0 }) .settle
  else s

/-- The settle timeout ends the scan (R100). -/
def afcSettleExpired (s : State) : State := afcFail s .settleTimeout

/-- SETTLE at an SOF (R100): SETTLED true restarts the scan; otherwise the settle counter increases. -/
def afcSettleSof (s : State) (settled : Bool) : State :=
  if settled then
    match s.afc.scan with
    | some sc => afcBeginCoarse s sc.inf sc.near
    | none => s
  else
    let s := s.setAfc { s.afc with settleCount := s.afc.settleCount + 1 }
    if s.afc.settleTimeout ≤ s.afc.settleCount then afcSettleExpired s else s

/-- The scan as the SOF of a candidate sample frame leaves it (R89). A frame taken with the discard counter at 3 carries
the blurred mark when it is itself blurred (log entry 61). -/
def scanSof (sc : Scan) (blurred : Bool) : Scan :=
  match sc.wait with
  | .sof =>
    if blurred ∧ sc.discards < 3 then { sc with discards := sc.discards + 1 }
    else { sc with wait := .eof blurred }
  | _ => sc

/-- AFC's work at an SOF (R89, R95, R100), with the frame's BLURRED and AEC's SETTLED. -/
def afcSof (s : State) (blurred settled : Bool) : State :=
  match s.afc.state with
  | .settle => afcSettleSof s settled
  | .coarse | .fine => s.setAfc { s.afc with scan := s.afc.scan.map (scanSof · blurred) }
  | .locked | .monitor => s.setAfc { s.afc with frame := some ⟨blurred, false⟩ }
  | _ => s

/-- The MOVE_COMPLETE of an AF move (R89, R94). A completion that leaves a newer request pending is of a move
AFC no longer waits on (R82). R94 has D = lock position - inf and names no saturation: where the lock position lies below the
scan's inf, D is 0 (log entry 73). -/
def afcMoveComplete (s : State) : State :=
  match s.afc.scan with
  | none => s
  | some sc =>
    if s.afc.state.scanning && s.lds.slots.af.isNone then
      match sc.wait with
      | .move => s.setAfc { s.afc with scan := some { sc with wait := .sof, discards := 0 } }
      | .lockMove =>
        let lock : Lock := ⟨sc.lockPos, sc.lockPos - sc.inf, 0, false⟩
        let a := { s.afc with primary := sc.primary, lock := some lock, scan := none, monitorCount := 0, primaryFigure := none, frame := none }
        let s := (s.setAfc a).raise condAfLocked
        let s := s.setZmc { s.zmc with trackLimit := false }
        afcEnter s .locked
      | _ => s
    else s

/-- The end of a TRACK move by completion or stop (R97). -/
def afcTrackEnded (s : State) : State :=
  if s.afc.state.lockedOn then
    s.setAfc { s.afc with lock := s.afc.lock.map fun k => { k with taken := false }, monitorCount := 0, frame := none }
  else s

/-- A focus step is signalled to AFC (R95). -/
def afcFocusStep (a : Afc) : Afc := { a with frame := a.frame.map fun f => { f with stepped := true } }

/-- A truncated EOF reaches AFC (R102): the frame is passed over. -/
def afcTruncated (a : Afc) : Afc :=
  { a with
    frame := none
    scan := a.scan.map fun sc => match sc.wait with | .eof _ => { sc with wait := .sof } | _ => sc }

/-- An entry beats a running peak: greater F, or equal F at a larger position (R91). -/
def beatsPeak (old : Option Peak) (f pos : Nat) : Bool :=
  match old with
  | none => true
  | some p => decide (p.f < f ∨ (p.f = f ∧ p.pos < pos))

/-- A window's peak after an entry (R91). -/
def peakAfter (old : Option Peak) (f pos : Nat) : Option Peak := if beatsPeak old f pos then some ⟨f, pos⟩ else old

/-- F of window w in an entry. -/
def entryF (e : HistoryEntry) (w : Nat) : Nat := ((e.figures.find? fun g => g.window = w).map (·.f)).getD 0

/-- The drop counter after an entry with figure f (R91). -/
def dropsAfter (old : Option Peak) (f pos drops : Nat) : Nat :=
  if beatsPeak old f pos then 0
  else
    match old with
    | some p => if 8 * f < 7 * p.f then drops + 1 else 0
    | none => 0

/-- The peaks of all windows after an entry. -/
def peaksAfter (peaks : List (Option Peak)) (e : HistoryEntry) : List (Option Peak) :=
  e.figures.foldl (fun ps g => modifyAt (fun old => peakAfter old g.f e.pos) ps g.window) peaks

/-- The primary window of a MULTI scan (R92): of the qualifying windows the one whose peak lies at the largest
position, ties going to the lower index. -/
def multiPrimary (peaks : List (Option Peak)) (windows : List Nat) (minFigure : Nat) : Option (Nat × Peak) :=
  windows.foldl
    (fun best w =>
      match (peaks[w]?).join with
      | some p =>
        if p.f < minFigure then best
        else
          match best with
          | some b => if b.2.pos < p.pos then some (w, p) else best
          | none => some (w, p)
      | none => best)
    none

/-- The primary window and coarse peak at the end of the coarse phase, none when the scan fails (R92). -/
def coarseChoice (a : Afc) (sc : Scan) : Option (Nat × Peak) :=
  match a.selection with
  | .selected =>
    match (sc.peaks[a.selected]?).join with
    | some p => if p.f < a.minFigure then none else some (a.selected, p)
    | none => none
  | .multi => multiPrimary sc.peaks a.windowSet a.minFigure

/-- The end of the coarse phase (R92, R93): FAILED(LOW_CONTRAST), or FINE with its first position requested. A stretch whose
ends cross is walked like any other (log entry 73). -/
def afcCoarseEnd (s : State) (sc : Scan) : State :=
  match coarseChoice s.afc sc with
  | none => afcFail s .lowContrast
  | some (w, p) =>
    let lo := max sc.inf (p.pos - s.afc.coarseStep)
    let hi := min sc.near (p.pos + s.afc.coarseStep)
    let positions := finePositions s.lds.focus.pos lo hi s.afc.fineStep
    let sc := { sc with primary := some w, coarsePeak := some p, positions := positions, next := 1, wait := .move }
    afcRequest (afcEnter (s.setAfc { s.afc with scan := some sc }) .fine) (positions.headD 0)

/-- The better of two candidate lock entries (R94): greater primary F, ties to the larger position. -/
def betterLock (w : Nat) (best : Option Peak) (e : HistoryEntry) : Option Peak :=
  if e.fine then peakAfter best (entryF e w) e.pos else best

/-- The fine entry chosen as the lock position (R94). -/
def lockChoice (history : List HistoryEntry) (w : Nat) : Option Peak := history.foldl (betterLock w) none

/-- The lock choice after the last fine entry (R94): FAILED(UNSTABLE), or the move to the lock position. -/
def afcLockChoice (s : State) (sc : Scan) : State :=
  match lockChoice s.afc.history (sc.primary.getD 0), sc.coarsePeak with
  | some k, some p =>
    if 4 * k.f < 3 * p.f then afcFail s .unstable
    else afcRequest (s.setAfc { s.afc with scan := some { sc with wait := .lockMove, lockPos := k.pos } }) k.pos
  | _, _ => afcFail s .unstable

/-- AFC goes on to the next position of the phase (R89), or ends the phase when the positions have run out. -/
def afcNextPosition (s : State) (sc : Scan) : State :=
  match sc.positions[sc.next]? with
  | some p => afcRequest (s.setAfc { s.afc with scan := some { sc with next := sc.next + 1, wait := .move } }) p
  | none => if s.afc.state = .coarse then afcCoarseEnd s sc else afcLockChoice s sc

/-- One history entry is made from the sample frame's figures (R90 to R94), with the focus position as it stands at the EOF
(log entry 71). The drop counter, which R91 gives SELECTED alone, goes on from the selected window's F in MULTI too, where
nothing reads it (log entry 76). -/
def afcEntry (s : State) (sc : Scan) (blurred : Bool) (fn : Nat) (records : List WindowRecord) : State :=
  if Config.historyEntries ≤ s.afc.history.length then afcFail s .historyFull
  else
    let figures := s.afc.windowSet.map fun w =>
      let r := records.getD w ⟨false, 0, false, 0, 0, 0⟩
      ({ window := w, f := r.f, sat := r.sat, mean := r.mean } : EntryFigure)
    let e : HistoryEntry := ⟨s.lds.focus.pos, fn, decide (s.afc.state = .fine), blurred, figures⟩
    let s := s.setAfc { s.afc with history := s.afc.history ++ [e], historyMade := true }
    if s.afc.state = .coarse then
      let old := (sc.peaks[s.afc.selected]?).join
      let drops := dropsAfter old (entryF e s.afc.selected) e.pos sc.drops
      let sc := { sc with peaks := peaksAfter sc.peaks e, drops := drops }
      if s.afc.selection = .selected ∧ 2 ≤ drops then afcCoarseEnd s sc else afcNextPosition s sc
    else afcNextPosition s sc

/-- N of a frame (R96): F × 16 over the window mean, saturating. -/
def sharpness (f mean : Nat) : Nat := min 4294967295 (f * 16 / max mean 1)

/-- The monitor counter after a monitored frame with value n against reference ref (R96). -/
def monitorAfter (n ref ratio count : Nat) : Nat := if 16 * n < ref * ratio then count + 1 else 0

/-- A qualifying frame in LOCKED or MONITOR with value n (R95, R96). -/
def afcReferenceFrame (s : State) (k : Lock) (n : Nat) : State :=
  if !k.taken then
    let s := s.setAfc { s.afc with lock := some { k with n := n, taken := true } }
    if s.afc.mode = .continuous ∧ s.afc.state = .locked then afcEnter s .monitor else s
  else if s.afc.state = .monitor then
    let count := monitorAfter n k.n s.afc.monitorRatio s.afc.monitorCount
    if s.afc.monitorFrames ≤ count then
      match afcBusyChecks s with
      | none => afcScanStart s
      | some _ => s.setAfc { s.afc with monitorCount := 0 }
    else s.setAfc { s.afc with monitorCount := count }
  else s

/-- The figures of an untruncated frame reach AFC (R26, R84, R89, R95, R96). -/
def afcFigures (s : State) (fn : Nat) (records : List WindowRecord) : State :=
  match s.afc.state with
  | .coarse | .fine =>
    match s.afc.scan with
    | some sc => match sc.wait with | .eof blurred => afcEntry s sc blurred fn records | _ => s
    | none => s
  | .locked | .monitor =>
    match s.afc.primary, s.afc.lock with
    | some w, some k =>
      let r := records.getD w ⟨false, 0, false, 0, 0, 0⟩
      let test := s.afc.frame
      let s := s.setAfc { s.afc with primaryFigure := some r.f, frame := none }
      match test with
      | some t => if t.blurred || t.stepped then s else afcReferenceFrame s k (sharpness r.f r.mean)
      | none => s
    | _, _ => s
  | _ => s

/-- The primary window as HISTORY and STATUS report it: that of the scan in hand once fixed, else that of the
lock (R104, log entry 32). -/
def Afc.reportedPrimary (a : Afc) : Option Nat :=
  match a.scan with
  | some sc => sc.primary
  | none => a.primary

/-- The union of the zones of the given windows, in zone order. -/
def unionZones (ws : List Window) : List Nat :=
  (List.range 192).filter fun z => ws.any fun w => w.zones.contains z

/-- The subject mask AFC supplies at an SOF (R84). -/
def Afc.subjectMask (a : Afc) : List Nat :=
  if a.state.lockedOn then
    match a.primary with
    | some w => match a.windows[w]? with | some x => x.zones | none => []
    | none => []
  else unionZones (a.windows.filter (·.enabled))

end Sys2Proof.Machine
end

