-- ==== Sys2Proof/Machine/Zoom.lean ====
section
/-! DEFINITION. The Zoom Controller (chapter 6): segments, retargeting, the outcomes of its moves, and the
tracking requests. Requests are placed in their slots; the caller runs the grant. -/

namespace Sys2Proof.Machine

/-- The segment end from position p toward target t (R110): the next multiple of 64 beyond p, or t when nearer. -/
def segmentEnd (p t : Nat) : Nat :=
  if p < t then min t ((p / 64 + 1) * 64)
  else if t < p then max t ((p - 1) / 64 * 64)
  else p

/-- A zoom target clamped to the range, with the end-clamp flag (R108, R109). -/
def zoomTarget (i : Int) : Clamped Nat := ⟨(clampInt 0 2048 i).toNat, clampInt 0 2048 i != i⟩

/-- ZMC places a ZOOM request with a segment end as target (R110). -/
def zmcPlace (s : State) (segEnd speed : Nat) : State := s.place .zoom ⟨.zoom, segEnd, speed⟩

/-- The speed class of the zoom (R106). -/
def Zmc.speed (z : Zmc) : Nat := (z.travel.map (·.speed)).getD 0

/-- ZMC requests the next segment of the zoom in hand, with its speed class (R110). -/
def zmcNextSegment (s : State) (z : ZoomInHand) : State :=
  let e := segmentEnd s.lds.zoom.pos z.target
  zmcPlace (s.setZmc { s.zmc with zoom := some { z with segmentEnd := e } }) e s.zmc.speed

/-- A zoom command in IDLE with its clamped target (R108): at the target already, ZOOM_DONE latches and
ZOOM_END with it when the target was clamped, and nothing is stored (log entry 59); otherwise ZMC enters MOVING with
its first segment. -/
def zmcStart (s : State) (target : Clamped Nat) (speed : Nat) : State :=
  let p := s.lds.zoom.pos
  if target.value = p then
    let s := s.raise condZoomDone
    if target.changed then s.raise condZoomEnd else s
  else
    let travel : ZoomTravel := ⟨decide (p < target.value), speed⟩
    zmcNextSegment (s.setZmc { s.zmc with mode := .moving, travel := some travel }) ⟨target.value, target.changed, p⟩

/-- A zoom command in MOVING (R111). A target equal to the position keeps the direction (log entry 23). -/
def zmcRetarget (s : State) (z : ZoomInHand) (target : Clamped Nat) (speed : Nat) : State :=
  let p := s.lds.zoom.pos
  let up := if target.value = p then (s.zmc.travel.map (·.up)).getD true else decide (p < target.value)
  let e := segmentEnd p target.value
  let same := decide (e = z.segmentEnd ∧ speed = s.zmc.speed)
  let s := s.setZmc { s.zmc with zoom := some ⟨target.value, target.changed, e⟩, travel := some ⟨up, speed⟩ }
  if same then s else zmcPlace s e speed

/-- A taken ZOOM_TO or ZOOM_BY (R108, R109, R111). -/
def zmcCommand (s : State) (target : Clamped Nat) (speed : Nat) : State :=
  match s.zmc.zoom with
  | some z => if s.zmc.mode = .moving then zmcRetarget s z target speed else s
  | none => zmcStart s target speed

/-- The tracking target at zoom position p with lock distance d (R117). -/
def trackingTarget (d inf near : Nat) : Nat := min (d + inf) near

/-- The conditions of a tracking request (R117). -/
def zmcTracks (s : State) : Bool :=
  s.zmc.tracking && s.afc.state.lockedOn && s.tableValid zoomId && s.lds.focus.valid && s.lds.zoom.valid

/-- ZMC makes the tracking request when its conditions hold (R117), and keeps the track-limit flag (R118). -/
def zmcTrack (s : State) : State :=
  if zmcTracks s then
    let p := s.lds.zoom.pos
    let d := (s.afc.lock.map (·.d)).getD 0
    let limited := decide (s.nearAt p < d + s.infAt p)
    let s1 := s.setZmc { s.zmc with trackLimit := limited }
    let s2 :=
      if limited && decide (s1.afc.state = .monitor ∧ s1.afc.mode = .continuous) then
        s1.setAfc { s1.afc with rescanAfterZoom := true }
      else s1
    s2.place .track ⟨.focus, trackingTarget d (s.infAt p) (s.nearAt p), s.lds.params.trackClass⟩
  else s

/-- ZMC enters IDLE, its direction and speed class standing, and tells AFC (R106). -/
def zmcIdle (s : State) : State := afcZoomIdle (s.setZmc { s.zmc with mode := .idle, zoom := none })

/-- The zoom ends: ZOOM_DONE latches, ZOOM_END when asked, and ZMC enters IDLE (R112, R113). -/
def zmcEnd (s : State) (atEnd : Bool) : State :=
  let s := s.raise condZoomDone
  zmcIdle (if atEnd then s.raise condZoomEnd else s)

/-- The zoom position stands at the target of the zoom in hand, and that target was clamped (R112, R113). -/
def reachedClampedEnd (s : State) (z : ZoomInHand) : Bool := decide (s.lds.zoom.pos = z.target) && z.endClamp

/-- The MOVE_COMPLETE of a segment (R112, R113). -/
def zmcMoveComplete (s : State) : State :=
  match s.zmc.mode, s.zmc.zoom with
  | .moving, some z =>
    let s := zmcTrack s
    if s.lds.zoom.pos = z.target then zmcEnd s z.endClamp else zmcNextSegment s z
  | .stopping, some z => zmcEnd (zmcTrack s) (reachedClampedEnd s z)
  | _, _ => s

/-- The MOVE_STOPPED of a segment (R113, R114). -/
def zmcMoveStopped (s : State) : State := if s.zmc.mode = .idle then s else zmcEnd (zmcTrack s) false

/-- The MOVE_LOST of a segment (R114). -/
def zmcMoveLost (s : State) : State := if s.zmc.mode = .idle then s else zmcIdle s

/-- ZOOM_STOP's effect (R113). -/
def zmcStop (s : State) : State :=
  if s.zmc.mode = .moving then
    let now := s.lds.cancelStopsNow .zoom
    let s := (s.cancelMove .zoom).setZmc { s.zmc with mode := .stopping }
    if now then zmcMoveStopped s else s
  else s

end Sys2Proof.Machine
end

