-- ==== Sys2Proof/Machine/LensDrive.lean ====
section
/-! DEFINITION. The stepper drive of the Lens Drive Sequencer (chapter 4): outcomes of moves to their sources,
grant, preemption and resumption, the step, lost-position detection, the reference and the park. -/

namespace Sys2Proof.Machine

/-! ### Signals of a step (R60) -/

def Moving.with (m : Moving) : Motor → Moving
  | .zoom => { m with zoom := true }
  | .focus => { m with focus := true }
  | .iris => { m with iris := true }

def recordStep (m : Motor) (r : FrameRecord) : FrameRecord := { r with moving := r.moving.with m }

/-- The frame record of the FILLING slot changes (R142). -/
def fillingRecord (f : FrameRecord → FrameRecord) (slots : List Slot) : List Slot :=
  slots.map fun x => if x.state = .filling then { x with record := x.record.map f } else x

/-- A step of a motor is signalled to AEC (iris-moving mark, R38), to CST (moving flags, R142) and to AFC (R95). -/
def signalStep (s : State) (m : Motor) : State :=
  let s := if m = .iris then s.setAec { s.aec with irisMoved := true } else s
  let s := if m = .focus then s.setAfc (afcFocusStep s.afc) else s
  s.setCst { s.cst with slots := fillingRecord (recordStep m) s.cst.slots }

/-! ### Park (R78, R79) -/

/-- The motor and target of a park part (R78). -/
def parkTarget (p : LensParams) : Motor → Nat
  | .iris => 0
  | .focus => p.homePos
  | .zoom => 0

/-- PARK requests a part (R78). A part whose motor is no longer valid is not taken, and the park ends (R63, log
entry 21). -/
def parkRequest (s : State) (m : Motor) : State :=
  let l := s.lds
  if (l.motor m).valid then
    s.setLds (ldsPlace { l with park := some ⟨m, false⟩ } .park ⟨m, parkTarget l.params m, l.params.parkClass⟩)
  else s.setLds { l with park := none }

def parkEnded (s : State) : State := s.setLds { s.lds with park := none }

/-- The MOVE_COMPLETE of a park part (R78). A park that LENS_STOP has cancelled requests no further part (log
entry 22). -/
def parkComplete (s : State) : State :=
  match s.lds.park with
  | some ⟨.iris, false⟩ => parkRequest s .focus
  | some ⟨.focus, false⟩ => parkRequest s .zoom
  | some ⟨.zoom, _⟩ => (parkEnded s).raise condMoveDone
  | _ => parkEnded s

/-! ### Outcomes (R69 to R71) -/

/-- MOVE_COMPLETE is reported to a move's source (R69). -/
def moveComplete (s : State) : Source → State
  | .park => parkComplete s
  | .track => afcTrackEnded s
  | .zoom => zmcMoveComplete s
  | .iris => s
  | .af => afcMoveComplete s
  | .manual => s.raise condMoveDone

/-- MOVE_STOPPED is reported to a move's source (R70). -/
def moveStopped (s : State) : Source → State
  | .park => parkEnded s
  | .track => afcTrackEnded s
  | .zoom => zmcMoveStopped s
  | _ => s

/-- MOVE_LOST is reported to a move's source (R71). -/
def moveLost (s : State) : Source → State
  | .park => parkEnded s
  | .zoom => zmcMoveLost s
  | _ => s

/-! ### Grant (R65, R68) -/

/-- The most urgent pending request: lower level first, then tie order (R65). -/
def bestPending (l : Lds) : Option (Source × Request) :=
  sourceOrder.foldl
    (fun best src =>
      match l.slots.get src, best with
      | some r, some b => if l.level src < l.level b.1 then some (src, r) else best
      | some r, none => some (src, r)
      | none, _ => best)
    none

/-- The running move made from a granted request (R61, R65). -/
def moveOf (l : Lds) (src : Source) (r : Request) : Move :=
  { source := src, motor := r.motor, level := l.level src, target := r.target, speed := r.speed, phase := .main,
    dest := mainDest (l.motor r.motor).pos r.target (l.params.backlash r.motor), stop := false, mute := false,
    retarget := false }

/-- The remaining steps of a suspended move (R67). -/
def Suspended.remaining (x : Suspended) : Nat := distance x.posAt x.dest

/-- A suspended move as it resumes (R68): its saved phase with its saved remaining steps, or the backlash rule
afresh when the position or the target has changed, a target replaced before the suspension included (log entry 55). -/
def resumed (l : Lds) (x : Suspended) : Move :=
  let p := (l.motor x.motor).pos
  let fresh := x.retarget || decide (p ≠ x.posAt)
  { source := x.source, motor := x.motor, level := x.level, target := x.target, speed := x.speed,
    phase := if fresh then .main else x.phase
    dest := if fresh then mainDest p x.target (l.params.backlash x.motor) else x.dest
    stop := false, mute := false, retarget := false }

/-- A move with no travel left completes when its rule is applied (R61). -/
def Move.atRest (m : Move) (p : Nat) : Bool := decide (p = m.target ∧ p = m.dest)

/-- What the grant chooses (R65): the top of the stack before a pending request of equal or worse level. -/
inductive Chosen where
  | nothing
  | request (src : Source) (r : Request)
  | suspended (x : Suspended) (rest : List Suspended)
  deriving DecidableEq, Repr

def choose (l : Lds) : Chosen :=
  match l.stack, bestPending l with
  | [], none => .nothing
  | [], some (src, r) => .request src r
  | x :: rest, none => .suspended x rest
  | x :: rest, some (src, r) => if x.level ≤ l.level src then .suspended x rest else .request src r

/-- The drive starts a move, with the step timer at its period (R60). -/
def Lds.start (l : Lds) (m : Move) : Lds :=
  { l with running := some m, timer := some (stepPeriod m.motor m.speed) }

/-- AFC is told whose move is granted or resumed (R65). -/
def tellGrant (s : State) (src : Source) : State := if src = .zoom then afcZoomGranted s else s

/-- One grant of the chosen move: true when it completed at once and the next grant follows (R65). -/
def grantOne (s : State) (m : Move) : Bool × State :=
  if m.atRest (s.lds.motor m.motor).pos then (true, moveComplete (tellGrant s m.source) m.source)
  else (false, tellGrant (s.setLds (s.lds.start m)) m.source)

/-- The grant of R65, repeated while granted moves complete at once (log entry 11). -/
def grantLoop : Nat → State → State
  | 0, s => s
  | k + 1, s =>
    if s.lds.idle then
      match choose s.lds with
      | .nothing => s
      | .request src r =>
        let m := moveOf s.lds src r
        let g := grantOne (s.setLds { s.lds with slots := s.lds.slots.set src none }) m
        if g.1 then grantLoop k g.2 else g.2
      | .suspended x rest =>
        let m := resumed s.lds x
        let g := grantOne (s.setLds { s.lds with stack := rest }) m
        if g.1 then grantLoop k g.2 else g.2
    else s

/-- The grant, when the drive is idle (R65). -/
def State.grant (s : State) : State := grantLoop Config.grantRounds s

/-! ### Step boundaries (R66) -/

/-- The drive is left idle. -/
def Lds.release (l : Lds) : Lds := { l with running := none, timer := none }

/-- The running move ends by stop (R66 step 1, R70), delivering no outcome after RESET PIPELINE (R81). -/
def endStopped (s : State) (m : Move) : State :=
  let s := s.setLds s.lds.release
  (if m.mute then s else moveStopped s m.source).grant

/-- The running move completes (R69). -/
def endComplete (s : State) (m : Move) : State := (moveComplete (s.setLds s.lds.release) m.source).grant

/-- The record of a preempted move (R67). -/
def suspend (m : Move) (p : Nat) : Suspended :=
  { source := m.source, motor := m.motor, level := m.level, target := m.target, speed := m.speed, phase := m.phase,
    dest := m.dest, posAt := p, retarget := m.retarget }

/-- The running move is pushed onto the stack and the pending request of src granted (R66 step 2, R67). -/
def preempt (s : State) (m : Move) (src : Source) (r : Request) : State :=
  let l := s.lds
  let l := { l with stack := suspend m (l.motor m.motor).pos :: l.stack, slots := l.slots.set src none, running := none }
  let g := grantOne (s.setLds { l with timer := none }) (moveOf l src r)
  if g.1 then g.2.grant else g.2

/-- A sensor edge passes the check for a step with upper position hi (R71). -/
def edgeOk (l : Lds) (hi upper : Nat) : Bool := decide (distance hi upper ≤ l.params.homeTol)

/-- The levels latched after a step of a motor: those of its own sensors (R59). -/
def latchSensors (m : Motor) (old sample : LensSample) : LensSample :=
  match m with
  | .zoom => { old with wide := sample.wide, tele := sample.tele }
  | .focus => { old with home := sample.home }
  | .iris => old

/-- The lost-position check passes for a step from a to b with the levels sampled after it (R71). -/
def stepOk (l : Lds) (m : Motor) (a b : Nat) (sample : LensSample) : Bool :=
  match m with
  | .zoom =>
    (sample.wide == l.latched.wide || edgeOk l (max a b) 9) &&
    (sample.tele == l.latched.tele || edgeOk l (max a b) 2040)
  | .focus => sample.home == l.latched.home || edgeOk l (max a b) l.params.homePos
  | .iris => true

/-- Sources with a pending request for a motor. -/
def pendingFor (l : Lds) (m : Motor) : List Source :=
  sourceOrder.filter fun src => match l.slots.get src with | some r => decide (r.motor = m) | none => false

/-- Sources with a suspended move of a motor. -/
def suspendedFor (l : Lds) (m : Motor) : List Source :=
  (l.stack.filter fun x => decide (x.motor = m)).map (·.source)

/-- The motor's valid flag false, its pending and suspended moves removed (R71). -/
def Lds.lose (l : Lds) (m : Motor) : Lds :=
  { l.setMotor m ⟨(l.motor m).pos, false⟩ with
    slots := (pendingFor l m).foldl (fun sl src => sl.set src none) l.slots
    stack := l.stack.filter fun x => decide (x.motor ≠ m) }

/-- Lost position of a motor at a step of move m (R71): LENS_LOST latches once, each source of a move of the motor
takes MOVE_LOST, and AFC learns of a lost focus (R102). -/
def losePosition (s : State) (m : Move) : State :=
  let sources := m.source :: (pendingFor s.lds m.motor ++ suspendedFor s.lds m.motor)
  let s := (s.setLds (s.lds.release.lose m.motor)).raise condLensLost
  let s := sources.foldl moveLost s
  (if m.motor = .focus then afcFocusInvalid s else s).grant

/-- A position one step from p toward dest. -/
def stepToward (p dest : Nat) : Nat := if p < dest then p + 1 else p - 1

/-- The running move after a step to position b that does not end it: RETURN begins at the end of MAIN (R61). -/
def moveAfterStep (m : Move) (b : Nat) : Move :=
  if b = m.dest then { m with phase := .ret, dest := m.target } else m

/-- The step of R66 step 4 (R60, R61, R71). -/
def takeStep (s : State) (m : Move) (sample : LensSample) : State :=
  let l := s.lds
  let a := (l.motor m.motor).pos
  let b := stepToward a m.dest
  let ok := stepOk l m.motor a b sample
  let l := { l.setMotor m.motor ⟨b, (l.motor m.motor).valid⟩ with latched := latchSensors m.motor l.latched sample }
  let s := signalStep (s.setLds l) m.motor
  if !ok then losePosition s m
  else if b = m.dest ∧ b = m.target then endComplete s m
  else s.setLds (s.lds.start (moveAfterStep m b))

/-- The pending request that preempts move m, if any: of strictly better level (R66). -/
def preemptor (l : Lds) (m : Move) : Option (Source × Request) :=
  match bestPending l with
  | some (src, r) => if l.level src < m.level then some (src, r) else none
  | none => none

/-- A retarget-due move takes its new target by the backlash rule (R66 step 3). -/
def retargeted (l : Lds) (m : Move) : Move :=
  { m with
    retarget := false, phase := .main
    dest := mainDest (l.motor m.motor).pos m.target (l.params.backlash m.motor) }

/-- The next step of move m would complete it. -/
def stepCompletes (l : Lds) (m : Move) : Bool :=
  let b := stepToward (l.motor m.motor).pos m.dest
  decide (b = m.dest ∧ b = m.target)

/-- Move m would complete at this boundary (R66, R70): nothing preempts it, and its step, or its new target,
ends it. -/
def completesHere (l : Lds) (m : Move) : Bool :=
  (preemptor l m).isNone &&
  if m.retarget then
    (retargeted l m).atRest (l.motor m.motor).pos || stepCompletes l (retargeted l m)
  else stepCompletes l m

/-- Steps 2 to 4 of a step boundary (R66). -/
def boundaryOn (s : State) (m : Move) (sample : LensSample) : State :=
  match preemptor s.lds m with
  | some (src, r) => preempt s m src r
  | none =>
    if m.retarget then
      let m := retargeted s.lds m
      if m.atRest (s.lds.motor m.motor).pos then endComplete s m else takeStep s m sample
    else takeStep s m sample

/-- A step boundary (R66). withCancel says that the cancel which marked the move arrived together with this
boundary and was taken first: a move that completes at this very step then ends as a completion (R70, log
entry 7), or as a lost position when that step fails its check (R71, log entry 56). -/
def stepBoundary (s : State) (sample : LensSample) (withCancel : Bool) : State :=
  match s.lds.running with
  | none => s
  | some m =>
    if m.stop then
      if withCancel && !m.mute && completesHere s.lds m then boundaryOn s { m with stop := false } sample
      else endStopped s m
    else boundaryOn s m sample

/-! ### Reference (R75 to R77) -/

/-- The period of a reference phase (R76, R77). -/
def referencePeriod (l : Lds) (m : Motor) : Nat := stepPeriod m l.params.parkClass

/-- The reference begins the phase of a motor. -/
def Lds.beginPhase (l : Lds) (m : Motor) : Lds :=
  let active := match m with | .focus => l.latched.home | .zoom => l.latched.wide | .iris => false
  { l with reference := some ⟨m, 0, !active, false⟩, timer := some (referencePeriod l m) }

/-- LENS_REFERENCE is taken: all valid flags false, the drive held (R75). -/
def Lds.beginReference (l : Lds) : Lds :=
  { l with zoom := { l.zoom with valid := false }, focus := { l.focus with valid := false },
           iris := { l.iris with valid := false } }.beginPhase .iris

/-- The reference ends and releases the drive (R77). -/
def Lds.endReference (l : Lds) : Lds := { l with reference := none, timer := none }

/-- The end of a reference that has run to its end (R77). -/
def referenceDone (s : State) : State := ((s.setLds s.lds.endReference).raise condMoveDone).grant

/-- What follows the phase of a motor (R76, R77). -/
def nextPhase (s : State) : Motor → State
  | .iris => s.setLds (s.lds.beginPhase .focus)
  | .focus => s.setLds (s.lds.beginPhase .zoom)
  | .zoom => referenceDone s

/-- The position a phase assigns (R76, R77). -/
def referencePoint (p : LensParams) : Motor → Nat
  | .iris => 0
  | .focus => p.homePos
  | .zoom => 8

/-- The sensor level a phase looks for, as just sampled. -/
def phaseLevel (sample : LensSample) : Motor → Bool
  | .focus => sample.home
  | .zoom => sample.wide
  | .iris => false

/-- The steps a phase allows (R76, R77). -/
def phaseLimit : Motor → Nat
  | .iris => Config.referenceIrisSteps
  | .focus => Config.referenceFocusSteps
  | .zoom => Config.referenceZoomSteps

/-- The reference point of a phase is found at this step: the 60th iris step, or an edge reached while seeking. -/
def phaseFound (r : Reference) (sample : LensSample) : Bool :=
  match r.motor with
  | .iris => decide (Config.referenceIrisSteps ≤ r.steps + 1)
  | m => r.seeking && phaseLevel sample m

/-- A step of the reference (R76, R77). -/
def referenceStep (s : State) (sample : LensSample) : State :=
  match s.lds.reference with
  | none => s
  | some r =>
    if r.stop then (s.setLds s.lds.endReference).grant
    else
      let l := { s.lds with latched := latchSensors r.motor s.lds.latched sample }
      let s := signalStep (s.setLds l) r.motor
      if phaseFound r sample then
        nextPhase (s.setLds (s.lds.setMotor r.motor ⟨referencePoint s.lds.params r.motor, true⟩)) r.motor
      else if phaseLimit r.motor ≤ r.steps + 1 then nextPhase (s.raise condLensFault) r.motor
      else
        s.setLds { s.lds with
          reference := some ⟨r.motor, r.steps + 1, r.seeking || !phaseLevel sample r.motor, false⟩
          timer := some (referencePeriod s.lds r.motor) }

/-- LENS_STOP: a cancel of PARK and of MANUAL (R74), the park in hand cancelled (R79), and the end of a
reference at its next boundary (R77). -/
def lensStop (s : State) : State :=
  let parkNow := s.lds.cancelStopsNow .park
  let s := (s.cancelMove .park).cancelMove .manual
  let l := s.lds
  let s := s.setLds { l with
    park := l.park.map fun p => { p with cancelled := true }
    reference := l.reference.map fun r => { r with stop := true } }
  if parkNow then parkEnded s else s

end Sys2Proof.Machine
end

