-- ==== Sys2Proof/Machine/Store.lean ====
section
/-! DEFINITION. The Capture Store (chapter 8): slots and the ready list, a frame's way through the store at SOF
and EOF, trigger and gate, the end of a capture, the shutter line. -/

namespace Sys2Proof.Machine

/-! ### Slots (R140, R141) -/

/-- The slot holds a complete frame in the ready list (R141). -/
def Slot.inReadyList (x : Slot) : Bool := decide (x.state = .ready ∨ x.state = .held)

/-- The numbers of the slots that p holds of, in slot order. -/
def slotsWhere (p : Slot → Bool) (slots : List Slot) : List Nat :=
  (List.range slots.length).filter fun i => match slots[i]? with | some x => p x | none => false

/-- The storing order of slot i. -/
def orderOf (slots : List Slot) (i : Nat) : Nat := (slots.getD i freeSlot).order

/-- Inserts slot i into a list in storing order (R141). -/
def insertByOrder (slots : List Slot) (i : Nat) : List Nat → List Nat
  | [] => [i]
  | j :: rest => if orderLater (orderOf slots i) (orderOf slots j) then j :: insertByOrder slots i rest else i :: j :: rest

/-- The ready list, head first (R141): the READY and HELD slots in storing order. -/
def readyList (slots : List Slot) : List Nat :=
  (slotsWhere Slot.inReadyList slots).foldl (fun acc i => insertByOrder slots i acc) []

/-- No slot is FREE (R141). -/
def storeFull (slots : List Slot) : Bool := !(slots.any fun x => decide (x.state = .free))

/-- Changes slot i, STORE_FULL following (R141). -/
def setSlot (s : State) (i : Nat) (f : Slot → Slot) : State :=
  let slots := modifyAt f s.cst.slots i
  (s.setCst { s.cst with slots := slots }).level condStoreFull (storeFull slots)

/-- Slot i becomes FREE (R141), keeping of its record the storing order alone (log entries 41, 72). -/
def freeSlotAt (s : State) (i : Nat) : State := setSlot s i fun x => { freeSlot with order := x.order }

/-- A READY slot whose sent flags are both true is freed under AUTO release (R155). -/
def autoRelease (s : State) (i : Nat) : State :=
  match s.cst.slots[i]? with
  | some x =>
    if s.cst.params.release = .auto ∧ x.state = .ready ∧ x.recordSent ∧ x.imageSent then freeSlotAt s i else s
  | none => s

/-! ### The end of a capture (R144, R154) -/

/-- A withheld S1 release is passed to AFC once the store has left GATING and CAPTURING, if S1 is then still
released (R161). -/
def passWithheld (s : State) : State :=
  if s.cst.withheldRelease ∧ s.cst.state ≠ .gating ∧ s.cst.state ≠ .capturing then
    let s1 := s.setCst { s.cst with withheldRelease := false }
    if s.cst.s1.debounced then s1 else afcS1Release s1
  else s

/-- The current capture had been triggered (R150). -/
def Cst.triggered (c : Cst) : Bool :=
  decide (c.state = .gating) || (decide (c.state = .capturing) && decide (c.params.mode ≠ .stream))

/-- The store tells AEC of the capture's end when it had been triggered (R54, R144). -/
def tellCaptureEnd (s : State) : State := if s.cst.triggered then s.setAec (aecCaptureEnd s.aec) else s

/-- The current capture ends, and the store enters a state (R144, R152, R154). -/
def captureEnds (s : State) (st : CaptureState) : State :=
  let s := tellCaptureEnd s
  passWithheld (s.setCst { s.cst with state := st, forced := false })

/-- The FILLING slot, if any, is freed (R144, R149). -/
def freeFilling (s : State) : State :=
  (slotsWhere (fun x => decide (x.state = .filling)) s.cst.slots).foldl freeSlotAt s

/-- STORE_STOP's effect (R144). -/
def storeStop (s : State) : State :=
  if s.cst.state = .idle then s else captureEnds (freeFilling s) .idle

/-- CAPTURE_DONE when the post count has reached N_after (R154). -/
def checkCaptureDone (s : State) : State :=
  if s.cst.state = .capturing ∧ s.cst.params.mode ≠ .stream ∧ s.cst.params.nAfter ≤ s.cst.counters.post then
    captureEnds (s.raise condCaptureDone) .idle
  else s

/-! ### Trigger and gate (R150 to R152) -/

/-- The status with which a trigger would be refused, none when it is taken (R150). -/
def triggerRefusal (c : Cst) : Option Status :=
  match c.state with
  | .idle => if c.params.mode = .burst then none else some .refusedState
  | .armed => if c.params.mode = .pretrigger then none else some .refusedState
  | _ => some .refusedBusy

/-- A taken trigger (R150, R53). -/
def takeTrigger (s : State) : State :=
  let a := aecTrigger s.aec
  let c := s.cst
  let c := if c.params.mode = .burst then { c with captureId := (c.captureId + 1) % 65536, counters := noCounters } else c
  let c := { c with gateCount := 0, skips := 0, state := .gating, forced := false, trigger := a.trigger }
  (s.setAec a).setCst c

/-- The gate passes for the frame whose exposure AEC has fixed (R151). -/
def gatePasses (s : State) : Bool :=
  let g := s.cst.params.gate
  decide (s.aec.frame.mark = some s.cst.trigger) &&
  (!g.aeSettled || s.aec.frame.settled) && (!g.afLocked || s.afc.state.lockedOn) &&
  (!g.shakeOk || decide (s.mou.shake = .still ∨ s.mou.shake = .normal))

/-- The gate expires, and the timeout action decides (R152). -/
def gateExpires (s : State) : State :=
  match s.cst.params.timeoutAction with
  | .proceed => s.setCst { s.cst with state := .capturing, forced := true }
  | .cancel =>
    captureEnds (s.raise condTriggerTimeout) (if s.cst.params.mode = .pretrigger then .armed else .idle)

/-- The gate expires at this frame: it fails with the gate count at gate_timeout (R151). -/
def gateExpiring (s : State) : Bool :=
  decide (s.cst.state = .gating) && !gatePasses s && decide (s.cst.gateCount = s.cst.params.gateTimeout)

/-- The gate at an SOF (R146 step 1, R151). -/
def gateSof (s : State) : State :=
  if s.cst.state = .gating then
    if gatePasses s then s.setCst { s.cst with state := .capturing, forced := false }
    else if s.cst.gateCount = s.cst.params.gateTimeout then gateExpires s
    else s.setCst { s.cst with gateCount := s.cst.gateCount + 1 }
  else s

/-! ### A frame at SOF (R146 to R148, R153) -/

/-- The part of a frame by the capture state (R146 step 2). -/
def framePart (c : Cst) : Option Part :=
  match c.state with
  | .idle => none
  | .armed => some .pre
  | .gating => if c.params.mode = .pretrigger then some .pre else none
  | .capturing => some (if c.params.mode = .stream then .stream else .post)

/-- The frame's SOF-known flags meet the filter mask (R153). -/
def meetsFilter (s : State) (blurred : Bool) : Bool :=
  let f := s.cst.params.filter
  (f.blurred && blurred) || (f.irisMoving && s.lds.moving .iris) || (f.zoomMoving && s.lds.moving .zoom) ||
  (f.focusMoving && s.lds.moving .focus) || (f.aeUnsettled && !s.aec.frame.settled)

/-- The current capture's slot of a part that is in the ring (R148). -/
def inRing (c : Cst) (x : Slot) : Bool :=
  decide (x.part = .pre ∧ x.captureId = c.captureId) &&
  decide (x.state = .ready ∨ x.state = .held ∨ x.state = .sending)

def ringSize (c : Cst) : Nat := (c.slots.filter (inRing c)).length

/-- The first slot of the ready list that p holds of. -/
def firstReady (slots : List Slot) (p : Slot → Bool) : Option Nat :=
  (readyList slots).find? fun i => p (slots.getD i freeSlot)

/-- The READY slot of the ring nearest the head of the ready list (R148). -/
def ringVictim (c : Cst) : Option Nat :=
  firstReady c.slots fun x => decide (x.state = .ready) && inRing c x

/-- The READY slot nearest the head whose frame is not of the current capture (R147). -/
def overwriteVictim (c : Cst) : Option Nat :=
  firstReady c.slots fun x => decide (x.state = .ready ∧ x.captureId ≠ c.captureId)

/-- The lowest-numbered FREE slot (R147). -/
def lowestFree (slots : List Slot) : Option Nat := (slotsWhere (fun x => decide (x.state = .free)) slots).head?

/-- The frame is missed (R147, R154). -/
def missFrame (s : State) (part : Part) : State :=
  let k := s.cst.counters
  let k := { k with missed := k.missed + 1, post := if part = .post then k.post + 1 else k.post }
  checkCaptureDone (s.setCst { s.cst with counters := k })

/-- The index in the capture of a frame of a part (R142). -/
def frameIndex (k : Counters) : Part → Nat
  | .stream => k.storedStream + 1
  | .pre => k.filedPre + 1
  | .post => k.storedPost + 1

/-- What MOU and AFC supply for a frame at its SOF: blur record, BLURRED, crop clamp (R137, R132); AF state and, in
LOCKED or MONITOR, primary window and primary figure (R84). -/
structure FrameFacts where
  blur : Option BlurRecord
  blurred : Bool
  cropClamped : Bool
  afState : AfState
  primary : Option Nat
  primaryFigure : Option Nat
  deriving DecidableEq, Repr

/-- The frame record as begun at SOF (R142). -/
def beginRecord (s : State) (part : Part) (fm : FrameFacts) (skippedBefore : Nat) : FrameRecord :=
  let g := s.intake.geometry
  { fn := s.intake.fn, captureId := s.cst.captureId, part := part, index := frameIndex s.cst.counters part,
    outW := g.outW, outH := g.outH, length := storedBytes g, exposure := s.aec.frame, zoom := s.lds.zoom,
    focus := s.lds.focus, iris := s.lds.iris,
    moving := ⟨s.lds.moving .zoom, s.lds.moving .focus, s.lds.moving .iris⟩, afState := fm.afState,
    primary := fm.primary, primaryFigure := fm.primaryFigure, shake := s.mou.shake,
    stab := s.mou.mode, blur := fm.blur, cropX := s.pxp.cropX, cropY := s.pxp.cropY, skippedBefore := skippedBefore,
    forced := s.cst.forced && decide (part = .post), blurred := fm.blurred, trackLimit := s.zmc.trackLimit,
    shiftLimit := fm.cropClamped, clippedSubject := false }

/-- The found slot becomes FILLING with the next storing order, and its record is begun (R146 step 6). -/
def openSlot (s : State) (i : Nat) (part : Part) (fm : FrameFacts) (skippedBefore : Nat) : State :=
  let order := (s.cst.order + 1) % 4294967296
  let rec_ := beginRecord s part fm skippedBefore
  let s := s.setCst { s.cst with order := order }
  setSlot s i fun _ =>
    { state := .filling, record := some rec_, recordSent := false, imageSent := false,
      captureId := rec_.captureId, part := part, order := order, before := .free }

/-- A slot is found for the frame, or the frame is missed (R146 steps 5 and 6, R147). -/
def storeFrame (s : State) (part : Part) (fm : FrameFacts) (skippedBefore : Nat) : State :=
  match lowestFree s.cst.slots with
  | some i => openSlot s i part fm skippedBefore
  | none =>
    match s.cst.params.overflow, overwriteVictim s.cst with
    | .overwrite, some i => openSlot (freeSlotAt s i) i part fm skippedBefore
    | _, _ => missFrame s part

/-- A PRE frame makes room in the ring and is stored, or is missed (R148). -/
def storePre (s : State) (fm : FrameFacts) : State :=
  if s.cst.params.nPre ≤ ringSize s.cst then
    match ringVictim s.cst with
    | some i => storeFrame (freeSlotAt s i) .pre fm 0
    | none => missFrame s .pre
  else storeFrame s .pre fm 0

/-- A STREAM or POST frame passes the skip filter and is stored or missed (R153). -/
def storeFiltered (s : State) (part : Part) (fm : FrameFacts) : State :=
  let c := s.cst
  if meetsFilter s fm.blurred && decide (c.skips < c.params.skipMax) then
    s.setCst { c with skips := c.skips + 1, counters := { c.counters with skipped := c.counters.skipped + 1 } }
  else storeFrame (s.setCst { c with skips := 0 }) part fm c.skips

/-- CST's work at an SOF (R146). -/
def cstSof (s : State) (fm : FrameFacts) : State :=
  let s := gateSof s
  match framePart s.cst with
  | none => s
  | some .pre => storePre s fm
  | some part => storeFiltered s part fm

/-! ### A frame at EOF (R149, R154, R159) -/

/-- A flag named in the hold mask is set in the record (R149). -/
def meetsHold (h : HoldMask) (r : FrameRecord) : Bool :=
  (h.forced && r.forced) || (h.blurred && r.blurred) || (h.clippedSubject && r.clippedSubject) ||
  (h.shiftLimit && r.shiftLimit) || (h.trackLimit && r.trackLimit) || (h.aeUnsettled && !r.exposure.settled)

/-- The counters after a frame of a part is filed (R149). -/
def countFiled (k : Counters) : Part → Counters
  | .stream => { k with storedStream := k.storedStream + 1 }
  | .pre => { k with filedPre := k.filedPre + 1 }
  | .post => { k with storedPost := k.storedPost + 1, post := k.post + 1 }

/-- The notices of a frame filed READY or HELD (R159). -/
def noticeFiled (s : State) (held : Bool) : State :=
  match s.cst.params.notice, held with
  | .none, _ => s
  | _, true => s.raise condFrameHeld
  | .first, false =>
    if s.cst.noticeArmed then (s.setCst { s.cst with noticeArmed := false }).raise condFrameReady else s
  | .every, false => s.raise condFrameReady
  | .heldOnly, false => s

/-- The FILLING slot is filed READY or HELD with its completed record (R149). -/
def fileFrame (s : State) (i : Nat) (x : Slot) (r : FrameRecord) (clippedSubject : Bool) : State :=
  let r := { r with clippedSubject := clippedSubject }
  let held := meetsHold s.cst.params.hold r
  let s := setSlot s i fun y => { y with state := if held then .held else .ready, record := some r }
  let s := s.setCst { s.cst with counters := countFiled s.cst.counters x.part }
  checkCaptureDone (noticeFiled s held)

/-- CST's work at an untruncated EOF (R149). -/
def cstEof (s : State) (clippedSubject : Bool) : State :=
  match slotsWhere (fun x => decide (x.state = .filling)) s.cst.slots with
  | i :: _ =>
    match s.cst.slots[i]? with
    | some x => match x.record with | some r => fileFrame s i x r clippedSubject | none => s
    | none => s
  | [] => s

/-! ### The shutter line (R160, R161) -/

def Cst.shutter (c : Cst) : ShutterLine → Shutter
  | .s1 => c.s1
  | .s2 => c.s2

def Cst.setShutter (c : Cst) (w : ShutterLine) (x : Shutter) : Cst :=
  match w with
  | .s1 => { c with s1 := x }
  | .s2 => { c with s2 := x }

/-- An S1 assertion of the enabled line (R161). -/
def s1Assertion (s : State) : State :=
  let s := s.setCst { s.cst with withheldRelease := false }
  if (s.afc.mode = .single ∨ s.afc.mode = .continuous) ∧ (s.afc.state = .idle ∨ s.afc.state = .failed) then
    (afcS1Assert s).grant
  else s

/-- An S1 release of the enabled line (R161). -/
def s1Release (s : State) : State :=
  if s.cst.state = .gating ∨ s.cst.state = .capturing then s.setCst { s.cst with withheldRelease := true }
  else (afcS1Release s).grant

/-- An S2 assertion of the enabled line (R161): a trigger, ignored when it would be refused (R150). -/
def s2Assertion (s : State) : State :=
  match triggerRefusal s.cst with
  | none => takeTrigger s
  | some _ => s

/-- The debounced level of a line has changed to b (R160, R161). -/
def shutterActs (s : State) (w : ShutterLine) (b : Bool) : State :=
  if (s.cst.shutter w).enable then
    match w, b with
    | .s1, true => s1Assertion s
    | .s1, false => s1Release s
    | .s2, true => s2Assertion s
    | .s2, false => s
  else s

/-- The debounced level takes the raw level when it differs (R160). -/
def debounceTakes (s : State) (w : ShutterLine) : State :=
  let x := s.cst.shutter w
  let s := s.setCst (s.cst.setShutter w { x with timer := none, debounced := x.raw })
  if x.raw = x.debounced then s else shutterActs s w x.raw

/-- A raw level changes: the timer restarts with the debounce time, 0 taking effect at once (R160). -/
def rawChanges (s : State) (w : ShutterLine) (b : Bool) : State :=
  let x := s.cst.shutter w
  if x.raw = b then s
  else
    let s := s.setCst (s.cst.setShutter w { x with raw := b, timer := some s.cst.debounce })
    if s.cst.debounce = 0 then debounceTakes s w else s

/-- A debounce timer expires (R160); a timer that does not run does not expire. -/
def debounceExpires (s : State) (w : ShutterLine) : State :=
  if (s.cst.shutter w).timer.isSome then debounceTakes s w else s

end Sys2Proof.Machine
end

