-- ==== Sys2Proof/Machine/Exposure.lean ====
section
/-! DEFINITION. The Exposure Controller (chapter 3): the frame-start work, the seven stages of the
computation, settling, the issue point, and the write sequence to the sensor. -/

namespace Sys2Proof.Machine

/-! ### Frame start (R38) -/

/-- The in-effect record at frame fn: the latest record not later than fn (R38 step 2). -/
def inEffect (fn : Nat) (rs : List InFlight) : Option InFlight :=
  rs.foldl (fun best r => if fnLater r.effective fn then best else some r) none

/-- The list without the records earlier than the in-effect one (R38 step 2). -/
def pruneInFlight (fn : Nat) : List InFlight → List InFlight
  | [] => []
  | r :: rest => if (inEffect fn rest).isSome then pruneInFlight fn rest else r :: rest

/-- The iris position as AEC reads it: 0 while the iris is invalid (R38, R47). -/
def State.irisNow (s : State) : Nat := if s.lds.iris.valid then s.lds.iris.pos else 0

/-- The frame's exposure at its SOF (R38 step 3). -/
def frameExposure (s : State) : FrameExposure :=
  let aE := min s.irisNow s.aWNow
  match inEffect s.intake.fn s.aec.inFlight with
  | some r =>
    let x := r.issue.setting
    ⟨x.tI, aE, x.gA, x.gD, x.tI + aE + x.gA + x.gD, r.issue.program, r.issue.mark, s.aec.state, s.aec.settled⟩
  | none => ⟨0, aE, 0, 0, aE, .live, none, s.aec.state, s.aec.settled⟩

/-- The working weights of weight table k, uniform 1 while it is invalid (R38 step 4). -/
def meterWeights (s : State) (k : Nat) : List Nat :=
  if s.tableValid (weightId k) then (List.range 192).map (tbl8 (s.working (weightId k))) else List.replicate 192 1

/-- The per-frame metering copy with subject mask S (R38 step 4). -/
def meterCopy (s : State) (subject : List Nat) : MeterCopy :=
  ⟨meterWeights s s.aec.params.weightTable, s.aec.params.boost, subject⟩

/-! ### Write sequence (R36, R49 to R51) -/

/-- The byte a write item takes from a record (R36). -/
def itemByte (s : State) (x : Setting) (source value : Nat) : Byte :=
  match source with
  | 0 => byteOf (s.timeLines x.tI / 256)
  | 1 => byteOf (s.timeLines x.tI)
  | 2 => byteOf (s.gainCode x.gA / 256)
  | 3 => byteOf (s.gainCode x.gA)
  | _ => byteOf value

/-- The items of one write sequence by the working SENSOR_WRITE template (R36, R191). -/
def writeItems (s : State) (x : Setting) : List SensorItem :=
  let m := s.working sensorWriteId
  (List.range (tbl8 m 1)).map fun j =>
    { device := tbl8 m 0, register := tbl16 m (2 + 4 * j), data := itemByte s x (tbl8 m (2 + 4 * j + 2)) (tbl8 m (2 + 4 * j + 3)) }

/-- The next item of the sequence goes onto a free bus (R36). -/
def startItem (a : Aec) : Aec :=
  match a.bus, a.sequence with
  | none, some w =>
    match w.items with
    | i :: _ => { a with bus := some ⟨i, true⟩ }
    | [] => a
  | _, _ => a

/-- A write sequence completes at frame fn (R50); the retry flag falls with the failure count (log entry 53). -/
def completeSequence (a : Aec) (fn : Nat) (issue : Issue) : Aec :=
  { a with
    sequence := none
    inFlight := a.inFlight ++ [⟨(fn + a.params.latency) % 65536, issue⟩]
    latest := some issue.setting
    failures := 0
    retryFlag := false }

/-- A write sequence starts (R49, R51); a template without items, which no commit passes, completes at once. -/
def startSequence (s : State) (issue : Issue) (retry : Bool) : State :=
  let items := writeItems s issue.setting
  let a := { s.aec with awaiting := none, retry := none }
  if items.isEmpty then aecJudgeRecords (s.setAec (completeSequence a s.intake.fn issue))
  else s.setAec (startItem { a with sequence := some ⟨issue, items, retry⟩ })

/-- The write point (R49), and the retry's (R51). -/
def writePoint (s : State) : State :=
  match s.aec.sequence, s.aec.retry, s.aec.awaiting with
  | none, some i, _ => startSequence s i true
  | none, none, some i => startSequence s i false
  | _, _, _ => s

/-- AEC's work at an SOF (R38), the clamps of step 1 having been made, with the subject mask AFC supplies. -/
def aecSof (s : State) (subject : List Nat) : State :=
  let s := s.setAec { s.aec with inFlight := pruneInFlight s.intake.fn s.aec.inFlight }
  let s := aecJudgeRecords s
  let s := s.setAec { s.aec with frame := frameExposure s, copy := meterCopy s subject, irisMoved := s.lds.moving .iris }
  writePoint s

/-- A write sequence fails (R51): a first failure keeps the record for retry, a second enters FAULT. -/
def failSequence (s : State) (w : WriteSequence) : State :=
  if w.retry || decide (1 ≤ s.aec.failures) then
    let a := { s.aec with sequence := none, retry := none, retryFlag := false, failures := s.aec.failures + 1, manual := none }
    aecEnter ((s.setAec a).raise condAeFault) .fault
  else
    aecJudgeRecords
      (s.setAec { s.aec with sequence := none, retry := some w.issue, retryFlag := true, failures := s.aec.failures + 1 })

/-- The sensor acknowledges the item on the bus (R50); an item left by a reset only frees the bus (R57). -/
def itemAcknowledged (s : State) : State :=
  match s.aec.bus with
  | none => s
  | some b =>
    let a := { s.aec with bus := none }
    if b.owned then
      match a.sequence with
      | some w =>
        match w.items.tail with
        | [] => aecJudgeRecords (s.setAec (completeSequence a s.intake.fn w.issue))
        | rest => s.setAec (startItem { a with sequence := some { w with items := rest } })
      | none => s.setAec a
    else s.setAec (startItem a)

/-- The item on the bus is not acknowledged (R51); an item left by a reset only frees the bus (R57). -/
def itemNotAcknowledged (s : State) : State :=
  match s.aec.bus with
  | none => s
  | some b =>
    let a := { s.aec with bus := none }
    if b.owned then
      match a.sequence with
      | some w => failSequence (s.setAec a) w
      | none => s.setAec a
    else s.setAec (startItem a)

/-! ### The computation (R41 to R47) -/

/-- What STATS hands AEC: the zone means and the highlight mask (R26). -/
structure ZoneSet where
  means : List Nat
  mask : List Nat
  deriving DecidableEq, Repr

/-- Stage 1: the level of a zone mean (R41). -/
def zoneLevel (z : Nat) : Nat :=
  let z := max z 1
  let e := Nat.log2 z
  16 * e + 16 * (z - 2 ^ e) / 2 ^ e

/-- The boosted weight of a zone (R42). -/
def boostedWeight (c : MeterCopy) (i : Nat) : Nat :=
  let w := c.weights.getD i 0
  if c.subject.contains i then min 31 (w + c.boost) else w

/-- The sum of the boosted weights (R42). -/
def weightSum (c : MeterCopy) : Nat := ((List.range 192).map (boostedWeight c)).sum

/-- The weighted sum of the levels (R42). -/
def levelSum (c : MeterCopy) (means : List Nat) : Nat :=
  ((List.range 192).map fun i => boostedWeight c i * zoneLevel (means.getD i 0)).sum

/-- Stage 2: the weighted mean level M (R42). -/
def meterLevel (c : MeterCopy) (means : List Nat) : Nat := levelSum c means / weightSum c

/-- No zone of the mask lies in the subject (R43). -/
def subjectClear (mask subject : List Nat) : Bool := mask.all fun z => !subject.contains z

/-- Every zone of the mask lies in the subject (R43). -/
def maskContained (mask subject : List Nat) : Bool := mask.all fun z => subject.contains z

/-- Stage 3: CLIPPED_SUBJECT (R43). -/
def clippedSubject (mask subject : List Nat) : Bool :=
  !mask.isEmpty && !subject.isEmpty && !subjectClear mask subject

/-- Stage 3: the case adjustment (R43). -/
def caseAdjustment (p : AeParams) (mask subject : List Nat) : Int :=
  if mask.isEmpty || subject.isEmpty then 0
  else if !subjectClear mask subject then -(p.hlPull : Int)
  else if !maskContained mask subject then p.blLift
  else 0

/-- Stage 3: the effective target (R43). -/
def effectiveTarget (p : AeParams) (adj : Int) : Nat := (clampInt 0 191 ((p.target : Int) + p.compensation + adj)).toNat

/-- Stage 4: the step Δ for an error beyond the deadband (R45). -/
def exposureStep (p : AeParams) (e : Int) : Int :=
  let d := Int.tdiv (e * p.damping) 16
  let d := if d = 0 then (if 0 < e then 1 else -1) else d
  clampInt (-(p.maxStep : Int)) p.maxStep d

/-- Stage 4: X_new before it is raised to 0 (R45). -/
def exposureNew (p : AeParams) (e : Int) (xMeas : Nat) : Int :=
  if e.natAbs ≤ p.deadband then (xMeas : Int) else (xMeas : Int) + exposureStep p e

/-- The handheld limit t_lim (R44). -/
def handheldLimit (s : State) : Nat :=
  let bonus : Int := match s.mou.shake with | .still => 16 | .shaky => -16 | _ => 0
  let stab : Int := if s.mou.mode = .optical then 32 else 0
  (clampInt 0 s.tIMax ((s.hTNow : Int) + bonus + stab)).toNat

/-- A segment of an exposure program (R37, R191): control 0 TIME, 1 APERTURE, 2 GAIN; limit kind 0 FIXED, 1
WIDEST, 2 SHAKE, 3 GAIN_MAX; v for FIXED. -/
structure Segment where
  control : Nat
  limit : Nat
  v : Nat
  deriving DecidableEq, Repr

/-- Segment i of a program's bytes (R191). -/
def segmentOf (m : Memory) (i : Nat) : Segment :=
  let b := tbl8 m (2 + 2 * i)
  ⟨b / 16, b % 16, tbl8 m (2 + 2 * i + 1)⟩

/-- The segments of a program, in order (R37). -/
def segmentsOf (m : Memory) : List Segment := (List.range (tbl8 m 0)).map (segmentOf m)

/-- The program the walks read (R37): PROGRAM_LIVE while CAPTURE is active but invalid. -/
def activeSegments (s : State) : List Segment :=
  match s.aec.program with
  | .capture =>
    if s.tableValid programCaptureId then segmentsOf (s.working programCaptureId)
    else segmentsOf (s.working programLiveId)
  | .live => segmentsOf (s.working programLiveId)

/-- The limits of a walk: control maxima, the widest aperture, the handheld limit (R46). -/
structure WalkLimits where
  tMax : Nat
  gMax : Nat
  aW : Nat
  tLim : Nat
  deriving DecidableEq, Repr

def walkLimits (s : State) : WalkLimits := ⟨s.tIMax, s.gainMax, s.aWNow, handheldLimit s⟩

/-- The top of a control's range (R46). -/
def controlTop (k : WalkLimits) : Nat → Nat
  | 0 => k.tMax
  | 1 => 47
  | _ => k.gMax

/-- The limit of a segment (R46). -/
def segmentLimit (k : WalkLimits) (g : Segment) : Nat :=
  match g.limit with
  | 0 => min g.v (controlTop k g.control)
  | 1 => k.aW
  | 2 => k.tLim
  | _ => k.gMax

/-- The controls and the remainder of a walk (R46). -/
structure Walk where
  tI : Nat
  aI : Nat
  gI : Nat
  r : Nat
  deriving DecidableEq, Repr

/-- One segment raises its control by the smaller of the remainder and the distance to its limit (R46). -/
def walkSegment (k : WalkLimits) (w : Walk) (g : Segment) : Walk :=
  match g.control with
  | 0 => let d := min w.r (segmentLimit k g - w.tI); { w with tI := w.tI + d, r := w.r - d }
  | 1 => let d := min w.r (segmentLimit k g - w.aI); { w with aI := w.aI + d, r := w.r - d }
  | _ => let d := min w.r (segmentLimit k g - w.gI); { w with gI := w.gI + d, r := w.r - d }

/-- Stage 5: the desired walk (R46). -/
def desiredWalk (k : WalkLimits) (gs : List Segment) (x : Nat) : Walk := gs.foldl (walkSegment k) ⟨0, 0, 0, x⟩

/-- Stage 6: the pinned walk, the aperture fixed at a (R47). -/
def pinnedWalk (k : WalkLimits) (gs : List Segment) (x a : Nat) : Walk :=
  (gs.filter fun g => g.control ≠ 1).foldl (walkSegment k) ⟨0, a, 0, x - a⟩

/-- The result of stages 5 to 7 (R46, R47). -/
structure Plan where
  setting : Setting
  pinned : Bool
  remainder : Nat
  realized : Nat
  deriving DecidableEq, Repr

/-- Stage 7: the split of the total gain (R47). -/
def splitGain (tI iris gI gAMax : Nat) : Setting := ⟨tI, iris, min gI gAMax, gI - min gI gAMax⟩

/-- The desired result can be used as it stands (R47). -/
def desiredUsable (s : State) (a : Nat) : Bool :=
  s.lds.iris.valid && decide (a = s.lds.iris.pos) && !s.lds.hasMove .iris && decide (a ≤ s.aWNow)

/-- Stages 5 to 7 for a total exposure (R46, R47). -/
def exposurePlan (s : State) (x : Nat) : Plan :=
  let k := walkLimits s
  let gs := activeSegments s
  let w := desiredWalk k gs x
  if desiredUsable s w.aI then ⟨splitGain w.tI w.aI w.gI s.gAMax, false, w.r, x - w.r⟩
  else
    let a := min s.irisNow s.aWNow
    let p := pinnedWalk k gs x a
    ⟨splitGain p.tI w.aI p.gI s.gAMax, true, p.r, p.tI + a + p.gI⟩

/-! ### Settling and the issue point (R40, R47, R48, R52, R53, R55) -/

/-- The frame fn is a waiting frame (R40). -/
def waitingFrame (a : Aec) (fn : Nat) : Bool :=
  a.inFlight.any (fun r => fnLater r.effective fn) || a.awaiting.isSome || a.retry.isSome || a.sequence.isSome

/-- A record is issued (R47, R53): it awaits its write point and clears a mark due. -/
def issueRecord (a : Aec) (x : Setting) : Aec :=
  { a with
    awaiting := some ⟨x, a.program, if a.program = .capture then some a.trigger else none⟩
    markDue := false }

/-- AEC requests an IRIS move unless it already has one toward the target (R47, R52). -/
def requestIris (s : State) (target : Nat) : State :=
  if s.lds.iris.valid && !s.lds.hasMoveToward .iris target then (s.place .iris ⟨.iris, target, 0⟩).grant else s

/-- A setting differs from the latest issued one, or there is none (R47). -/
def differs (latest : Option Setting) (x : Setting) : Bool := decide (latest ≠ some x)

/-- A frame that resets the settled and break counters (R40). -/
def invalidFrame (s : State) : State := aecJudge (s.setAec { s.aec with settledCount := 0, breakCount := 0 })

/-- The settled counter after a measured frame (R48). -/
def settledAfter (counts : Bool) (n : Nat) : Nat := if counts then min 8 (n + 1) else 0

/-- Whether a measured frame counts toward settling (R48). -/
def frameCounts (p : AeParams) (e : Int) (low : Bool) (walked : Bool) (plan : Plan) (xMeas : Nat) : Bool :=
  decide (e.natAbs ≤ p.deadband) || ((low || (walked && decide (0 < plan.remainder))) && decide (plan.realized = xMeas))

/-- What a computation found: M, E, T_eff and X_new before it is raised to 0 (R40 to R45). -/
structure Computed where
  m : Nat
  e : Int
  tEff : Nat
  xNew : Int
  deriving DecidableEq, Repr

/-- Stages 1 to 4 (R41 to R45). -/
def computeStages (s : State) (z : ZoneSet) : Computed :=
  let a := s.aec
  let m := meterLevel a.copy z.means
  let t := effectiveTarget a.params (caseAdjustment a.params z.mask a.copy.subject)
  let e := (t : Int) - m
  ⟨m, e, t, exposureNew a.params e a.frame.x⟩

/-- The reported values take those of a computation, and AE_LIMIT_LOW latches for an X_new below 0 (R40, R45). -/
def reportStages (s : State) (c : Computed) : State :=
  let s := s.setAec { s.aec with m := c.m, e := c.e, tEff := c.tEff }
  if c.xNew < 0 then s.raise condAeLimitLow else s

/-- The break test of R55: the counter, and whether a disturbance is sent. -/
def breakTest (a : Aec) (e : Int) : Nat × Bool :=
  if a.params.breakLevel ≤ e.natAbs then (if 2 ≤ a.breakCount + 1 then (0, true) else (a.breakCount + 1, false))
  else (0, false)

/-- Stages 5 to 7 of a measured frame and its settling (R46 to R48); the walk is made beyond the deadband or
when a mark is due. -/
def settleFrame (s : State) (c : Computed) (plan : Plan) (walked : Bool) : State :=
  let counts := frameCounts s.aec.params c.e (decide (c.xNew < 0)) walked plan s.aec.frame.x
  let s := if walked && decide (0 < plan.remainder) then s.raise condAeLimitHigh else s
  aecJudge (s.setAec { s.aec with settledCount := settledAfter counts s.aec.settledCount })

/-- The issue decision in RUN (R47); the iris move is requested, and after a stop requested again (R56), when a record
is issued (log entry 54). -/
def issueDecision (s : State) (plan : Plan) (walked : Bool) : State :=
  if walked && (s.aec.markDue || differs s.aec.latest plan.setting) then
    let s := s.setAec (issueRecord s.aec plan.setting)
    if plan.pinned then requestIris s plan.setting.iris else s
  else s

/-- A measured frame in RUN or HELD (R40): true when a disturbance is sent (R55). -/
def measuredFrame (s : State) (z : ZoneSet) : State × Bool :=
  let c := computeStages s z
  let s := reportStages s c
  let walked := decide (s.aec.params.deadband < c.e.natAbs) || s.aec.markDue
  let plan := exposurePlan s c.xNew.toNat
  let s := settleFrame s c plan walked
  if s.aec.state = .held then
    let b := breakTest s.aec c.e
    (s.setAec { s.aec with breakCount := b.1 }, b.2)
  else (issueDecision s plan walked, false)

/-- A capture copy of the latest issued setting, when a mark is due (R53). While AFC is in COARSE or FINE no record is
issued, and the mark stays due (R33, log entry 47). -/
def captureCopy (s : State) : State :=
  if s.aec.markDue && !s.afc.state.scanning then
    match s.aec.latest with
    | some x => aecJudgeRecords (s.setAec (issueRecord s.aec x))
    | none => s
  else s

/-- A manual setting is issued as a record in OFF (R52). While AFC is in COARSE or FINE no record is issued, and the
setting stays waiting (R33, log entry 47). -/
def issueManual (s : State) (x : Setting) : State :=
  if s.afc.state.scanning then s
  else requestIris (aecJudgeRecords (s.setAec (issueRecord { s.aec with manual := none } x))) x.iris

/-- The issue point of a frame not waiting in OFF (R52, R53): a manual setting that differs, or comes with a mark due, is
issued; one equal to the latest, with no mark due, is dropped, which issues nothing. -/
def issueOff (s : State) : State :=
  match s.aec.manual with
  | some x =>
    if s.aec.markDue || differs s.aec.latest x then issueManual s x
    else s.setAec { s.aec with manual := none }
  | none => captureCopy s

/-- AEC's work at the EOF of frame fn (R40): the zone set is none for a truncated frame. The second component
says that a disturbance is sent to AFC, the third that a stage 3 was made and found CLIPPED_SUBJECT. -/
def aecEof (s : State) (z : Option ZoneSet) : State × Bool × Bool :=
  let a := s.aec
  if waitingFrame a s.intake.fn then (s, false, false)
  else
    let noWeight := decide (weightSum a.copy = 0)
    match a.state with
    | .fault => (s, false, false)
    | .off => (issueOff s, false, false)
    | .locked =>
      match z with
      | some z =>
        if noWeight then (captureCopy s, false, false)
        else (captureCopy (reportStages s (computeStages s z)), false, clippedSubject z.mask a.copy.subject)
      | none => (captureCopy s, false, false)
    | _ =>
      match z with
      | some z =>
        if a.irisMoved || noWeight then (invalidFrame s, false, false)
        else
          let r := measuredFrame s z
          (r.1, r.2, clippedSubject z.mask a.copy.subject)
      | none => (invalidFrame s, false, false)

end Sys2Proof.Machine
end

