-- ==== Sys2Proof/Machine/Motion.lean ====
section
/-! DEFINITION. The Motion Unit (chapter 7): a rate sample from the sequence check to the blur accumulator,
the recentre, the crop, readback and shift fault, strobe edges and the blur queue, and the shake class. -/

namespace Sys2Proof.Machine

/-! ### One axis (R122 to R124) -/

/-- The bias after a sample with rate r (R122). -/
def biasAfter (p : StabParams) (pan : Bool) (b r : Int) : Int :=
  if pan then b else b + Int.tdiv (256 * r - b) (2 ^ p.biasShift)

/-- The corrected rate of a sample (R122). -/
def correctedRate (b r : Int) : Int := clampInt (-32767) 32767 (r - divRoundAway b 256)

/-- Step 2 of R120 on one axis: the bias and the corrected rate. -/
def axisRate (p : StabParams) (pan : Bool) (r : Int) (x : Axis) : Axis :=
  let b := biasAfter p pan x.bias r
  { x with bias := b, rate := correctedRate b r }

/-- The sign of a corrected rate (R124). -/
def signOf (c : Int) : PrevSign := if 0 < c then .positive else if c < 0 then .negative else .cleared

/-- The axis is a candidate (R124). -/
def panCandidate (p : StabParams) (x : Axis) : Bool :=
  decide (p.panRef ≤ x.rate.natAbs) && decide (x.rate ≠ 0) && decide (x.prevSign = signOf x.rate)

/-- Step 3 of R120 on one axis: the pan counter and the previous sign (R124). -/
def axisPan (p : StabParams) (x : Axis) : Axis :=
  { x with panCount := if panCandidate p x then min 255 (x.panCount + 1) else 0, prevSign := signOf x.rate }

/-- The axis is asserted (R125). -/
def asserted (p : StabParams) (x : Axis) : Bool := decide (p.panDeb ≤ x.panCount)

/-- The leak of an axis (R123). -/
def leakOf (p : StabParams) (x : Axis) : Nat := if asserted p x then p.leakShift - 3 else p.leakShift

/-- One integration step with the axis's corrected rate (R123). -/
def integrate (p : StabParams) (x : Axis) : Axis :=
  { x with
    angle := clampInt (-2147483647) 2147483647 (x.angle + x.rate * p.dt - Int.tdiv x.angle (2 ^ leakOf p x)) }

/-- n integration steps (R121). -/
def integrateTimes (p : StabParams) : Nat → Axis → Axis
  | 0, x => x
  | n + 1, x => integrateTimes p n (integrate p x)

/-- Pan as the combination of the enabled axes (R125). -/
def panOf (p : StabParams) (yaw pitch : Axis) : Bool :=
  match p.combination with
  | .or => (p.yawEnable && asserted p yaw) || (p.pitchEnable && asserted p pitch)
  | .and =>
    (p.yawEnable || p.pitchEnable) && (!p.yawEnable || asserted p yaw) && (!p.pitchEnable || asserted p pitch)

/-- The total shift of an angle (R130). -/
def totalShift (angle : Int) (k : Nat) : Int := -(divRoundAway (angle * k) 16777216)

/-- The optical target of a total shift (R131). -/
def opticalTarget (mode : StabMode) (total : Int) : Int :=
  match mode with
  | .optical => clampInt (-2047) 2047 total
  | _ => 0

/-- The residual (R131). -/
def residualOf (mode : StabMode) (total optical : Int) : Int :=
  match mode with
  | .off => 0
  | _ => total - optical

/-- Step 5 of R120 on one axis (R130, R131). -/
def axisShift (mode : StabMode) (k : Nat) (x : Axis) : Axis :=
  let t := totalShift x.angle k
  let o := opticalTarget mode t
  { x with total := t, optical := o, residual := residualOf mode t o }

/-- The optical clamp changed the target of an axis (R131). -/
def axisClamped (mode : StabMode) (x : Axis) : Bool := decide (mode = .optical ∧ x.optical ≠ x.total)

/-! ### Recentre (R129) -/

/-- An axis recentred, its angle 0 (R128, R129). -/
def axisCentred (x : Axis) : Axis := { x with angle := 0, total := 0, optical := 0, residual := 0 }

/-- Both angles 0 and the shift recentred: target 0 sent at once, the history emptied (R129). -/
def recentre (m : Mou) : Mou :=
  { m with yaw := axisCentred m.yaw, pitch := axisCentred m.pitch, target := ⟨0, 0⟩, targetBefore := none }

/-! ### A rate sample (R120, R121) -/

/-- What the sequence check finds (R121). -/
inductive SequenceCase where
  | inOrder
  | shortGap (g : Nat)
  | longGap
  | repeated
  deriving DecidableEq, Repr

/-- The sequence check (R121). -/
def sequenceCase (last : Option Nat) (seq : Nat) : SequenceCase :=
  match last with
  | none => .inOrder
  | some l =>
    let g := (seq + 511 - l % 256) % 256
    if g = 0 then .inOrder else if g ≤ 8 then .shortGap g else if g ≤ 254 then .longGap else .repeated

/-- A pan counter at 0 with the previous sign cleared (R121). -/
def axisPanCleared (x : Axis) : Axis := { x with panCount := 0, prevSign := .cleared }

/-- Step 1 of R120: what the sequence check does before the sample is processed (R121). -/
def sequenceEffect (m : Mou) : SequenceCase → Mou
  | .shortGap g => { m with yaw := integrateTimes m.params g m.yaw, pitch := integrateTimes m.params g m.pitch }
  | .longGap => let m := recentre m; { m with yaw := axisPanCleared m.yaw, pitch := axisPanCleared m.pitch }
  | _ => m

/-- The blur error of an axis (R135). -/
def blurError (mode : StabMode) (total readback : Int) : Int := if mode = .optical then total - readback else total

/-- The blur errors of both axes as they stand. -/
def Mou.errors (m : Mou) : AxisPair :=
  ⟨blurError m.mode m.yaw.total m.readback.yaw, blurError m.mode m.pitch.total m.readback.pitch⟩

/-- A sample in an open blur window (R135). -/
def blurSample (e : AxisPair) (w : BlurWindow) : BlurWindow :=
  ⟨max w.yawMax e.yaw, min w.yawMin e.yaw, max w.pitchMax e.pitch, min w.pitchMin e.pitch, w.count + 1⟩

/-- Steps 2 to 7 of R120 on MOU, with shift scale k (R122 to R127, R130, R131, R135). -/
def processSample (m : Mou) (k seq : Nat) (yawRate pitchRate : Int) : Mou :=
  let p := m.params
  let yaw := axisPan p (axisRate p m.pan yawRate m.yaw)
  let pitch := axisPan p (axisRate p m.pan pitchRate m.pitch)
  let pan := panOf p yaw pitch
  let yaw := axisShift m.mode k (integrate p yaw)
  let pitch := axisShift m.mode k (integrate p pitch)
  let m := { m with yaw := yaw, pitch := pitch, pan := pan, target := ⟨yaw.optical, pitch.optical⟩, targetBefore := some m.target }
  { m with
    window := m.window.map (blurSample m.errors)
    peak := max m.peak (max yaw.rate.natAbs pitch.rate.natAbs)
    panSeen := m.panSeen || pan
    sampleSeen := true
    lastSeq := some seq }

/-- The frame in progress carries SHIFT_LIMIT (R131, R142). -/
def recordShiftLimit (r : FrameRecord) : FrameRecord := { r with shiftLimit := true }

/-- SHIFT_LIMIT for a sample at which the optical clamp acts (R131). -/
def shiftLimitSample (s : State) : State :=
  if axisClamped s.mou.mode s.mou.yaw || axisClamped s.mou.mode s.mou.pitch then
    (s.raise condShiftLimit).setCst { s.cst with slots := fillingRecord recordShiftLimit s.cst.slots }
  else s

/-- A rate sample, processed whole (R120). -/
def rateSample (s : State) (seq : Nat) (yaw pitch : Int) : State :=
  let c := sequenceCase s.mou.lastSeq seq
  let s := if c = .inOrder then s else s.raise condMotionGap
  match c with
  | .repeated => s
  | _ =>
    let m := processSample (sequenceEffect s.mou c) s.shiftScaleNow seq yaw pitch
    shiftLimitSample ((s.setMou m).level condPan m.pan)

/-! ### Readback and shift fault (R133, R134) -/

/-- A readback fails against a target (R133). -/
def readbackFails (tol : Nat) (r t : AxisPair) : Bool :=
  decide (tol < (r.yaw - t.yaw).natAbs) || decide (tol < (r.pitch - t.pitch).natAbs)

/-- MOU enters the fault state (R134). -/
def enterShiftFault (s : State) : State :=
  (s.setMou { s.mou with fault := true, mode := .electronic, faultCount := 0 }).level condShiftFault true

/-- A readback (R133, R134). -/
def takeReadback (s : State) (r : AxisPair) : State :=
  let m := { s.mou with readback := r }
  match m.mode, m.targetBefore with
  | .optical, some t =>
    if readbackFails m.params.shiftTol r t then
      let n := min 15 (m.faultCount + 1)
      let s := s.setMou { m with faultCount := n }
      if m.params.shiftFaultCount ≤ n then enterShiftFault s else s
    else s.setMou { m with faultCount := 0 }
  | _, _ => s.setMou m

/-! ### Blur of each exposure (R135 to R137) -/

/-- The strobe line rises (R135). -/
def strobeRises (m : Mou) : Mou :=
  let e := m.errors
  { m with strobe := true, window := some ⟨e.yaw, e.yaw, e.pitch, e.pitch, 0⟩ }

/-- The blur record of a window (R135). -/
def blurRecord (w : BlurWindow) : BlurRecord :=
  ⟨min 65535 (w.yawMax - w.yawMin).toNat, min 65535 (w.pitchMax - w.pitchMin).toNat, min 65535 w.count⟩

/-- A record joins the blur queue, a full queue losing its oldest (R136). -/
def pushBlur (q : List BlurRecord) (b : BlurRecord) : List BlurRecord :=
  if Config.blurQueuePlaces ≤ q.length then q.tail ++ [b] else q ++ [b]

/-- The strobe line falls (R135). -/
def strobeFalls (m : Mou) : Mou :=
  match m.window with
  | some w => { m with strobe := false, window := none, queue := pushBlur m.queue (blurRecord w) }
  | none => { m with strobe := false }

/-- A blur record is BLURRED (R137). -/
def isBlurred (p : StabParams) (b : BlurRecord) : Bool := decide (p.blurLimit < max b.yaw b.pitch)

/-! ### The crop (R132) -/

/-- The crop of an axis before it is clamped (R132). -/
def cropWish (margin : Nat) (residual : Int) (ppu : Nat) : Int :=
  ((margin / 2 : Nat) : Int) + divRoundEvenTowardZero (residual * ppu) 256

/-- The crop of an axis (R132). -/
def cropOf (margin : Nat) (residual : Int) (ppu : Nat) : Nat := (clampInt 0 margin (cropWish margin residual ppu)).toNat

/-- The clamp changes the crop of an axis (R132). -/
def cropClamped (margin : Nat) (residual : Int) (ppu : Nat) : Bool :=
  clampInt 0 margin (cropWish margin residual ppu) != cropWish margin residual ppu

/-- MOU's work at an SOF (R132, R136, R137): the crop goes to PXP, and the oldest blur record is bound. What AFC
supplies at the SOF (R84) goes with it to CST. -/
def mouSof (s : State) : State × FrameFacts :=
  let m := s.mou
  let g := s.intake.geometry
  let clamped := cropClamped (marginX g) m.yaw.residual m.params.ppu || cropClamped (marginY g) m.pitch.residual m.params.ppu
  let blur := m.queue.head?
  let blurred := match blur with | some b => isBlurred m.params b | none => false
  let x := cropOf (marginX g) m.yaw.residual m.params.ppu
  let y := cropOf (marginY g) m.pitch.residual m.params.ppu
  let s := (s.setMou { m with queue := m.queue.tail }).setPxp { s.pxp with cropX := x, cropY := y }
  let locked := s.afc.state.lockedOn
  let facts : FrameFacts :=
    { blur := blur, blurred := blurred, cropClamped := clamped, afState := s.afc.state,
      primary := if locked then s.afc.primary else none,
      primaryFigure := if locked then s.afc.primaryFigure else none }
  (if clamped then s.raise condShiftLimit else s, facts)

/-! ### Shake class (R127) -/

/-- The shake class of an interval (R127). -/
def shakeClass (p : StabParams) (old : ShakeClass) (peak : Nat) (panSeen sampleSeen : Bool) : ShakeClass :=
  if !sampleSeen then old
  else if panSeen then .panning
  else if peak < p.stillRef then .still
  else if p.shakyRef ≤ peak then .shaky
  else .normal

/-- MOU's work at an EOF (R127). -/
def mouEof (m : Mou) : Mou :=
  { m with
    shake := shakeClass m.params m.shake m.peak m.panSeen m.sampleSeen, peak := 0, panSeen := false, sampleSeen := false }

/-! ### Modes (R128) -/

/-- A taken STAB_MODE (R128). -/
def setStabMode (s : State) (mode : StabMode) : State :=
  (s.setMou { recentre s.mou with mode := mode, fault := false, faultCount := 0 }).level condShiftFault false

/-- A taken STAB_CENTER (R129). -/
def stabCenter (m : Mou) : Mou := { recentre m with faultCount := 0 }

end Sys2Proof.Machine
end

