-- ==== Sys2Proof/Machine/Pixel.lean ====
section
/-! DEFINITION. The Pixel Path (chapter 1) and the Statistics Unit (chapter 2): a line fitted to the sensor width,
the three stages, the sums of the frame in progress, the stored line, and the measurement at EOF. -/

namespace Sys2Proof.Machine

/-! ### A line as INTAKE passes it on (R7) -/

/-- The last value of a line, 0 for an empty one. -/
def lastPixel : List Nat → Nat
  | [] => 0
  | p :: rest => rest.getLastD p

/-- A line of exactly w pixels (R7): a short line padded by its last value, a long one cut. -/
def fitLine (w : Nat) (line : List Nat) : List Nat :=
  if line.length < w then line ++ List.replicate (w - line.length) (lastPixel line) else line.take w

/-! ### The three stages (R12 to R14) -/

/-- The digital gain multipliers (R14): 256 × 2^(d/16) rounded half away from zero, for d = 0..31. -/
def gainTable : List Nat :=
  [256, 267, 279, 292, 304, 318, 332, 347, 362, 378, 395, 412, 431, 450, 470, 490] ++
  [512, 535, 558, 583, 609, 636, 664, 693, 724, 756, 790, 825, 861, 899, 939, 981]

/-- dg(d) (R14). -/
def digitalGain (d : Nat) : Nat := gainTable.getD d 256

/-- The mosaic channel of a pixel, in the order R, Gr, Gb, B (R1). -/
def channelOf (line x : Nat) : Nat := 2 * (line % 2) + x % 2

/-- The black level of a channel. -/
def blackLevel (c : Channels) : Nat → Nat
  | 0 => c.r
  | 1 => c.gr
  | 2 => c.gb
  | _ => c.b

/-- Stage 1 (R12). -/
def stage1 (raw black : Nat) : Nat := raw - black

/-- Stage 2 (R13). -/
def stage2 (p1 g : Nat) : Nat := min 4095 ((p1 * g + 512) / 1024)

/-- Stage 3 (R14). -/
def stage3 (p2 dg : Nat) : Nat := min 4095 ((p2 * dg + 128) / 256)

/-- Byte offset of the gain of the shading cell and channel of pixel (x, y) (R13, R191). -/
def gainOffset (g : Geometry) (x y : Nat) : Nat :=
  8 * (32 * (24 * y / g.h) + 32 * x / g.w) + 2 * channelOf y x

/-- The gain of a pixel's shading cell and channel: 1,024 while the table is invalid (R13). -/
def shadingGain (sh : Option Shading) (g : Geometry) (x y : Nat) : Nat :=
  match sh with
  | some ⟨_, some m⟩ => tbl16 m (gainOffset g x y)
  | _ => 1024

/-- The black level PXP holds for a pixel (R12). -/
def blackOf (p : Pxp) (x y : Nat) : Nat :=
  match p.black with
  | some c => blackLevel c (channelOf y x)
  | none => 0

/-- A pixel through the three stages (R12 to R14). -/
def correctPixel (p : Pxp) (g : Geometry) (y x raw : Nat) : Nat :=
  stage3 (stage2 (stage1 raw (blackOf p x y)) (shadingGain p.shading g x y)) p.dg

/-- A line from position x on through the three stages. -/
def correctFrom (p : Pxp) (g : Geometry) (y : Nat) : Nat → List Nat → List Nat
  | _, [] => []
  | x, raw :: rest => correctPixel p g y x raw :: correctFrom p g y (x + 1) rest

/-- The band of a zoom position (R13). -/
def bandOf (i : Intake) (z : MotorState) : Nat :=
  if !z.valid then 0 else if z.pos < i.b1 then 0 else if z.pos < i.b2 then 1 else if z.pos < i.b3 then 2 else 3

/-- PXP's work at an SOF but for the crop, which MOU supplies (R12 to R14). -/
def pxpSof (s : State) : State :=
  let band := bandOf s.intake s.lds.zoom
  let t := if s.tableValid (shadingId band) then some (s.working (shadingId band)) else none
  s.setPxp { s.pxp with
    black := some s.intake.black
    shading := some ⟨band, t⟩
    dg := digitalGain s.aec.frame.gD }

/-! ### The measurement in progress (R17 to R25) -/

/-- Zone width (R18). -/
def zoneWidth (w : Nat) : Nat := 2 * (w / 32)

/-- Zone height (R18). -/
def zoneHeight (h : Nat) : Nat := 2 * (h / 24)

/-- STATS's work at an SOF (R17): every sum cleared, the per-frame copies taken. -/
def openMeasurement (s : State) : Measurement :=
  { w := s.intake.geometry.w, h := s.intake.geometry.h, zw := zoneWidth s.intake.geometry.w,
    zh := zoneHeight s.intake.geometry.h, clip := s.stats.clip, noise := s.stats.noise, windows := s.afc.windows,
    zoneSums := List.replicate 192 0, clipped := List.replicate 192 0,
    figures := List.replicate 8 ⟨0, false, 0⟩, evenPairs := [] }

def statsSof (s : State) : State := s.setStats { s.stats with measure := some (openMeasurement s) }

/-- Elements start .. start + n − 1 of a list. -/
def segment (xs : List Nat) (start n : Nat) : List Nat := (xs.drop start).take n

/-- The sums of the two pixels of each mosaic group of a line (R19). -/
def pairSums : List Nat → List Nat
  | a :: b :: rest => (a + b) :: pairSums rest
  | _ => []

/-- The cell values of an odd line, from the pair sums of the line above it and its own (R19). -/
def cellValues (even odd : List Nat) : List Nat := List.zipWith (fun a b => (a + b) / 4) even odd

/-- Adds the 16 columns' values to row r of a list of 192 zones. -/
def addToRow (r : Nat) (zones row : List Nat) : List Nat :=
  zones.mapIdx fun i n => if i / 16 = r then n + row.getD (i % 16) 0 else n

/-- The clipped pixels of each zone column of a line (R21). -/
def clippedColumns (zw : Nat) (line : List Nat) : List Nat :=
  (List.range 16).map fun c => (segment line (c * zw) zw).count 4095

/-- The sums of the cell values of each zone column (R20). -/
def cellColumns (zw : Nat) (cells : List Nat) : List Nat :=
  (List.range 16).map fun c => (segment cells (c * (zw / 2)) (zw / 2)).sum

/-- The elements at even places of a list. -/
def evens : List Nat → List Nat
  | a :: _ :: rest => a :: evens rest
  | [a] => [a]
  | [] => []

/-- The green pixels of a line that starts at an even position (R24): odd positions of an even line, even
positions of an odd line. -/
def greens (y : Nat) (line : List Nat) : List Nat := if y % 2 = 0 then evens line.tail else evens line

/-- The figure terms of successive green pixels (R24). -/
def figureTerms (noise : Nat) : List Nat → List Nat
  | a :: b :: rest => (distance a b - noise) :: figureTerms noise (b :: rest)
  | _ => []

/-- A figure after an addition, held at the top with its SAT mark (R24). -/
def addFigure (x : Figure) (n : Nat) : Figure :=
  if 4294967295 < x.f + n then { x with f := 4294967295, sat := true } else { x with f := x.f + n }

/-- A line lies in a window's pixel area (R23). -/
def inWindowLines (zh : Nat) (w : Window) (y : Nat) : Bool :=
  decide (w.fr * zh ≤ y ∧ y < (w.fr + w.usedRows) * zh)

/-- A window's figure after line y, with the line's cell values when the line is odd (R24, R25). -/
def windowLine (m : Measurement) (y : Nat) (line cells : List Nat) (w : Window) (x : Figure) : Figure :=
  if w.enabled && inWindowLines m.zh w y then
    let area := segment line (w.fc * m.zw) (w.usedColumns * m.zw)
    let x := addFigure x (figureTerms m.noise (greens y area)).sum
    { x with cells := x.cells + (segment cells (w.fc * (m.zw / 2)) (w.usedColumns * (m.zw / 2))).sum }
  else x

/-- A corrected line y joins the measurement (R17 to R25). -/
def measureLine (m : Measurement) (y : Nat) (line : List Nat) : Measurement :=
  let pairs := pairSums line
  let cells := if y % 2 = 1 then cellValues m.evenPairs pairs else []
  let r := if m.zh = 0 then 12 else y / m.zh
  { m with
    zoneSums := addToRow r m.zoneSums (cellColumns m.zw cells)
    clipped := (addToRow r m.clipped (clippedColumns m.zw line)).map (min 65535)
    figures := List.zipWith (windowLine m y line cells) m.windows m.figures
    evenPairs := if y % 2 = 0 then pairs else [] }

/-! ### The measurement at EOF (R20 to R26, R29, R30) -/

/-- Cells of a zone (R19). -/
def zoneCells (m : Measurement) : Nat := m.zw / 2 * (m.zh / 2)

/-- The zone means (R20). -/
def zoneMeans (m : Measurement) : List Nat := m.zoneSums.map fun n => n / zoneCells m

/-- The highlight mask, in zone order (R22). -/
def highlightMask (m : Measurement) : List Nat :=
  (List.range 192).filter fun i => decide (m.clip < m.clipped.getD i 0)

/-- A window record (R25): a window that is not enabled reports nothing else. -/
def windowRecord (m : Measurement) (w : Window) (x : Figure) : WindowRecord :=
  if w.enabled then
    ⟨true, x.f, x.sat, x.cells / (zoneCells m * w.usedColumns * w.usedRows), w.usedColumns, w.usedRows⟩
  else ⟨false, 0, false, 0, 0, 0⟩

/-- The eight window records, in window order (R25). -/
def windowRecords (m : Measurement) : List WindowRecord := List.zipWith (windowRecord m) m.windows m.figures

/-- The STATS packet of a measurement (R29). -/
def statsPacket (m : Measurement) (fn replaced : Nat) : StatsPacket :=
  { fn := fn, zw := m.zw, zh := m.zh, clip := m.clip, noise := m.noise, replaced := replaced, means := zoneMeans m,
    clipped := m.clipped, mask := highlightMask m, windows := windowRecords m }

/-- A built STATS packet becomes the waiting one; an older one that still waits is replaced and counted (R30). -/
def offerStats (st : Stats) (p : StatsPacket) : Stats :=
  { st with
    waiting := some p
    replaced := if st.waiting.isSome then min 65535 (st.replaced + 1) else st.replaced }

/-- The divider at an untruncated EOF, and the packet it calls for (R29). -/
def statsDivide (st : Stats) (m : Measurement) (fn : Nat) : Stats :=
  if st.rate = 0 then st
  else if st.rate ≤ st.divider + 1 then offerStats { st with divider := 0 } (statsPacket m fn st.replaced)
  else { st with divider := st.divider + 1 }

/-- STATS's work at an untruncated EOF on its own state (R26): the measurement is delivered and let go. -/
def statsEof (st : Stats) (fn : Nat) : Stats :=
  match st.measure with
  | some m => { statsDivide st m fn with measure := none }
  | none => st

/-- STATS's work at a truncated EOF (R27). -/
def statsTruncated (st : Stats) : Stats := { st with measure := none }

/-! ### The stored line (R15, R140, R189) -/

/-- Pixels packed two per three bytes (R189). -/
def packPixels : List Nat → List Byte
  | p :: q :: rest => byteOf (p / 16) :: byteOf (p % 16 * 16 + q / 256) :: byteOf q :: packPixels rest
  | _ => []

/-- The bytes of one stored line (R157). -/
def lineBytes (outW : Nat) : Nat := outW * 3 / 2

/-- The address of stored line k of slot i in a store of n slots (R140, log entry 14). -/
def lineAddress (n i outW k : Nat) : Nat := i * slotSize n + k * lineBytes outW

/-- Line y of the frame is stored (R15): it lies in the output window at the crop offset in force. -/
def inCrop (p : Pxp) (g : Geometry) (y : Nat) : Bool := decide (p.cropY ≤ y ∧ y < p.cropY + g.outH)

/-- The slot that is FILLING, if any (R141). -/
def fillingSlot (slots : List Slot) : Option Nat := (slotsWhere (fun x => decide (x.state = .filling)) slots).head?

/-- Where corrected line y is stored: its address, or none when it is not stored (R15). -/
def storeAddress (s : State) (y : Nat) : Option Nat :=
  match fillingSlot s.cst.slots with
  | some i =>
    if inCrop s.pxp s.intake.geometry y then
      some (lineAddress s.cst.slots.length i s.intake.geometry.outW (y - s.pxp.cropY))
    else none
  | none => none

/-- The bytes PXP hands to the store for a corrected line (R15, R189). -/
def storedLine (s : State) (line : List Nat) : List Byte :=
  packPixels (segment line s.pxp.cropX s.intake.geometry.outW)

end Sys2Proof.Machine
end

