-- ==== Sys2Proof/Machine/Packets.lean ====
section
/-! DEFINITION. The payloads of the downstream packets (R187, R189, R190) and the enumeration values of section
11.5. -/

namespace Sys2Proof.Machine

/-! ### Kind bytes (R187) -/

def kindReply : Byte := 0x11
def kindNotice : Byte := 0x12
def kindStatus : Byte := 0x13
def kindStats : Byte := 0x14
def kindHistory : Byte := 0x15
def kindRecord : Byte := 0x16
def kindImage : Byte := 0x17
def kindImageFinal : Byte := 0x97
def kindImageAbort : Byte := 0xD7

/-- The bytes of a packet over which its check is formed: header and payload (R174, R187). -/
def packetBytes (p : Packet) : List Byte := [p.kind, p.tag] ++ field16 p.payload.length ++ p.payload

/-- A packet as it stands on the link: header, payload and check (R187). -/
def linkBytes (p : Packet) : List Byte := packetBytes p ++ checkBytes (packetBytes p)

/-! ### Enumeration values (section 11.5) -/

def Status.code : Status → Byte
  | .done => 0x00
  | .doneClamped => 0x01
  | .accepted => 0x02
  | .refusedBusy => 0x10
  | .refusedState => 0x11
  | .refusedArg => 0x12
  | .refusedTable => 0x13
  | .refusedUnreferenced => 0x14
  | .unknownCommand => 0x1F

/-- The intake state as STATUS sends it (log entry 65). -/
def IntakeMode.code : IntakeMode → Nat
  | .stopped => 0
  | .waiting => 1
  | .inFrame => 2

def AeState.code : AeState → Nat
  | .off => 0
  | .run => 1
  | .held => 2
  | .locked => 3
  | .fault => 4

def Program.code : Program → Nat
  | .live => 0
  | .capture => 1

def AfMode.code : AfMode → Nat
  | .off => 0
  | .single => 1
  | .continuous => 2
  | .manual => 3

def AfState.code : AfState → Nat
  | .idle => 0
  | .coarse => 1
  | .fine => 2
  | .locked => 3
  | .monitor => 4
  | .settle => 5
  | .failed => 6

/-- A failure reason, 0 for none. -/
def failCode : Option FailReason → Nat
  | none => 0
  | some .lowContrast => 1
  | some .unstable => 2
  | some .disturbed => 3
  | some .historyFull => 4
  | some .lost => 5
  | some .settleTimeout => 6

def ZoomMode.code : ZoomMode → Nat
  | .idle => 0
  | .moving => 1
  | .stopping => 2

def ShakeClass.code : ShakeClass → Nat
  | .still => 0
  | .normal => 1
  | .shaky => 2
  | .panning => 3

def StabMode.code : StabMode → Nat
  | .off => 0
  | .optical => 1
  | .electronic => 2

def SlotState.code : SlotState → Nat
  | .free => 0
  | .filling => 1
  | .ready => 2
  | .held => 3
  | .sending => 4

def Part.code : Part → Nat
  | .stream => 0
  | .pre => 1
  | .post => 2

def StoreMode.code : StoreMode → Nat
  | .off => 0
  | .stream => 1
  | .burst => 2
  | .pretrigger => 3

def CaptureState.code : CaptureState → Nat
  | .idle => 0
  | .armed => 1
  | .gating => 2
  | .capturing => 3

def LatchMode.code : LatchMode → Nat
  | .latched => 0
  | .timed => 1
  | .level => 2

def Source.code : Source → Nat
  | .park => 0
  | .track => 1
  | .zoom => 2
  | .iris => 3
  | .af => 4
  | .manual => 5

def Phase.code : Phase → Nat
  | .main => 0
  | .ret => 1

/-- Motors in the order of R58 (log entry 26). -/
def Motor.code : Motor → Nat
  | .zoom => 0
  | .focus => 1
  | .iris => 2

/-! ### REPLY, NOTICE, STATS (R189) -/

/-- A REPLY packet with the link-error mark as it stands when the packet begins. -/
def replyPacket (r : Reply) (mark : Bool) : Packet :=
  ⟨kindReply, r.tag, [r.code, r.status.code] ++ fieldBool mark ++ [0] ++ r.data⟩

/-- A NOTICE packet (R170): its contents as they stand when it begins. -/
def noticePacket (c : Cnd) (lastSof : Option Nat) : Packet :=
  ⟨kindNotice, 0, field16 (lastSof.getD 0) ++
    ((List.range 25).flatMap fun k => fieldBool (c.condition k).latch ++ field8 (c.condition k).count) ++
    (stateConditions.flatMap fun k => fieldBool (c.condition k).latchedLevel ++ fieldBool (c.condition k).current)⟩

/-- A window record in a STATS packet: all other fields 0 while it is not enabled. -/
def windowRecordBytes (w : WindowRecord) : List Byte :=
  if w.enabled then
    [1] ++ fieldBool w.sat ++ field32 w.f ++ field16 w.mean ++ field8 w.columns ++ field8 w.rows
  else List.replicate 10 0

/-- A STATS packet. -/
def statsBytes (p : StatsPacket) : Packet :=
  ⟨kindStats, 0, field16 p.fn ++ field16 p.zw ++ field16 p.zh ++ field16 p.clip ++ field8 p.noise ++ [0] ++
    field16 p.replaced ++ p.means.flatMap field16 ++ p.clipped.flatMap field16 ++ fieldBitSet 24 p.mask ++
    p.windows.flatMap windowRecordBytes⟩

/-! ### RECORD (R190) -/

/-- A byte of flags, the first at bit 0. -/
def flagByte (flags : List Bool) : List Byte :=
  field8 (flags.foldr (fun b acc => 2 * acc + if b then 1 else 0) 0)

/-- The exposure fields of a frame record, offsets 16..26. -/
def exposureBytes (x : FrameExposure) : List Byte :=
  field8 x.tI ++ field8 x.aE ++ field8 x.gA ++ field8 x.gD ++ field16 x.x ++ field8 x.program.code ++
  fieldOption8 x.mark ++ field8 x.state.code ++ fieldBool x.settled

/-- The lens fields of a frame record, offsets 27..33. -/
def lensBytes (r : FrameRecord) : List Byte :=
  flagByte [r.zoom.valid, r.focus.valid, r.iris.valid] ++ field16 r.zoom.pos ++ field16 r.focus.pos ++
  field8 r.iris.pos ++ flagByte [r.moving.zoom, r.moving.focus, r.moving.iris]

/-- The focus fields of a frame record, offsets 34..41. -/
def focusBytes (r : FrameRecord) : List Byte :=
  field8 r.afState.code ++ fieldPrimary r.primary ++ fieldBool r.primaryFigure.isSome ++ [0] ++
  field32 (r.primaryFigure.getD 0)

/-- The motion fields of a frame record, offsets 42..55. -/
def motionBytes (r : FrameRecord) : List Byte :=
  let b := r.blur.getD ⟨0, 0, 0⟩
  field8 r.shake.code ++ field8 r.stab.code ++ fieldBool r.blur.isSome ++ [0] ++ field16 b.yaw ++ field16 b.pitch ++
  field16 b.count ++ field16 r.cropX ++ field16 r.cropY

/-- The flags of a frame record, offset 56. -/
def recordFlags (r : FrameRecord) : List Byte :=
  flagByte [r.forced, r.blurred, r.clippedSubject, r.shiftLimit, r.trackLimit, !r.exposure.settled]

/-- The 60 bytes of a frame record. -/
def recordBytes (r : FrameRecord) : List Byte :=
  field16 r.fn ++ field16 r.captureId ++ field8 r.part.code ++ field8 r.skippedBefore ++
  field16 (min 65535 r.index) ++ field16 r.outW ++ field16 r.outH ++ field32 r.length ++ exposureBytes r.exposure ++
  lensBytes r ++ focusBytes r ++ motionBytes r ++ recordFlags r ++ [0, 0, 0]

/-- A RECORD packet. -/
def recordPacket (tag : Tag) (p : RecordPacket) : Packet :=
  ⟨kindRecord, tag, field8 p.slot ++ field8 p.state.code ++ fieldBool p.heldMark ++ [0] ++ recordBytes p.record⟩

/-! ### HISTORY (R104, R190) -/

/-- A history entry. -/
def historyEntryBytes (e : HistoryEntry) : List Byte :=
  field16 e.pos ++ field16 e.fn ++ fieldBool e.fine ++ fieldBool e.blurred ++
  e.figures.flatMap fun g => field32 g.f ++ fieldBool g.sat ++ [0] ++ field16 g.mean

/-- The 18-byte header of the first HISTORY packet; the window set is 0 for a history that is empty since reset. -/
def historyHeader (a : Afc) : List Byte :=
  let r := a.range.getD (0, 0)
  let k := a.lock.getD ⟨0, 0, 0, false⟩
  field8 a.state.code ++ field8 a.mode.code ++ field8 (failCode a.failure) ++ fieldPrimary a.reportedPrimary ++
  field16 r.1 ++ field16 r.2 ++ fieldBool a.lock.isSome ++ field8 a.restarts ++ field16 k.pos ++ field16 k.d ++
  field8 a.history.length ++ fieldBitSet 1 (if a.historyMade then a.windowSet else []) ++ [0, 0]

/-- The number of HISTORY packets. -/
def historyPacketCount (a : Afc) : Nat := max 1 ((a.history.length + 7) / 8)

/-- HISTORY packet k: up to eight entries, the header in the first. -/
def historyPacket (tag : Tag) (a : Afc) (k : Nat) : Packet :=
  let es := (a.history.drop (8 * k)).take 8
  ⟨kindHistory, tag, field8 k ++ field8 (historyPacketCount a) ++ field8 es.length ++ [0] ++
    (if k = 0 then historyHeader a else []) ++ es.flatMap historyEntryBytes⟩

/-- The HISTORY packets of one AF_HISTORY. -/
def historyPackets (tag : Tag) (a : Afc) : List Packet := (List.range (historyPacketCount a)).map (historyPacket tag a)

/-! ### STATUS (R186, R190). The fields that the rules name without a layout: log entries 26 and 65 to 70. -/

/-- The values of one axis (R131): angle, bias, total and residual in four bytes, optical target and readback in two
(log entry 69). -/
def axisBytes (x : Axis) (readback : Int) : List Byte :=
  fieldSigned32 x.angle ++ fieldSigned32 x.bias ++ fieldSigned32 x.total ++ fieldSigned16 x.optical ++
  fieldSigned32 x.residual ++ fieldSigned16 readback

def statusIntake (i : Intake) : List Byte :=
  field8 i.mode.code ++ field16 i.fn ++ field16 i.geometry.w ++ field16 i.geometry.h ++ field16 i.geometry.outW ++
  field16 i.geometry.outH ++ field16 i.timeout

def statusStats (st : Stats) : List Byte := field16 st.replaced

def settingBytes (x : Setting) : List Byte := field8 x.tI ++ field8 x.iris ++ field8 x.gA ++ field8 x.gD

/-- The latest issued setting, optional. -/
def fieldSetting : Option Setting → List Byte
  | some x => 1 :: settingBytes x
  | none => [0, 0, 0, 0, 0]

/-- A record of the in-flight list: its effective FN, setting, program and mark (R49). -/
def inFlightBytes (r : InFlight) : List Byte :=
  field16 r.effective ++ settingBytes r.issue.setting ++ field8 r.issue.program.code ++ fieldOption8 r.issue.mark

def statusAec (a : Aec) : List Byte :=
  field8 a.state.code ++ fieldBool a.settled ++ field8 a.settledCount ++ field8 a.failures ++ fieldBool a.retryFlag ++
  field8 a.program.code ++ field8 a.trigger ++ fieldBool a.markDue ++ field8 a.m ++ fieldSigned16 a.e ++
  field8 a.tEff ++ fieldSetting a.latest ++ field8 a.inFlight.length ++ a.inFlight.flatMap inFlightBytes

/-- Remaining steps of a running move (R67). -/
def runningRemaining (l : Lds) (m : Move) : Nat := distance (l.motor m.motor).pos m.dest

def runningBytes (l : Lds) : List Byte :=
  match l.running with
  | some m =>
    [1] ++ field8 m.source.code ++ field16 m.target ++ field8 m.phase.code ++ field16 (runningRemaining l m)
  | none => List.replicate 7 0

/-- A suspended move, in the order of R67. -/
def suspendedBytes (x : Suspended) : List Byte :=
  field8 x.source.code ++ field8 x.motor.code ++ field8 x.level ++ field16 x.target ++ field8 x.phase.code ++
  field16 x.remaining ++ field16 x.posAt ++ fieldBool x.retarget

/-- The pending requests: a count and, in tie order, the source, motor, target and speed class of each (log entry 67). -/
def pendingBytes (l : Lds) : List Byte :=
  let rs := sourceOrder.filterMap fun src => (l.slots.get src).map fun r => (src, r)
  field8 rs.length ++
  rs.flatMap fun x => field8 x.1.code ++ field8 x.2.motor.code ++ field16 x.2.target ++ field8 x.2.speed

/-- The lens section; that a reference and that a park is in progress are two bytes (log entry 68). -/
def statusLds (l : Lds) : List Byte :=
  field16 l.zoom.pos ++ fieldBool l.zoom.valid ++ field16 l.focus.pos ++ fieldBool l.focus.valid ++ field8 l.iris.pos ++
  fieldBool l.iris.valid ++ runningBytes l ++ field8 l.stack.length ++ l.stack.flatMap suspendedBytes ++
  pendingBytes l ++ fieldBool l.reference.isSome ++ fieldBool l.park.isSome

def fieldOption32 : Option Nat → List Byte
  | some n => 1 :: field32 n
  | none => 0 :: field32 0

/-- The focus section (R82): N_lock is sent as absent while its taken flag is clear (log entry 26). -/
def statusAfc (a : Afc) : List Byte :=
  field8 a.mode.code ++ field8 a.state.code ++ field8 (failCode a.failure) ++ fieldPrimary a.reportedPrimary ++
  fieldOption16 (a.lock.map (·.pos)) ++ fieldOption16 (a.lock.map (·.d)) ++
  fieldOption32 (a.lock.bind fun k => if k.taken then some k.n else none) ++ field8 a.restarts ++
  field8 a.history.length

/-- The zoom section (R106): target and segment end absent in IDLE; direction UP 0, DOWN 1, direction and speed class 0
while there has been no zoom since reset, and the tracking enable 1 for ON (log entry 26). -/
def statusZmc (z : Zmc) : List Byte :=
  let h := z.zoom.getD ⟨0, false, 0⟩
  let t := z.travel.getD ⟨true, 0⟩
  field8 z.mode.code ++ fieldOption16 (z.zoom.map (·.target)) ++ fieldBool h.endClamp ++
  fieldOption16 (z.zoom.map (·.segmentEnd)) ++ fieldBool (!t.up) ++ field8 t.speed ++ fieldBool z.tracking ++
  fieldBool z.trackLimit

def statusMou (m : Mou) : List Byte :=
  field8 m.shake.code ++ fieldBool m.pan ++ field8 m.yaw.panCount ++ field8 m.pitch.panCount ++ field8 m.mode.code ++
  fieldBool m.fault ++ axisBytes m.yaw m.readback.yaw ++ axisBytes m.pitch m.readback.pitch ++ field8 m.queue.length ++
  fieldBool m.window.isSome

/-- A slot's part of the status: the FN of a slot without a record is sent as 0. -/
def slotBytes (x : Slot) : List Byte :=
  field8 x.state.code ++ field8 x.part.code ++ field16 x.captureId ++ field16 ((x.record.map (·.fn)).getD 0) ++
  fieldBool x.recordSent ++ fieldBool x.imageSent

/-- The capture counters (R143), each in four bytes (log entry 26). -/
def counterBytes (k : Counters) : List Byte :=
  field32 k.storedStream ++ field32 k.storedPre ++ field32 k.storedPost ++ field32 k.missed ++ field32 k.skipped ++ field32 k.post

/-- The store section. The values of slots 0..N - 1 stand without a count before them (log entry 75); of the fetch in
progress its presence alone is sent (log entry 66). -/
def statusCst (c : Cst) : List Byte :=
  let ready := readyList c.slots
  c.slots.flatMap slotBytes ++ field8 ready.length ++ ready.flatMap field8 ++ field8 c.params.mode.code ++
  field8 c.state.code ++ field16 c.captureId ++ counterBytes c.counters ++ fieldBool c.fetch.isSome ++
  fieldBool c.s1.debounced ++ fieldBool c.s2.debounced

def conditionBytes (x : Condition) : List Byte :=
  fieldBool x.latch ++ field8 x.count ++ field8 x.mode.code ++ fieldBool x.notice

/-- The conditions, and after them the latched and the current level of each state condition (log entry 70). -/
def statusCnd (c : Cnd) : List Byte :=
  ((List.range 25).flatMap fun k => conditionBytes (c.condition k)) ++
  (stateConditions.flatMap fun k => fieldBool (c.condition k).latchedLevel ++ fieldBool (c.condition k).current)

def statusLnk (l : Lnk) : List Byte :=
  fieldBool l.errorMark ++ field16 l.errorCount ++ field8 l.buffer.length ++
  l.tables.flatMap fun t => fieldBool t.valid ++ fieldBool t.commitPending

/-- A section: its number, its length, its values. -/
def statusSection (number : Nat) (bytes : List Byte) : List Byte := field8 number ++ field16 bytes.length ++ bytes

/-- The STATUS packet (R186, R190). -/
def statusPacket (tag : Tag) (s : State) : Packet :=
  ⟨kindStatus, tag,
    statusSection 1 (statusIntake s.intake) ++ statusSection 2 (statusStats s.stats) ++
    statusSection 3 (statusAec s.aec) ++ statusSection 4 (statusLds s.lds) ++ statusSection 5 (statusAfc s.afc) ++
    statusSection 6 (statusZmc s.zmc) ++ statusSection 7 (statusMou s.mou) ++ statusSection 8 (statusCst s.cst) ++
    statusSection 9 (statusCnd s.cnd) ++ statusSection 10 (statusLnk s.lnk)⟩

end Sys2Proof.Machine
end

