-- ==== Sys2Proof/Machine/Tables.lean ====
section
/-! DEFINITION. The fourteen tables (R179 to R183, R191): loads, the check of a commit, applying commits, reads. -/

namespace Sys2Proof.Machine

/-! ### The check of a commit (R181, R191) -/

/-- The index that a bad count or a bad device address is reported as (R181). -/
def badCount : Nat := 65535

/-- The first index below n at which ok fails. -/
def firstBad (n : Nat) (ok : Nat → Bool) : Option Nat := (List.range n).find? fun i => !ok i

/-- SHADING_k: a gain (R181). -/
def gainOk (m : Memory) (i : Nat) : Bool := decide (1024 ≤ tbl16 m (2 * i) ∧ tbl16 m (2 * i) ≤ 4095)

/-- WEIGHT_k: a weight (R181). -/
def weightOk (m : Memory) (i : Nat) : Bool := decide (tbl8 m i ≤ 15)

/-- A segment's control and limit kind are known, and the limit kind allowed on its control (R37, R181). -/
def segmentAllowed (g : Segment) : Bool :=
  match g.control, g.limit with
  | 0, 0 => true
  | 1, 0 => true
  | 2, 0 => true
  | 1, 1 => true
  | 0, 2 => true
  | 2, 3 => true
  | _, _ => false

/-- TIME: a line count, 1 or more and not below the one before it (R181). -/
def lineCountOk (m : Memory) (i : Nat) : Bool :=
  decide (1 ≤ tbl16 m (2 + 2 * i)) && (i == 0 || decide (tbl16 m (2 + 2 * (i - 1)) ≤ tbl16 m (2 + 2 * i)))

/-- SENSOR_WRITE: an item's source is known (R181). -/
def itemOk (m : Memory) (j : Nat) : Bool := decide (tbl8 m (2 + 4 * j + 2) ≤ 4)

/-- ZOOM: a row's fields lie within the ranges of R115, inf not above near. -/
def rowOk (m : Memory) (k : Nat) : Bool :=
  let r := zoomRowOf m k
  decide (r.aW ≤ 47 ∧ r.inf ≤ 4095 ∧ r.near ≤ 4095 ∧ r.inf ≤ r.near)

/-- A count within 1..top, then the entries. -/
def countThen (count top : Nat) (entries : Option Nat) : Option Nat :=
  if 1 ≤ count ∧ count ≤ top then entries else some badCount

/-- The first bad entry of a pending copy, none when it passes (R181). -/
def commitCheck (id : Nat) (m : Memory) : Option Nat :=
  if id ≤ 3 then firstBad 3072 (gainOk m)
  else if id ≤ 7 then firstBad 192 (weightOk m)
  else if id ≤ 9 then countThen (tbl8 m 0) 8 (firstBad (tbl8 m 0) fun i => segmentAllowed (segmentOf m i))
  else if id = timeId then countThen (tbl16 m 0) 256 (firstBad (tbl16 m 0) (lineCountOk m))
  else if id = againId then countThen (tbl16 m 0) 97 none
  else if id = sensorWriteId then
    if 127 < tbl8 m 0 then some badCount else countThen (tbl8 m 1) 8 (firstBad (tbl8 m 1) (itemOk m))
  else firstBad 33 (rowOk m)

/-! ### Applying commits (R182) -/

/-- Changes table id. -/
def lnkModifyTable (l : Lnk) (id : Nat) (f : Table → Table) : Lnk := { l with tables := modifyAt f l.tables id }

def State.modifyTable (s : State) (id : Nat) (f : Table → Table) : State := s.setLnk (lnkModifyTable s.lnk id f)

/-- A pending commit becomes working (R182). -/
def Table.applied (t : Table) : Table := { t with working := t.pending, valid := true, commitPending := false }

/-- The commit of table id is applied when it is pending (R182). -/
def applyCommit (s : State) (id : Nat) : State :=
  if (s.table id).commitPending then (s.modifyTable id Table.applied).raise condTableApplied else s

/-- AEC brings its held settings within the working TIME and AGAIN maxima (R35). -/
def aecClamp (s : State) : State := s.setAec (aecClampTables s.aec s.tIMax s.gAMax)

/-- Every pending commit is applied, in table order; AEC's settings follow new TIME and AGAIN tables (R182, R35). -/
def applyCommits (s : State) : State :=
  let exposure := (s.table timeId).commitPending || (s.table againId).commitPending
  let s := (List.range 14).foldl applyCommit s
  if exposure then aecClamp s else s

/-- Commits that are pending while INTAKE is STOPPED are applied at once (R182). -/
def applyIfStopped (s : State) : State := if s.intake.mode = .stopped then applyCommits s else s

/-! ### The table commands (R180 to R183) -/

/-- TABLE_LOAD (R180). -/
def loadTable (a : TableLoadArgs) (s : State) : State × Answer :=
  if 14 ≤ a.table then (s, answer .refusedArg)
  else if tableSize a.table < a.offset + a.data.length then (s, answer .refusedArg)
  else if (s.table a.table).commitPending then (s, answer .refusedBusy)
  else (s.modifyTable a.table fun t => { t with pending := memWriteBytes t.pending a.offset a.data }, answer .done)

/-- TABLE_COMMIT (R181, R182). -/
def commitTable (id : Nat) (s : State) : State × Answer :=
  if 14 ≤ id then (s, answer .refusedArg)
  else if (s.table id).commitPending then (s, answer .refusedBusy)
  else
    match commitCheck id (s.table id).pending with
    | some i => (s, ⟨.refusedTable, field16 i, []⟩)
    | none => (applyIfStopped (s.modifyTable id fun t => { t with commitPending := true }), answer .accepted)

/-- TABLE_READ (R183). -/
def readTable (a : TableReadArgs) (s : State) : State × Answer :=
  if 14 ≤ a.table ∨ a.length < 1 ∨ 256 < a.length ∨ tableSize a.table < a.offset + a.length then
    (s, answer .refusedArg)
  else if !s.tableValid a.table then (s, answer .refusedTable)
  else (s, ⟨.done, memReadBytes (s.working a.table) a.offset a.length, []⟩)

end Sys2Proof.Machine
end

