-- ==== Sys2Proof/Machine/Frame.lean ====
section
/-! DEFINITION. Frames (R4 to R11): the work of the blocks at an SOF, at an untruncated EOF and at a truncated
one, a line of the frame in progress, and the frame timeout. -/

namespace Sys2Proof.Machine

/-! ### SOF (R6, R11) -/

/-- INTAKE opens a frame (R6). -/
def intakeSof (i : Intake) : Intake :=
  { i with
    mode := .inFrame, fn := fnNext i.fn, lineCounter := 0, timer := some i.timeout, lastSof := some (fnNext i.fn) }

/-- CND's work at an SOF (R166). -/
def timedSof (s : State) : State := s.setCnd (cndSof s.cnd)

/-- The blocks' work at an SOF (R11), in the order of log entry 9: committed tables, which R182 makes the first part of
the SOF, timed latches, AEC, MOU, PXP, STATS, CST, AFC. -/
def sofWork (s : State) : State :=
  let s := timedSof (applyCommits s)
  let m := mouSof (aecSof s s.afc.subjectMask)
  let s := cstSof (statsSof (pxpSof m.1)) m.2
  (afcSof s m.2.blurred s.aec.frame.settled).grant

/-- A frame starts (R6). -/
def frameOpens (s : State) : State := sofWork (s.setIntake (intakeSof s.intake))

/-! ### EOF (R8, R9, R11) -/

/-- AFC's sample candidate of the frame in progress awaits its EOF, so that figures make an entry (R89). -/
def awaitsFigures (a : Afc) : Bool :=
  a.state.scanning && (match a.scan with | some sc => (match sc.wait with | .eof _ => true | _ => false) | none => false)

/-- The figures of a frame and a disturbance reach AFC (R99): in either order where the order matters, the
free value of log entry 6 deciding. -/
def focusEof (s : State) (records : List WindowRecord) (disturbed : Bool) : State :=
  let figures := fun s : State => (afcFigures s s.intake.fn records).grant
  if disturbed then
    if awaitsFigures s.afc then
      let first := Config.figuresFirst s.choices
      let s := s.setChoices (s.choices + 1)
      if first then (afcDisturbance (figures s)).grant else figures (afcDisturbance s).grant
    else figures (afcDisturbance s).grant
  else figures s

/-- The blocks' work at an untruncated EOF (R11), in the order of log entry 10: MOU, STATS, AEC, AFC, CST. -/
def eofWork (s : State) (m : Measurement) : State :=
  let s := (s.setMou (mouEof s.mou)).setStats (statsEof s.stats s.intake.fn)
  let r := aecEof s (some ⟨zoneMeans m, highlightMask m⟩)
  cstEof (focusEof r.1 (windowRecords m) r.2.1) r.2.2

/-- The blocks' work at a truncated EOF (R9, R27, R40, R102, R127, R149). -/
def truncatedWork (s : State) : State :=
  let s := (s.setMou (mouEof s.mou)).setStats (statsTruncated s.stats)
  let s := (aecEof s none).1
  freeFilling (s.setAfc (afcTruncated s.afc))

/-- A cause of truncation latches FRAME_TRUNCATED (R9). -/
def TruncationCause.latches : TruncationCause → Bool
  | .newStart => true
  | .shortFrame => true
  | .timeout => true
  | .stopped => false

/-- The frame in progress ends truncated, and INTAKE enters WAITING (R9). -/
def truncateFrame (s : State) (cause : TruncationCause) : State :=
  let s := truncatedWork (s.setIntake { s.intake with mode := .waiting })
  if cause.latches then s.raise condFrameTruncated else s

/-- The frame in progress completes, and INTAKE enters WAITING (R8). -/
def completeFrame (s : State) : State :=
  let t := s.setIntake { s.intake with mode := .waiting }
  match s.stats.measure with
  | some m => eofWork t m
  | none => truncatedWork t

/-! ### Sensor packets and the timeout (R6 to R8, R10) -/

/-- A FRAME_START packet (R6). -/
def frameStartPacket (s : State) : State :=
  match s.intake.mode with
  | .stopped => s
  | .waiting => frameOpens s
  | .inFrame => frameOpens (truncateFrame s .newStart)

/-- A FRAME_END packet (R8). -/
def frameEndPacket (s : State) : State :=
  match s.intake.mode with
  | .inFrame => if s.intake.lineCounter < s.intake.geometry.h then truncateFrame s .shortFrame else completeFrame s
  | _ => s

/-- The frame timeout restarts with the value in force (R10). -/
def restartTimeout (i : Intake) : Intake := { i with timer := some i.timeout }

/-- The frame timeout expires (R10); one that does not run does not expire. -/
def timeoutExpires (s : State) : State :=
  if s.intake.timer.isSome then
    let s := s.raise condSensorStall
    let s := if s.intake.mode = .inFrame then truncateFrame s .timeout else s
    s.setIntake (restartTimeout s.intake)
  else s

/-- The corrected line is written to the FILLING slot when it is one of its lines (R15). -/
def writeLine (s : State) (y : Nat) (line : List Nat) : State :=
  match storeAddress s y with
  | some a => s.setCst { s.cst with dram := memWriteBytes s.cst.dram a (storedLine s line) }
  | none => s

/-- The stored line y would lie beyond the frame memory (R140, log entry 15). -/
def lineOutside (s : State) (y : Nat) : Bool :=
  match storeAddress s y with
  | some a => decide (Config.frameMemoryBytes < a + lineBytes s.intake.geometry.outW)
  | none => false

/-- Line y, fitted to the sensor width, goes through PXP to STATS and CST (R7, R12 to R15, R17). -/
def passLine (s : State) (y : Nat) (fitted : List Nat) : State :=
  let line := correctFrom s.pxp s.intake.geometry y 0 fitted
  let s := s.setStats { s.stats with measure := s.stats.measure.map fun m => measureLine m y line }
  writeLine s y line

/-- A line below the programmed height is taken (R7). -/
def takeLine (s : State) (pixels : List Nat) : State :=
  let w := s.intake.geometry.w
  let y := s.intake.lineCounter
  let s := passLine (s.setIntake { s.intake with lineCounter := y + 1 }) y (fitLine w pixels)
  if pixels.length = w then s else s.raise condLineError

end Sys2Proof.Machine
end

