-- ==== Sys2Proof/Machine/Scheduler.lean ====
section
/-! DEFINITION. The downstream scheduler (R178) and the fetch (R156 to R158): what the end of a packet brings
about, which packet goes next, taking a fetch and aborting it. -/

namespace Sys2Proof.Machine

/-! ### The end of a packet (R155, R157, R158) -/

/-- The slot holds the frame with the given storing order. -/
def holdsFrame (x : Slot) (order : Nat) : Bool := decide (x.state ≠ .free ∧ x.order = order)

/-- The fetch ends. -/
def endFetch (s : State) : State := s.setCst { s.cst with fetch := none }

/-- A RECORD packet has been sent (R157): record_sent is set if the slot still holds the frame, and a fetch of the
record alone ends. A fetch whose own RECORD packet is still to begin goes on: the packet was that of an aborted
fetch before it (R158). -/
def recordSent (s : State) (i order : Nat) : State :=
  let s := match s.cst.slots[i]? with
    | some x => if holdsFrame x order then autoRelease (setSlot s i fun y => { y with recordSent := true }) i else s
    | none => s
  match s.cst.fetch with
  | some f => if f.image || f.record.isSome then s else endFetch s
  | none => s

/-- A SENDING slot returns to its remembered state (R157, R158), with the test of R155. -/
def slotReturns (s : State) (i : Nat) : State :=
  match s.cst.slots[i]? with
  | some x => if x.state = .sending then autoRelease (setSlot s i fun y => { y with state := y.before }) i else s
  | none => s

/-- image_sent of a slot whose image is being sent. -/
def markImageSent (x : Slot) : Slot := if x.state = .sending then { x with imageSent := true } else x

/-- The last line of an image has been sent (R157). -/
def imageSent (s : State) : State :=
  match s.cst.fetch with
  | some f => slotReturns (endFetch (setSlot s f.slot markImageSent)) f.slot
  | none => s

/-- The ABORT packet of a fetch has been sent (R158); under RESET FULL its slot is then freed (R162). -/
def abortSent (s : State) : State :=
  match s.cst.fetch with
  | some f => if f.freeAtEnd then freeSlotAt (endFetch s) f.slot else endFetch s
  | none => s

/-- The end of the packet being sent (R178). -/
def packetEnds (s : State) : State :=
  match s.lnk.sending with
  | none => s
  | some p =>
    let s := s.setLnk { s.lnk with sending := none }
    match p.atEnd with
    | .nothing => s
    | .record i order => recordSent s i order
    | .line final => if final then imageSent s else s
    | .abort => abortSent s

/-! ### The next packet (R178) -/

/-- The buffer without its oldest answered command (R175). -/
def dropAnswered : List BufferPlace → List BufferPlace
  | [] => []
  | .answered _ :: rest => rest
  | p :: rest => p :: dropAnswered rest

/-- A packet begins to be sent, whole with its check (R174, R187). -/
def beginPacket (s : State) (p : Packet) (atEnd : SendEnd) : State :=
  s.setLnk { s.lnk with sending := some ⟨linkBytes p, atEnd⟩ }

/-- A REPLY begins (R174, R175, R178): its command leaves the buffer, the link-error mark goes with it. -/
def beginReply (s : State) (r : Reply) (rest : List Reply) : State :=
  let p := replyPacket r s.lnk.errorMark
  beginPacket
    (s.setLnk { s.lnk with
      replies := rest, following := r.follow, buffer := dropAnswered s.lnk.buffer, errorMark := false })
    p .nothing

/-- A packet that follows the REPLY last begun begins (R178). -/
def beginFollowing (s : State) (p : Packet) (rest : List Packet) : State :=
  beginPacket (s.setLnk { s.lnk with following := rest }) p .nothing

/-- The waiting NOTICE begins (R169, R170). -/
def beginNotice (s : State) : State :=
  beginPacket (s.setCnd { s.cnd with waiting := false }) (noticePacket s.cnd s.intake.lastSof) .nothing

/-- The waiting STATS packet begins (R30). -/
def beginStats (s : State) (p : StatsPacket) : State :=
  beginPacket (s.setStats { s.stats with waiting := none }) (statsBytes p) .nothing

/-- What the fetch in progress offers next (R157, R158). -/
inductive FetchOffer where
  | none
  | abort
  | record (p : RecordPacket)
  | line (k outW : Nat) (final : Bool)
  deriving DecidableEq, Repr

/-- The packet that a fetch offers (R157, R158), with the frame record of its slot. -/
def fetchOffer (f : Fetch) (r : Option FrameRecord) : FetchOffer :=
  if f.aborted then .abort
  else
    match f.record, r with
    | some p, _ => .record p
    | .none, some r =>
      if f.image && decide (f.nextLine < r.outH) then .line f.nextLine r.outW (decide (f.nextLine + 1 = r.outH))
      else .none
    | .none, .none => .none

/-- What the fetch in progress offers, if there is one. -/
def State.offer (s : State) : FetchOffer :=
  match s.cst.fetch with
  | some f => fetchOffer f (s.cst.slots.getD f.slot freeSlot).record
  | none => .none

/-- The stored line k of the fetch's slot (R140, R157). -/
def storedLineBytes (s : State) (i outW k : Nat) : List Byte :=
  memReadBytes s.cst.dram (lineAddress s.cst.slots.length i outW k) (lineBytes outW)

/-- A packet of the fetch begins (R157, R158). -/
def beginFetchPacket (s : State) (f : Fetch) : FetchOffer → State
  | .none => s
  | .abort => beginPacket s ⟨kindImageAbort, f.tag, []⟩ .abort
  | .record p =>
    beginPacket (s.setCst { s.cst with fetch := some { f with record := none } }) (recordPacket f.tag p)
      (.record f.slot f.order)
  | .line k outW final =>
    beginPacket (s.setCst { s.cst with fetch := some { f with nextLine := k + 1 } })
      ⟨if final then kindImageFinal else kindImage, f.tag, storedLineBytes s f.slot outW k⟩ (.line final)

/-- The classes of R178, first class first. -/
inductive SendClass where
  | following (p : Packet) (rest : List Packet)
  | reply (r : Reply) (rest : List Reply)
  | notice
  | fetch (f : Fetch)
  | stats (p : StatsPacket)
  | nothing
  deriving DecidableEq, Repr

/-- The waiting NOTICE is ready: one that a RESET PIPELINE has kept goes after the REPLY of that RESET (R172). -/
def noticeReady (s : State) : Bool :=
  s.cnd.waiting && !(match s.lnk.resetWait with | some w => w.noticeKept | none => false)

/-- The class of the scheduler that has a packet ready (R178). -/
def nextClass (s : State) : SendClass :=
  match s.lnk.following, s.lnk.replies with
  | p :: rest, _ => .following p rest
  | [], r :: rest => .reply r rest
  | [], [] =>
    if noticeReady s then .notice
    else
      match s.cst.fetch, s.offer with
      | some f, .abort => .fetch f
      | some f, .record _ => .fetch f
      | some f, .line _ _ _ => .fetch f
      | _, _ =>
        match s.stats.waiting with
        | some p => .stats p
        | none => .nothing

/-- The next packet begins, if any is ready (R178). -/
def sendNext (s : State) : State :=
  match nextClass s with
  | .following p rest => beginFollowing s p rest
  | .reply r rest => beginReply s r rest
  | .notice => beginNotice s
  | .fetch f => beginFetchPacket s f s.offer
  | .stats p => beginStats s p
  | .nothing => s

/-- The line that would begin next lies beyond the frame memory (R140, log entry 15). -/
def fetchOutside (s : State) : Bool :=
  match nextClass s, s.offer with
  | .fetch f, .line k outW _ =>
    decide (Config.frameMemoryBytes < lineAddress s.cst.slots.length f.slot outW k + lineBytes outW)
  | _, _ => false

/-! ### Taking and aborting a fetch (R156, R158) -/

/-- The slot a selector chooses: none when it is refused with REFUSED_STATE (R156). -/
def fetchSlot (c : Cst) (n : Nat) : Selector → Option Nat
  | .oldest => (readyList c.slots).head?
  | .newest => (readyList c.slots).getLast?
  | .slot => if (c.slots.getD n freeSlot).inReadyList then some n else none

/-- OLDEST finds a HELD head (R156): the record alone is sent, marked HELD. -/
def heldHead (sel : Selector) (x : Slot) : Bool := decide (sel = .oldest ∧ x.state = .held)

/-- The fetch of slot i with its record (R156, R157). -/
def fetchOf (tag : Tag) (i : Nat) (x : Slot) (r : FrameRecord) (sel : Selector) (parts : Parts) : Fetch :=
  let held := heldHead sel x
  { tag := tag, slot := i, order := x.order,
    record := if parts.record || held then some ⟨i, x.state, held, r⟩ else none,
    image := parts.image && !held, nextLine := 0, aborted := false, freeAtEnd := false }

/-- A taken fetch (R157): a slot whose image is asked becomes SENDING. -/
def takeFetch (s : State) (i : Nat) (f : Fetch) : State :=
  let s := s.setCst { s.cst with fetch := some f }
  if f.image then setSlot s i fun y => { y with state := .sending, before := y.state } else s

/-- FETCH (R156). A slot in the ready list always holds a record. -/
def fetchCommand (tag : Tag) (a : FetchArgs) (s : State) : State × Answer :=
  match selector? a.selector, parts? a.parts with
  | some sel, some parts =>
    if sel = .slot ∧ s.cst.slots.length ≤ a.slot then (s, answer .refusedArg)
    else if s.cst.fetch.isSome then (s, answer .refusedBusy)
    else
      match fetchSlot s.cst a.slot sel with
      | none => (s, answer .refusedState)
      | some i =>
        let x := s.cst.slots.getD i freeSlot
        match x.record with
        | none => (s, answer .refusedState)
        | some r => (takeFetch s i (fetchOf tag i x r sel parts), answer .accepted)
  | _, _ => (s, answer .refusedArg)

/-- The final line packet is being sent (R158). -/
def sendingFinal (l : Lnk) : Bool :=
  match l.sending with
  | some p => decide (p.atEnd = .line true)
  | none => false

/-- A fetch in progress is aborted (R158). -/
def abortFetch (s : State) : State :=
  match s.cst.fetch with
  | none => s
  | some f =>
    if sendingFinal s.lnk then s
    else if f.image then
      slotReturns (s.setCst { s.cst with fetch := some { f with aborted := true, record := none } }) f.slot
    else endFetch s

end Sys2Proof.Machine
end

