-- ==== Sys2Proof/Machine/Resets.lean ====
section
/-! DEFINITION. The three kinds of reset (R16, R31, R57, R80, R81, R105, R119, R139, R162, R172, R184, R185), block by
block, and the completion of a RESET. A scope is true for FULL. -/

namespace Sys2Proof.Machine

/-! ### INTAKE, PXP, STATS (R16, R31) -/

/-- INTAKE after RESET FULL; the FN of the latest SOF is kept until power-on reset (R170). -/
def intakeFull (i : Intake) : Intake := { resetIntake with lastSof := i.lastSof }

/-- The intake state after RESET PIPELINE (R16). -/
def pipelineMode : IntakeMode → IntakeMode
  | .stopped => .stopped
  | _ => .waiting

/-- INTAKE after RESET PIPELINE. -/
def intakePipeline (i : Intake) : Intake :=
  { i with
    mode := pipelineMode i.mode
    lineCounter := 0
    timer := if i.mode = .stopped then none else some i.timeout }

/-- PXP after a reset that leaves geometry g (R16). -/
def pxpReset (g : Geometry) : Pxp := { resetPxp with cropX := marginX g / 2, cropY := marginY g / 2 }

/-- STATS after RESET PIPELINE (R31). -/
def statsPipeline (st : Stats) : Stats := { st with divider := 0, waiting := none, measure := none }

/-! ### AEC, LDS (R57, R80, R81) -/

/-- The item on the sensor control port at a reset is completed on the bus, owned by no sequence (R57). -/
def busAfterReset (b : Option BusItem) : Option BusItem := b.map fun x => { x with owned := false }

/-- AEC after a reset that leaves parameters p (R57). -/
def aecReset (p : AeParams) (a : Aec) : Aec := { resetAec with params := p, bus := busAfterReset a.bus }

/-- A move of a motor is running or suspended. -/
def moveInHand (l : Lds) (m : Motor) : Bool :=
  (match l.running with | some x => decide (x.motor = m) | none => false) || l.stack.any fun x => decide (x.motor = m)

/-- A motor after RESET FULL (R80). -/
def motorFull (l : Lds) (m : Motor) : MotorState :=
  let x := l.motor m
  { x with valid := x.valid && !moveInHand l m && !(decide (m = .focus) && decide (l.params.homePos ≠ 256)) }

/-- LDS after RESET FULL (R80). -/
def ldsFull (l : Lds) : Lds :=
  { resetLds l.latched with zoom := motorFull l .zoom, focus := motorFull l .focus, iris := motorFull l .iris }

/-- LDS after RESET PIPELINE (R81): the running move is marked for stop and delivers no outcome. -/
def ldsPipeline (l : Lds) : Lds :=
  { l with
    slots := noSlots, stack := [], park := none
    running := l.running.map fun m => { m with stop := true, mute := true }
    reference := l.reference.map fun r => { r with stop := true } }

/-! ### AFC, ZMC, MOU (R105, R119, R139) -/

/-- AFC after RESET PIPELINE (R105), the history kept with its window set (R190). -/
def afcPipeline (a : Afc) : Afc :=
  { resetAfc with
    mode := a.mode, selection := a.selection, selected := a.selected, windows := a.windows
    coarseStep := a.coarseStep, fineStep := a.fineStep, minFigure := a.minFigure
    monitorFrames := a.monitorFrames, monitorRatio := a.monitorRatio, settleTimeout := a.settleTimeout
    failure := a.failure, history := a.history, historyMade := !a.history.isEmpty, windowSet := a.windowSet }

/-- ZMC after RESET PIPELINE (R119). -/
def zmcPipeline (z : Zmc) : Zmc := { resetZmc with tracking := z.tracking }

/-- MOU after RESET FULL (R139). -/
def mouFull (m : Mou) : Mou := { resetMou m.strobe with readback := m.readback }

/-- MOU after RESET PIPELINE (R139). -/
def mouPipeline (m : Mou) : Mou :=
  { mouFull m with
    mode := m.mode, fault := m.fault, params := m.params
    yaw := { resetAxis with bias := m.yaw.bias }
    pitch := { resetAxis with bias := m.pitch.bias } }

/-! ### CST (R162) -/

/-- Slot i still holds the frame of an aborted fetch whose ABORT packet is to be sent (R158, R162). -/
def keptForAbort (c : Cst) (i : Nat) : Bool :=
  let x := c.slots.getD i freeSlot
  match c.fetch with
  | some f => f.aborted && decide (f.slot = i) && x.inReadyList && decide (x.order = f.order)
  | none => false

/-- The slots after RESET FULL: all FREE but for the slot of a fetch whose ABORT packet is still to be sent, which keeps its
record and its sent flags until it is freed (log entries 28, 77). The slot of
a fetch whose final line is being sent is FREE at once (log entry 64). -/
def slotsFull (c : Cst) : List Slot :=
  (List.range 12).map fun i => if keptForAbort c i then c.slots.getD i freeSlot else freeSlot

/-- CST after RESET FULL, the fetch having been aborted (R162). -/
def cstFull (c : Cst) : Cst :=
  { resetCst c.s1.raw c.s2.raw with
    slots := slotsFull c, dram := c.dram, fetch := c.fetch.map fun f => { f with freeAtEnd := f.aborted } }

/-- A FILLING slot freed (R162). -/
def unfilled (x : Slot) : Slot := if x.state = .filling then { freeSlot with order := x.order } else x

/-- CST after RESET PIPELINE, the fetch having been aborted (R162); the awaited trigger number and the forced mark end
with the capture (log entry 63). -/
def cstPipeline (c : Cst) : Cst :=
  { c with
    slots := c.slots.map unfilled, state := .idle, counters := noCounters, gateCount := 0, trigger := 0
    forced := false, skips := 0, noticeArmed := false, withheldRelease := false }

/-! ### LNK (R185) -/

/-- A RECORD packet being sent at RESET FULL marks no slot: the frame it is of is freed. -/
def sendingFull (p : Sending) : Sending :=
  match p.atEnd with
  | .record _ _ => { p with atEnd := .nothing }
  | _ => p

/-- LNK after RESET FULL (R185). -/
def lnkFull (l : Lnk) : Lnk :=
  { l with
    errorMark := false, errorCount := 0, sending := l.sending.map sendingFull
    tables := l.tables.map fun t => { t with commitPending := false } }

/-! ### A reset of the whole part (R184) -/

/-- CND after a reset that has left the other blocks as in s (R172); before are the conditions before it. -/
def resetConditions (full : Bool) (before : Cnd) (s : State) : State :=
  s.setCnd (cndReset full s.mou.fault (storeFull s.cst.slots) before)

/-- RESET FULL on every block (R184). -/
def resetFull (s : State) : State :=
  let before := s.cnd
  let s := abortFetch s
  let s : State :=
    { s with
      intake := intakeFull s.intake, pxp := resetPxp, stats := resetStats, aec := aecReset resetAeParams s.aec
      lds := ldsFull s.lds, afc := resetAfc, zmc := resetZmc, mou := mouFull s.mou, cst := cstFull s.cst
      lnk := lnkFull s.lnk }
  resetConditions true before s

/-- RESET PIPELINE on every block (R184). A commit still pending with INTAKE STOPPED is applied (R185). -/
def resetPipeline (s : State) : State :=
  let before := s.cnd
  let s := abortFetch s
  let s : State :=
    { s with
      intake := intakePipeline s.intake, pxp := pxpReset s.intake.geometry, stats := statsPipeline s.stats
      aec := aecReset s.aec.params s.aec, lds := ldsPipeline s.lds, afc := afcPipeline s.afc, zmc := zmcPipeline s.zmc
      mou := mouPipeline s.mou, cst := cstPipeline s.cst }
  applyIfStopped (resetConditions false before s)

def resetScope (full : Bool) (s : State) : State := if full then resetFull s else resetPipeline s

/-- The running move was stopped by a reset and has not reached its boundary. -/
def stoppingMove (l : Lds) : Bool := match l.running with | some m => m.mute | none => false

/-- What a RESET waits for has ended (R184): the bus item, the fetch, and the lens stop. -/
def resetReady (s : State) : Bool :=
  s.aec.bus.isNone && s.cst.fetch.isNone && !stoppingMove s.lds && s.lds.reference.isNone

/-- The command code of RESET (R188). -/
def codeReset : Byte := 40

/-- The REPLY of a RESET is built (R184). -/
def resetAnswered (s : State) (tag : Tag) : State :=
  s.setLnk { lnkAnswer s.lnk tag codeReset (answer .done) with resetWait := none }

/-- A RESET that has been handed takes effect; its REPLY is built now or when what it waits for has ended (R184), a
NOTICE that waits over it going after that REPLY (R172). -/
def resetTaken (full : Bool) (tag : Tag) (s : State) : State :=
  let kept := !full && s.cnd.waiting
  let s := resetScope full s
  if resetReady s then resetAnswered s tag else s.setLnk { s.lnk with resetWait := some ⟨tag, kept⟩ }

/-- RESET (R184); only REFUSED_ARG refuses it. -/
def resetCommand (i : Instr) (tag : Tag) (p : Payload Nat) (s : State) : State :=
  if commandTurn s.lnk i then
    let t := s.setLnk (lnkTake s.lnk tag)
    let refused := t.setLnk (lnkAnswer t.lnk tag codeReset (answer .refusedArg))
    match p with
    | .args n => match resetScope? n with | some full => resetTaken full tag t | none => refused
    | .wrongLength => refused
  else s

/-- What a RESET waited for has ended, and its REPLY is built (R184). -/
def resetCompletes (s : State) : State :=
  match s.lnk.resetWait with
  | some w => if resetReady s then resetAnswered s w.tag else s
  | none => s

/-- Power-on reset with the levels of the sampled lines; an item on the sensor control port is completed on the
bus (R57). The queue of commands and the count of free choices are not of the part. -/
def powerOn (s : State) (lines : LineLevels) : State :=
  { State.reset with
    aec := aecReset resetAeParams s.aec
    lds := resetLds lines.lens
    mou := resetMou lines.strobe
    cst := resetCst lines.s1 lines.s2
    choices := s.choices
    pending := s.pending }

end Sys2Proof.Machine
end

