-- ==== Sys2Proof/Machine/ConditionCommands.lean ====
section
/-! DEFINITION. Meanings: the Condition Unit's commands and its timed latches (chapter 9). -/

namespace Sys2Proof.Machine

/-! ### CONDITIONS_SETUP (R171) -/

/-- The structural arguments of a CONDITIONS_SETUP read, none when one is out of range (R171, R188). -/
def conditionsChoice? (a : ConditionsSetupArgs) : Option (Bool × LatchMode) :=
  match yesNo? a.enable, latchMode? a.mode with
  | some e, some m =>
    if !bitSetWithin a.set 25 then none
    else if m = .level ∧ ¬ (conditionSet a.set).all isStateCondition then none
    else some (e, m)
  | _, _ => none

/-- CONDITIONS_SETUP on every condition of a set (R171). -/
def cndSetup (c : Cnd) (set : List Nat) (e : Bool) (m : LatchMode) (n : Nat) : Cnd :=
  set.foldl (fun c k => cndModify c k (conditionSetup e m n)) c

/-- CONDITIONS_SETUP (R171). -/
def conditionsSetup (a : ConditionsSetupArgs) (s : State) : State × Answer :=
  match conditionsChoice? a with
  | none => (s, answer .refusedArg)
  | some (e, m) =>
    let n := clampArg 1 255 a.n
    (s.setCnd (cndSetup s.cnd (conditionSet a.set) e m n.value), answer (clampedStatus n.changed .done))

def execConditionsSetup (tag : Tag) (args : Payload ConditionsSetupArgs) (s : State) : Host.Outcome State Fault Refusal :=
  .next (hostCommand (.conditionsSetup tag args) tag 35 args conditionsSetup s)

/-! ### CONDITIONS_CLEAR (R168) -/

/-- Number, latch flag and count of a condition before the clear (R168, R189). -/
def clearReport (c : Cnd) (k : Nat) : List Byte :=
  field8 k ++ fieldBool (c.condition k).latch ++ field8 (c.condition k).count

/-- CONDITIONS_CLEAR (R168). -/
def conditionsClear (set : Nat) (s : State) : State × Answer :=
  if !bitSetWithin set 25 then (s, answer .refusedArg)
  else
    let ks := conditionSet set
    (s.setCnd (ks.foldl cndClear s.cnd), ⟨.done, ks.flatMap (clearReport s.cnd), []⟩)

def execConditionsClear (tag : Tag) (args : Payload Nat) (s : State) : Host.Outcome State Fault Refusal :=
  .next (hostCommand (.conditionsClear tag args) tag 36 args conditionsClear s)

/-! ### TIMED_LATCH_EXPIRY (R166) -/

/-- TIMED_LATCH_EXPIRY (R166), of a set TIMED latch whose frame counter is about to reach 0 (log entry 8); while INTAKE is
STOPPED no SOF arrives and the latch holds. -/
def execTimedLatchExpiry (condition : Nat) (s : State) : Host.Outcome State Fault Refusal :=
  .next (if s.intake.mode = .stopped then s else s.setCnd (cndExpire s.cnd condition))

end Sys2Proof.Machine
end

