-- ==== Sys2Proof/Machine/ExposureCommands.lean ====
section
/-! DEFINITION. Meanings: the Exposure Controller's commands and the sensor control port (chapter 3). -/

namespace Sys2Proof.Machine

/-! ### AE_MODE (R32) -/

/-- TIME, AGAIN and SENSOR_WRITE are valid. -/
def exposureTables (s : State) : Bool := s.tableValid timeId && s.tableValid againId && s.tableValid sensorWriteId

/-- The state a taken AE_MODE enters (R32): RUN is HELD while AFC scans. -/
def aeModeState (s : State) (mode : AeState) : AeState :=
  if mode = .run ∧ s.afc.state.scanning then .held else mode

/-- A taken AE_MODE that changes the state (R32). -/
def aeModeChanges (s : State) (st : AeState) : State :=
  let a := s.aec
  let left := decide (a.state = .fault)
  let a := { a with
    settledCount := 0, breakCount := 0
    manual := if st = .off then a.manual else none
    failures := if left then 0 else a.failures
    retryFlag := if left then false else a.retryFlag }
  let s := aecEnter (s.setAec a) st
  if s.lds.hasMove .iris then s.cancelMove .iris else s

/-- A taken AE_MODE (R32). -/
def aeModeTaken (s : State) (mode : AeState) : State :=
  let st := aeModeState s mode
  if st = s.aec.state then s else aeModeChanges s st

/-- The status with which AE_MODE is refused, none when it is taken (R32). -/
def aeModeRefusal (s : State) : AeState → Option Status
  | .run =>
    if !(exposureTables s && s.tableValid programLiveId) then some .refusedTable
    else if !s.lds.iris.valid then some .refusedUnreferenced
    else none
  | .locked => if exposureTables s then none else some .refusedTable
  | _ => none

/-- AE_MODE (R32). -/
def aeMode (n : Nat) (s : State) : State × Answer :=
  match aeModeArg? n with
  | none => (s, answer .refusedArg)
  | some mode =>
    match aeModeRefusal s mode with
    | some st => (s, answer st)
    | none => (aeModeTaken s mode, answer .done)

def execAeMode (tag : Tag) (args : Payload Nat) (s : State) : Host.Outcome State Fault Refusal :=
  .next (hostCommand (.aeMode tag args) tag 5 args aeMode s)

/-! ### AE_SETUP (R34) -/

/-- The parameters of an AE_SETUP, clamped (R34). -/
def aeParamsOf (a : AeSetupArgs) : AeParams :=
  { target := clampNat 0 191 a.target, compensation := clampInt (-48) 48 a.compensation,
    deadband := clampNat 0 8 a.deadband, damping := clampNat 1 16 a.damping, maxStep := clampNat 1 64 a.maxStep,
    settleCount := clampNat 1 8 a.settleCount, hlPull := clampNat 0 48 a.hlPull, blLift := clampNat 0 32 a.blLift,
    boost := clampNat 0 15 a.boost, breakLevel := clampNat 8 96 a.breakLevel, latency := clampNat 1 3 a.latency,
    weightTable := a.weightTable }

/-- The parameters of an AE_SETUP as its arguments give them. -/
def aeParamsRaw (a : AeSetupArgs) : AeParams :=
  ⟨a.target, a.compensation, a.deadband, a.damping, a.maxStep, a.settleCount, a.hlPull, a.blLift, a.boost,
    a.breakLevel, a.latency, a.weightTable⟩

/-- AE_SETUP (R34). -/
def aeSetup (a : AeSetupArgs) (s : State) : State × Answer :=
  if 3 < a.weightTable then (s, answer .refusedArg)
  else
    let p := aeParamsOf a
    (s.setAec { s.aec with params := p }, answer (clampedStatus (decide (p ≠ aeParamsRaw a)) .done))

def execAeSetup (tag : Tag) (args : Payload AeSetupArgs) (s : State) : Host.Outcome State Fault Refusal :=
  .next (hostCommand (.aeSetup tag args) tag 6 args aeSetup s)

/-! ### AE_MANUAL (R52) -/

/-- AE_MANUAL (R52): the split of stage 7 makes the waiting manual setting. -/
def aeManual (a : AeManualArgs) (s : State) : State × Answer :=
  if s.aec.state ≠ .off then (s, answer .refusedState)
  else if !exposureTables s then (s, answer .refusedTable)
  else
    let tI := clampArg 0 s.tIMax a.tI
    let iris := clampArg 0 47 a.iris
    let gI := clampArg 0 s.gainMax a.gI
    (s.setAec { s.aec with manual := some (splitGain tI.value iris.value gI.value s.gAMax) },
      answer (clampedStatus (tI.changed || iris.changed || gI.changed) .done))

def execAeManual (tag : Tag) (args : Payload AeManualArgs) (s : State) : Host.Outcome State Fault Refusal :=
  .next (hostCommand (.aeManual tag args) tag 7 args aeManual s)

/-! ### The sensor control port (R50, R51) -/

/-- WRITE_ITEM_ACKNOWLEDGED (R50). -/
def execWriteItemAcknowledged (s : State) : Host.Outcome State Fault Refusal := .next (itemAcknowledged s)

/-- WRITE_ITEM_NOT_ACKNOWLEDGED (R51). -/
def execWriteItemNotAcknowledged (s : State) : Host.Outcome State Fault Refusal := .next (itemNotAcknowledged s)

end Sys2Proof.Machine
end

