-- ==== Sys2Proof/Machine/FocusCommands.lean ====
section
/-! DEFINITION. Meanings: the Focus Controller's commands and its settle timeout (chapter 5). -/

namespace Sys2Proof.Machine

/-! ### AF_SETUP (R83) -/

/-- The structural arguments of an AF_SETUP (R83). -/
structure AfChoice where
  mode : AfMode
  selection : Selection
  selected : Nat
  enabled : List Bool
  deriving DecidableEq, Repr

/-- Window k of an AF_SETUP. -/
def windowArg (a : AfSetupArgs) (k : Nat) : WindowArgs := a.windows.getD k ⟨0, 0, 0, 1, 1⟩

/-- The enabled flags, none when one is neither yes nor no. -/
def enabledFlags (a : AfSetupArgs) : Option (List Bool) := (List.range 8).mapM fun k => yesNo? (windowArg a k).enabled

/-- The structural check of AF_SETUP (R83 step 2): none gives REFUSED_ARG. -/
def afChoice? (a : AfSetupArgs) : Option AfChoice :=
  match afMode? a.mode, selection? a.selection, enabledFlags a with
  | some m, some sel, some en =>
    if 7 < a.selected then none
    else if sel = .selected ∧ en.getD a.selected false = false then none
    else some ⟨m, sel, a.selected, en⟩
  | _, _, _ => none

/-- A window with its values clamped (R83). -/
def windowOf (en : Bool) (w : WindowArgs) : Window :=
  ⟨en, clampNat 0 15 w.fc, clampNat 0 11 w.fr, clampNat 1 16 w.nc, clampNat 1 12 w.nr⟩

/-- A clamp acted on a window. -/
def windowClamped (w : WindowArgs) : Bool :=
  (clampArg 0 15 w.fc).changed || (clampArg 0 11 w.fr).changed || (clampArg 1 16 w.nc).changed ||
  (clampArg 1 12 w.nr).changed

/-- The eight windows of an AF_SETUP. -/
def windowsOf (c : AfChoice) (a : AfSetupArgs) : List Window :=
  (List.range 8).map fun k => windowOf (c.enabled.getD k false) (windowArg a k)

/-- coarse_step clamped; fine_step is clamped against it (R83 step 3). -/
def coarseOf (a : AfSetupArgs) : Nat := clampNat 8 255 a.coarseStep

/-- AFC with the arguments of an AF_SETUP (R83). -/
def afWithArgs (f : Afc) (c : AfChoice) (a : AfSetupArgs) : Afc :=
  { f with
    mode := c.mode, selection := c.selection, selected := c.selected, windows := windowsOf c a
    coarseStep := coarseOf a, fineStep := clampNat 1 (coarseOf a / 2) a.fineStep
    minFigure := clampNat 0 4294967295 a.minFigure, monitorFrames := clampNat 1 30 a.monitorFrames
    monitorRatio := clampNat 1 15 a.monitorRatio, settleTimeout := clampNat 1 255 a.settleTimeout }

/-- A clamp acted on an AF_SETUP (R83). -/
def afClamped (a : AfSetupArgs) : Bool :=
  ((List.range 8).any fun k => windowClamped (windowArg a k)) || (clampArg 8 255 a.coarseStep).changed ||
  (clampArg 1 (coarseOf a / 2) a.fineStep).changed || (clampArg 0 4294967295 a.minFigure).changed ||
  (clampArg 1 30 a.monitorFrames).changed || (clampArg 1 15 a.monitorRatio).changed ||
  (clampArg 1 255 a.settleTimeout).changed

/-- The command changes the mode, the selection, the selected window or a window (R83). -/
def afChanges (f g : Afc) : Bool :=
  decide (f.mode ≠ g.mode ∨ f.selection ≠ g.selection ∨ f.selected ≠ g.selected ∨ f.windows ≠ g.windows)

/-- A taken AF_SETUP (R83). -/
def afSetupTaken (s : State) (c : AfChoice) (a : AfSetupArgs) : State :=
  let g := afWithArgs s.afc c a
  if afChanges s.afc g then
    let t := s.setAfc { g.unlocked with rescanAfterZoom := false }
    if s.afc.state.lockedOn ∨ s.afc.state = .failed then afcEnter t .idle else t
  else s.setAfc g

/-- AF_SETUP (R83). -/
def afSetup (a : AfSetupArgs) (s : State) : State × Answer :=
  if s.afc.state.inScan then (s, answer .refusedBusy)
  else
    match afChoice? a with
    | none => (s, answer .refusedArg)
    | some c => (afSetupTaken s c a, answer (clampedStatus (afClamped a) .done))

def execAfSetup (tag : Tag) (args : Payload AfSetupArgs) (s : State) : Host.Outcome State Fault Refusal :=
  .next (hostCommand (.afSetup tag args) tag 13 args afSetup s)

/-! ### AF_START, AF_CANCEL, AF_HISTORY (R85, R86, R104) -/

/-- AF_START (R85). -/
def afStart (s : State) : State × Answer :=
  match afcStartChecks s with
  | some st => (s, answer st)
  | none => ((afcScanStart s).grant, answer .accepted)

def execAfStart (tag : Tag) (args : Payload Unit) (s : State) : Host.Outcome State Fault Refusal :=
  .next (hostCommand (.afStart tag args) tag 14 args (fun _ => afStart) s)

def execAfCancel (tag : Tag) (args : Payload Unit) (s : State) : Host.Outcome State Fault Refusal :=
  .next (hostCommand (.afCancel tag args) tag 15 args (fun _ t => (afcCancel t, answer .done)) s)

/-- AF_HISTORY (R104): the copy is taken as the command is handed. -/
def afHistory (tag : Tag) (s : State) : State × Answer := (s, ⟨.done, [], historyPackets tag s.afc⟩)

def execAfHistory (tag : Tag) (args : Payload Unit) (s : State) : Host.Outcome State Fault Refusal :=
  .next (hostCommand (.afHistory tag args) tag 16 args (fun _ => afHistory tag) s)

/-! ### SETTLE_TIMEOUT (R100) -/

/-- The settle counter reaches settle_timeout at the next SOF that finds SETTLED false (R100, log entry 8); with INTAKE
STOPPED no SOF comes (R6). -/
def settleTimeoutDue (s : State) : Bool :=
  decide (s.intake.mode ≠ .stopped) && decide (s.afc.state = .settle) && !s.aec.settled &&
  decide (s.afc.settleTimeout ≤ s.afc.settleCount + 1)

/-- SETTLE_TIMEOUT (R100). -/
def execSettleTimeout (s : State) : Host.Outcome State Fault Refusal :=
  .next (if settleTimeoutDue s then (afcSettleSof s false).grant else s)

end Sys2Proof.Machine
end

