-- ==== Sys2Proof/Machine/IntakeCommands.lean ====
section
/-! DEFINITION. Meanings: the sensor link, INTAKE, PXP and STATS (chapters 1 and 2), and the upstream link. -/

namespace Sys2Proof.Machine

/-- POWER_ON_RESET (R16 and the reset rule of every chapter). -/
def execPowerOnReset (lines : LineLevels) (s : State) : Host.Outcome State Fault Refusal := .next (powerOn s lines)

/-- FRAME_START (R6). -/
def execFrameStart (s : State) : Host.Outcome State Fault Refusal := .next (frameStartPacket s)

/-- LINE (R7): discarded outside IN_FRAME, surplus beyond the programmed height. -/
def execLine (pixels : List Nat) (s : State) : Host.Outcome State Fault Refusal :=
  if s.intake.mode ≠ .inFrame then .next s
  else if s.intake.geometry.h ≤ s.intake.lineCounter then .next (s.raise condLineError)
  else if lineOutside s s.intake.lineCounter then .fault .frameMemoryAddress
  else .next (takeLine s pixels)

/-- FRAME_END (R8). -/
def execFrameEnd (s : State) : Host.Outcome State Fault Refusal := .next (frameEndPacket s)

/-- FRAME_TIMEOUT (R10). -/
def execFrameTimeout (s : State) : Host.Outcome State Fault Refusal := .next (timeoutExpires s)

/-- UPSTREAM_PACKET (R174, R175), with the packet's bytes on the link. -/
def execUpstreamPacket (bytes : List Byte) (s : State) : Host.Outcome State Fault Refusal :=
  .next (s.setLnk (lnkReceive s.lnk bytes))

/-- UNKNOWN_COMMAND (R176). -/
def execUnknownCommand (tag : Tag) (code : Byte) (s : State) : Host.Outcome State Fault Refusal :=
  .next (takeCommand (.unknownCommand tag code) tag code (fun t => (t, answer .unknownCommand)) s)

/-! ### PATH_SETUP (R3) -/

/-- The black levels clamped (R3). -/
def clampBlack (c : Channels) : Clamped Channels :=
  let v : Channels := ⟨clampNat 0 1023 c.r, clampNat 0 1023 c.gr, clampNat 0 1023 c.gb, clampNat 0 1023 c.b⟩
  ⟨v, decide (v ≠ c)⟩

/-- INTAKE with the arguments of a PATH_SETUP, clamped (R3). -/
def intakeSetup (i : Intake) (a : PathSetupArgs) : Intake :=
  { i with
    geometry := a.geometry, black := (clampBlack a.black).value, b1 := clampNat 1 2048 a.b1
    b2 := clampNat 1 2048 a.b2, b3 := clampNat 1 2048 a.b3, timeout := clampNat 10 1000 a.timeout }

/-- A clamp acted on a PATH_SETUP (R3 step 2). -/
def pathClamped (a : PathSetupArgs) : Bool :=
  (clampBlack a.black).changed || (clampArg 1 2048 a.b1).changed || (clampArg 1 2048 a.b2).changed ||
  (clampArg 1 2048 a.b3).changed || (clampArg 10 1000 a.timeout).changed

/-- The geometry is refused (R3 step 1): outside R2, or its stored frame exceeds the slot size. -/
def geometryRefused (c : Cst) (g : Geometry) : Bool :=
  !geometryAllowed g || decide (slotSize c.slots.length < storedBytes g)

/-- PATH_SETUP (R3). -/
def pathSetup (a : PathSetupArgs) (s : State) : State × Answer :=
  let i := intakeSetup s.intake a
  if geometryRefused s.cst a.geometry then (s, answer .refusedArg)
  else if ¬(i.b1 < i.b2 ∧ i.b2 < i.b3) then (s, answer .refusedArg)
  else if s.intake.mode ≠ .stopped ∧ a.geometry ≠ s.intake.geometry then (s, answer .refusedState)
  else
    let p :=
      if a.geometry = s.intake.geometry then s.pxp
      else { s.pxp with cropX := marginX a.geometry / 2, cropY := marginY a.geometry / 2 }
    ((s.setIntake i).setPxp p, answer (clampedStatus (pathClamped a) .done))

def execPathSetup (tag : Tag) (args : Payload PathSetupArgs) (s : State) : Host.Outcome State Fault Refusal :=
  .next (hostCommand (.pathSetup tag args) tag 1 args pathSetup s)

/-! ### PATH_START, PATH_STOP (R4, R5) -/

/-- PATH_START (R4). -/
def pathStart (s : State) : State × Answer :=
  if s.intake.mode = .stopped then
    (s.setIntake (restartTimeout { s.intake with mode := .waiting }), answer .done)
  else (s, answer .refusedState)

def execPathStart (tag : Tag) (args : Payload Unit) (s : State) : Host.Outcome State Fault Refusal :=
  .next (hostCommand (.pathStart tag args) tag 2 args (fun _ => pathStart) s)

/-- The path stops (R5): the frame in progress is truncated, INTAKE enters STOPPED, the store stops and its fetch is
aborted (R144, R158), a scan is aborted (R102), and pending commits are applied (R182). The store's stop comes before
AFC's abort, so that an S1 release it passes on (R161) cancels the scan first (log entry 58). -/
def stopPath (s : State) : State :=
  let s := if s.intake.mode = .inFrame then truncateFrame s .stopped else s
  let s := s.setIntake { s.intake with mode := .stopped, timer := none }
  applyCommits (afcPathStop (abortFetch (storeStop s)))

/-- PATH_STOP (R5); in STOPPED it changes nothing in any block (log entry 60). -/
def pathStop (s : State) : State × Answer := (if s.intake.mode = .stopped then s else stopPath s, answer .done)

def execPathStop (tag : Tag) (args : Payload Unit) (s : State) : Host.Outcome State Fault Refusal :=
  .next (hostCommand (.pathStop tag args) tag 3 args (fun _ => pathStop) s)

/-! ### STATS_SETUP (R28) -/

/-- STATS_SETUP (R28): the divider is set to 0, a waiting packet stays waiting. -/
def statsSetup (a : StatsSetupArgs) (s : State) : State × Answer :=
  let clip := clampArg 0 65535 a.clip
  let noise := clampArg 0 255 a.noise
  let rate := clampArg 0 15 a.rate
  (s.setStats { s.stats with clip := clip.value, noise := noise.value, rate := rate.value, divider := 0 },
    answer (clampedStatus (clip.changed || noise.changed || rate.changed) .done))

def execStatsSetup (tag : Tag) (args : Payload StatsSetupArgs) (s : State) : Host.Outcome State Fault Refusal :=
  .next (hostCommand (.statsSetup tag args) tag 4 args statsSetup s)

end Sys2Proof.Machine
end

