-- ==== Sys2Proof/Machine/LensCommands.lean ====
section
/-! DEFINITION. Meanings: the Lens Drive Sequencer's commands and its step timer (chapter 4). -/

namespace Sys2Proof.Machine

/-! ### LENS_SETUP (R72) -/

/-- The levels and speed classes of a LENS_SETUP are in range (R72). -/
def lensStructural (a : LensSetupArgs) : Bool :=
  (sourceOrder.all fun src => decide (perSource a.levels src ≤ 3)) &&
  decide (a.parkClass ≤ 3 ∧ a.trackClass ≤ 3 ∧ a.afClass ≤ 3)

/-- The parameters of a LENS_SETUP, clamped (R72). -/
def lensParamsOf (a : LensSetupArgs) : LensParams :=
  { levels := a.levels, parkClass := a.parkClass, trackClass := a.trackClass, afClass := a.afClass,
    zoomBacklash := clampNat 0 31 a.zoomBacklash, focusBacklash := clampNat 0 31 a.focusBacklash,
    homePos := clampNat 0 4095 a.homePos, homeTol := clampNat 0 15 a.homeTol }

/-- A clamp acted on a LENS_SETUP. -/
def lensClamped (a : LensSetupArgs) : Bool :=
  (clampArg 0 31 a.zoomBacklash).changed || (clampArg 0 31 a.focusBacklash).changed ||
  (clampArg 0 4095 a.homePos).changed || (clampArg 0 15 a.homeTol).changed

/-- A taken LENS_SETUP (R72): a home_pos that moves makes the focus invalid, which AFC sees (R102). -/
def lensSetupTaken (s : State) (p : LensParams) : State :=
  let moved := decide (p.homePos ≠ s.lds.params.homePos)
  let was := s.lds.focus.valid
  let l := { s.lds with params := p }
  if moved then
    let s := s.setLds (l.setMotor .focus ⟨l.focus.pos, false⟩)
    if was then afcFocusInvalid s else s
  else s.setLds l

/-- LENS_SETUP (R72). -/
def lensSetup (a : LensSetupArgs) (s : State) : State × Answer :=
  if !(s.lds.idle && s.lds.noMoves) then (s, answer .refusedBusy)
  else if !lensStructural a then (s, answer .refusedArg)
  else (lensSetupTaken s (lensParamsOf a), answer (clampedStatus (lensClamped a) .done))

def execLensSetup (tag : Tag) (args : Payload LensSetupArgs) (s : State) : Host.Outcome State Fault Refusal :=
  .next (hostCommand (.lensSetup tag args) tag 8 args lensSetup s)

/-! ### FOCUS_MOVE, LENS_STOP (R73, R74) -/

/-- FOCUS_MOVE (R73). -/
def focusMove (a : MoveArgs) (s : State) : State × Answer :=
  if 3 < a.speed then (s, answer .refusedArg)
  else if s.afc.mode ≠ .manual then (s, answer .refusedState)
  else if !s.lds.focus.valid then (s, answer .refusedUnreferenced)
  else
    let t := clampArg 0 4095 a.target
    ((s.place .manual ⟨.focus, t.value, a.speed⟩).grant, answer (clampedStatus t.changed .accepted))

def execFocusMove (tag : Tag) (args : Payload MoveArgs) (s : State) : Host.Outcome State Fault Refusal :=
  .next (hostCommand (.focusMove tag args) tag 9 args focusMove s)

def execLensStop (tag : Tag) (args : Payload Unit) (s : State) : Host.Outcome State Fault Refusal :=
  .next (hostCommand (.lensStop tag args) tag 10 args (fun _ t => (lensStop t, answer .done)) s)

/-! ### LENS_REFERENCE, LENS_PARK (R75, R78) -/

/-- A LENS_REFERENCE or LENS_PARK is in progress. -/
def Lds.taken (l : Lds) : Bool := l.reference.isSome || l.park.isSome

/-- The state requirement of R75 step 2. -/
def lensFree (s : State) : Bool :=
  decide (s.aec.state = .off) && decide (s.afc.state = .idle ∨ s.afc.mode = .manual) && decide (s.zmc.mode = .idle) &&
  s.lds.noMoves

/-- LENS_REFERENCE (R75). -/
def lensReference (s : State) : State × Answer :=
  if s.lds.taken then (s, answer .refusedBusy)
  else if !lensFree s then (s, answer .refusedState)
  else (s.setLds s.lds.beginReference, answer .accepted)

def execLensReference (tag : Tag) (args : Payload Unit) (s : State) : Host.Outcome State Fault Refusal :=
  .next (hostCommand (.lensReference tag args) tag 11 args (fun _ => lensReference) s)

/-- LENS_PARK (R78). -/
def lensPark (s : State) : State × Answer :=
  if s.lds.taken then (s, answer .refusedBusy)
  else if !lensFree s then (s, answer .refusedState)
  else if !(s.lds.zoom.valid && s.lds.focus.valid && s.lds.iris.valid) then (s, answer .refusedUnreferenced)
  else ((parkRequest s .iris).grant, answer .accepted)

def execLensPark (tag : Tag) (args : Payload Unit) (s : State) : Host.Outcome State Fault Refusal :=
  .next (hostCommand (.lensPark tag args) tag 12 args (fun _ => lensPark) s)

/-! ### The step timer (R66, R76) -/

/-- STEP_BOUNDARY (R66). -/
def execStepBoundary (sample : LensSample) (withCancel : Bool) (s : State) : Host.Outcome State Fault Refusal :=
  .next (stepBoundary s sample withCancel)

/-- REFERENCE_STEP (R76, R77). -/
def execReferenceStep (sample : LensSample) (s : State) : Host.Outcome State Fault Refusal :=
  .next (referenceStep s sample)

end Sys2Proof.Machine
end

