-- ==== Sys2Proof/Machine/LinkCommands.lean ====
section
/-! DEFINITION. Meanings: tables, RESET, STATUS_QUERY and the downstream link (chapter 10). -/

namespace Sys2Proof.Machine

/-- TABLE_LOAD (R180). -/
def execTableLoad (tag : Tag) (args : Payload TableLoadArgs) (s : State) : Host.Outcome State Fault Refusal :=
  .next (hostCommand (.tableLoad tag args) tag 37 args loadTable s)

/-- TABLE_COMMIT (R181). -/
def execTableCommit (tag : Tag) (args : Payload Nat) (s : State) : Host.Outcome State Fault Refusal :=
  .next (hostCommand (.tableCommit tag args) tag 38 args commitTable s)

/-- TABLE_READ (R183). -/
def execTableRead (tag : Tag) (args : Payload TableReadArgs) (s : State) : Host.Outcome State Fault Refusal :=
  .next (hostCommand (.tableRead tag args) tag 39 args readTable s)

/-- RESET (R184). -/
def execReset (tag : Tag) (args : Payload Nat) (s : State) : Host.Outcome State Fault Refusal :=
  .next (resetCommand (.reset tag args) tag args s)

/-- STATUS_QUERY (R186): every block's copy is taken as the command is handed. -/
def statusQuery (tag : Tag) (s : State) : State × Answer := (s, ⟨.done, [], [statusPacket tag s]⟩)

def execStatusQuery (tag : Tag) (args : Payload Unit) (s : State) : Host.Outcome State Fault Refusal :=
  .next (hostCommand (.statusQuery tag args) tag 41 args (fun _ => statusQuery tag) s)

/-- RESET_COMPLETION (R184). -/
def execResetCompletion (s : State) : Host.Outcome State Fault Refusal := .next (resetCompletes s)

/-- PACKET_BOUNDARY (R178): the packet being sent ends, and the scheduler chooses the next one. -/
def execPacketBoundary (s : State) : Host.Outcome State Fault Refusal :=
  let s := packetEnds s
  if fetchOutside s then .fault .frameMemoryAddress else .next (sendNext s)

end Sys2Proof.Machine
end

