-- ==== Sys2Proof/Machine/MotionCommands.lean ====
section
/-! DEFINITION. Meanings: the Motion Unit's commands, its samples, its readbacks and the strobe line (chapter 7). -/

namespace Sys2Proof.Machine

/-- STAB_MODE (R128). -/
def stabModeCommand (n : Nat) (s : State) : State × Answer :=
  match stabMode? n with
  | none => (s, answer .refusedArg)
  | some m =>
    if m ≠ .off ∧ s.tableValid zoomId = false then (s, answer .refusedTable)
    else (setStabMode s m, answer .done)

def execStabMode (tag : Tag) (args : Payload Nat) (s : State) : Host.Outcome State Fault Refusal :=
  .next (hostCommand (.stabMode tag args) tag 21 args stabModeCommand s)

/-- STAB_CENTER (R129). -/
def execStabCenter (tag : Tag) (args : Payload Unit) (s : State) : Host.Outcome State Fault Refusal :=
  .next (hostCommand (.stabCenter tag args) tag 22 args (fun _ t => (t.setMou (stabCenter t.mou), answer .done)) s)

/-! ### STAB_SETUP (R138) -/

/-- The parameters of a STAB_SETUP, clamped, none when a structural argument is out of range (R138). -/
def stabParamsOf (a : StabSetupArgs) : Option StabParams :=
  match panCombination? a.combination, yesNo? a.yawEnable, yesNo? a.pitchEnable with
  | some c, some y, some p =>
    some
      { dt := clampNat 100 2000 a.dt, biasShift := clampNat 6 12 a.biasShift, leakShift := clampNat 6 14 a.leakShift,
        panRef := clampNat 0 32767 a.panRef, panDeb := clampNat 1 255 a.panDeb, combination := c, yawEnable := y,
        pitchEnable := p, stillRef := clampNat 0 32767 a.stillRef, shakyRef := clampNat 0 32767 a.shakyRef,
        ppu := clampNat 0 1023 a.ppu, shiftTol := clampNat 0 4095 a.shiftTol,
        shiftFaultCount := clampNat 1 15 a.shiftFaultCount, blurLimit := clampNat 0 65535 a.blurLimit }
  | _, _, _ => none

/-- A clamp acted on a STAB_SETUP. -/
def stabClamped (a : StabSetupArgs) : Bool :=
  (clampArg 100 2000 a.dt).changed || (clampArg 6 12 a.biasShift).changed || (clampArg 6 14 a.leakShift).changed ||
  (clampArg 0 32767 a.panRef).changed || (clampArg 1 255 a.panDeb).changed || (clampArg 0 32767 a.stillRef).changed ||
  (clampArg 0 32767 a.shakyRef).changed || (clampArg 0 1023 a.ppu).changed || (clampArg 0 4095 a.shiftTol).changed ||
  (clampArg 1 15 a.shiftFaultCount).changed || (clampArg 0 65535 a.blurLimit).changed

/-- STAB_SETUP (R138). -/
def stabSetup (a : StabSetupArgs) (s : State) : State × Answer :=
  match stabParamsOf a with
  | none => (s, answer .refusedArg)
  | some p => (s.setMou { s.mou with params := p }, answer (clampedStatus (stabClamped a) .done))

def execStabSetup (tag : Tag) (args : Payload StabSetupArgs) (s : State) : Host.Outcome State Fault Refusal :=
  .next (hostCommand (.stabSetup tag args) tag 23 args stabSetup s)

/-! ### The motion and shift ports, the strobe line -/

/-- RATE_SAMPLE (R120). -/
def execRateSample (seq : Nat) (yaw pitch : Int) (s : State) : Host.Outcome State Fault Refusal :=
  .next (rateSample s seq yaw pitch)

/-- READBACK (R133). -/
def execReadback (yaw pitch : Int) (s : State) : Host.Outcome State Fault Refusal := .next (takeReadback s ⟨yaw, pitch⟩)

/-- STROBE_RISE (R135): a line that is high already does not rise. -/
def execStrobeRise (s : State) : Host.Outcome State Fault Refusal :=
  .next (if s.mou.strobe then s else s.setMou (strobeRises s.mou))

/-- STROBE_FALL (R135): a line that is low already does not fall. -/
def execStrobeFall (s : State) : Host.Outcome State Fault Refusal :=
  .next (if s.mou.strobe then s.setMou (strobeFalls s.mou) else s)

end Sys2Proof.Machine
end

