-- ==== Sys2Proof/Machine/StoreCommands.lean ====
section
/-! DEFINITION. Meanings: the Capture Store's commands, the shutter line and the gate (chapter 8). -/

namespace Sys2Proof.Machine

/-! ### STORE_SETUP (R145) -/

/-- The structural arguments of a STORE_SETUP but for the slot count (R145). -/
structure StoreChoice where
  mode : StoreMode
  overflow : Overflow
  gate : GateMask
  timeoutAction : TimeoutAction
  filter : FilterMask
  hold : HoldMask
  release : ReleaseMode
  notice : NoticeMode
  deriving DecidableEq, Repr

/-- The structural arguments read, none when one is out of range (R145, R188). -/
def storeChoice? (a : StoreSetupArgs) : Option StoreChoice := do
  let mode ← storeMode? a.mode
  let overflow ← overflow? a.policy
  let gate ← gateMask? a.gateMask
  let timeoutAction ← timeoutAction? a.timeoutAction
  let filter ← filterMask? a.filterMask
  let hold ← holdMask? a.holdMask
  let release ← releaseMode? a.releaseMode
  let notice ← noticeMode? a.noticeMode
  return ⟨mode, overflow, gate, timeoutAction, filter, hold, release, notice⟩

/-- The top of N_pre at slot count n (R145). -/
def preTop (n : Nat) : Nat := max 1 (min 16 (n - 2))

/-- The slot count is refused with REFUSED_ARG (R145 step 2). -/
def slotCountRefused (g : Geometry) (mode : StoreMode) (n : Nat) : Bool :=
  decide (n < 2 ∨ 24 < n) || decide (slotSize n < storedBytes g) || decide (mode = .pretrigger ∧ n = 2)

/-- The parameters of a STORE_SETUP (R145 step 4). -/
def storeParamsOf (c : StoreChoice) (a : StoreSetupArgs) : StoreParams :=
  { mode := c.mode, overflow := c.overflow, nAfter := clampNat 1 255 a.nAfter,
    nPre := clampNat 1 (preTop a.slots) a.nPre, gate := c.gate, gateTimeout := clampNat 0 255 a.gateTimeout,
    timeoutAction := c.timeoutAction, filter := c.filter, skipMax := clampNat 0 15 a.skipMax, hold := c.hold,
    release := c.release, notice := c.notice }

/-- A clamp acted on a STORE_SETUP. -/
def storeClamped (a : StoreSetupArgs) : Bool :=
  (clampArg 1 255 a.nAfter).changed || (clampArg 1 (preTop a.slots) a.nPre).changed ||
  (clampArg 0 255 a.gateTimeout).changed || (clampArg 0 15 a.skipMax).changed

/-- A taken STORE_SETUP (R145): a new slot count re-divides the memory, its slots FREE with storing order 0 (log entry 78),
and AUTO frees what has been sent. -/
def storeSetupTaken (s : State) (p : StoreParams) (n : Nat) : State :=
  let c := s.cst
  let slots := if n = c.slots.length then c.slots else List.replicate n freeSlot
  let s := s.setCst { c with params := p, slots := slots }
  (List.range slots.length).foldl autoRelease s

/-- STORE_SETUP (R145). -/
def storeSetup (a : StoreSetupArgs) (s : State) : State × Answer :=
  if s.cst.state ≠ .idle then (s, answer .refusedState)
  else
    match storeChoice? a with
    | none => (s, answer .refusedArg)
    | some c =>
      if slotCountRefused s.intake.geometry c.mode a.slots then (s, answer .refusedArg)
      else if a.slots ≠ s.cst.slots.length ∧ ¬ s.cst.slots.all (fun x => decide (x.state = .free)) then
        (s, answer .refusedState)
      else (storeSetupTaken s (storeParamsOf c a) a.slots, answer (clampedStatus (storeClamped a) .done))

def execStoreSetup (tag : Tag) (args : Payload StoreSetupArgs) (s : State) : Host.Outcome State Fault Refusal :=
  .next (hostCommand (.storeSetup tag args) tag 24 args storeSetup s)

/-! ### STORE_START, STORE_STOP, TRIGGER (R143, R144, R150) -/

/-- A capture begins in a state (R143): new capture id, counters 0; the skip counter is 0 at a PRETRIGGER start too (log
entry 62). -/
def beginCapture (c : Cst) (st : CaptureState) : Cst :=
  { c with
    captureId := (c.captureId + 1) % 65536, counters := noCounters, state := st, skips := 0, forced := false
    noticeArmed := true }

/-- STORE_START (R143). -/
def storeStart (s : State) : State × Answer :=
  match s.cst.params.mode with
  | .off => (s, answer .refusedState)
  | mode =>
    if s.cst.state ≠ .idle then (s, answer .refusedBusy)
    else
      let c :=
        match mode with
        | .stream => beginCapture s.cst .capturing
        | .pretrigger => beginCapture s.cst .armed
        | _ => { s.cst with noticeArmed := true }
      (s.setCst c, answer .done)

def execStoreStart (tag : Tag) (args : Payload Unit) (s : State) : Host.Outcome State Fault Refusal :=
  .next (hostCommand (.storeStart tag args) tag 25 args (fun _ => storeStart) s)

def execStoreStop (tag : Tag) (args : Payload Unit) (s : State) : Host.Outcome State Fault Refusal :=
  .next (hostCommand (.storeStop tag args) tag 26 args (fun _ t => (storeStop t, answer .done)) s)

/-- TRIGGER (R150). -/
def triggerCommand (s : State) : State × Answer :=
  match triggerRefusal s.cst with
  | some st => (s, answer st)
  | none => (takeTrigger s, answer .accepted)

def execTrigger (tag : Tag) (args : Payload Unit) (s : State) : Host.Outcome State Fault Refusal :=
  .next (hostCommand (.trigger tag args) tag 27 args (fun _ => triggerCommand) s)

/-! ### ACCEPT, DISCARD, RELEASE (R155) -/

/-- A command on slot n that must be in the given state (R155). -/
def slotCommand (need : SlotState) (effect : State → Nat → State) (n : Nat) (s : State) : State × Answer :=
  match s.cst.slots[n]? with
  | none => (s, answer .refusedArg)
  | some x => if x.state = need then (effect s n, answer .done) else (s, answer .refusedState)

/-- ACCEPT's effect (R155): READY in its place, freed at once under AUTO release when both flags are true. -/
def acceptSlot (s : State) (n : Nat) : State := autoRelease (setSlot s n fun y => { y with state := .ready }) n

def execAccept (tag : Tag) (args : Payload Nat) (s : State) : Host.Outcome State Fault Refusal :=
  .next (hostCommand (.accept tag args) tag 28 args (slotCommand .held acceptSlot) s)

def execDiscard (tag : Tag) (args : Payload Nat) (s : State) : Host.Outcome State Fault Refusal :=
  .next (hostCommand (.discard tag args) tag 29 args (slotCommand .held freeSlotAt) s)

def execRelease (tag : Tag) (args : Payload Nat) (s : State) : Host.Outcome State Fault Refusal :=
  .next (hostCommand (.release tag args) tag 30 args (slotCommand .ready freeSlotAt) s)

/-! ### FETCH, SEND_ABORT, NOTICE_ARM (R156, R158, R159) -/

def execFetch (tag : Tag) (args : Payload FetchArgs) (s : State) : Host.Outcome State Fault Refusal :=
  .next (hostCommand (.fetch tag args) tag 31 args (fetchCommand tag) s)

def execSendAbort (tag : Tag) (args : Payload Unit) (s : State) : Host.Outcome State Fault Refusal :=
  .next (hostCommand (.sendAbort tag args) tag 32 args (fun _ t => (abortFetch t, answer .done)) s)

def execNoticeArm (tag : Tag) (args : Payload Unit) (s : State) : Host.Outcome State Fault Refusal :=
  .next (hostCommand (.noticeArm tag args) tag 33 args
    (fun _ t => (t.setCst { t.cst with noticeArmed := true }, answer .done)) s)

/-! ### SHUTTER_SETUP (R160) -/

/-- SHUTTER_SETUP (R160). -/
def shutterSetup (a : ShutterSetupArgs) (s : State) : State × Answer :=
  match yesNo? a.s1Enable, yesNo? a.s2Enable with
  | some e1, some e2 =>
    let d := clampArg 0 50 a.debounce
    let c := s.cst
    (s.setCst { c with debounce := d.value, s1 := { c.s1 with enable := e1 }, s2 := { c.s2 with enable := e2 } },
      answer (clampedStatus d.changed .done))
  | _, _ => (s, answer .refusedArg)

def execShutterSetup (tag : Tag) (args : Payload ShutterSetupArgs) (s : State) : Host.Outcome State Fault Refusal :=
  .next (hostCommand (.shutterSetup tag args) tag 34 args shutterSetup s)

/-! ### The shutter line and the gate (R152, R160, R161) -/

/-- SHUTTER_LEVEL_CHANGE (R160). -/
def execShutterLevelChange (which : ShutterLine) (level : Bool) (s : State) : Host.Outcome State Fault Refusal :=
  .next (rawChanges s which level)

/-- DEBOUNCE_EXPIRY (R160, R161). -/
def execDebounceExpiry (which : ShutterLine) (s : State) : Host.Outcome State Fault Refusal :=
  .next (debounceExpires s which)

/-- GATE_EXPIRY (R152), at a frame that the gate fails with the gate count at gate_timeout (log entry 8); with INTAKE
STOPPED no frame comes. -/
def execGateExpiry (s : State) : Host.Outcome State Fault Refusal :=
  .next (if s.intake.mode ≠ .stopped ∧ gateExpiring s then gateExpires s else s)

end Sys2Proof.Machine
end

