-- ==== Sys2Proof/Machine/ZoomCommands.lean ====
section
/-! DEFINITION. Meanings: the Zoom Controller's commands (chapter 6). -/

namespace Sys2Proof.Machine

/-- ZOOM_SETUP (R107). -/
def zoomSetup (n : Nat) (s : State) : State × Answer :=
  match onOff? n with
  | some on => (s.setZmc { s.zmc with tracking := on }, answer .done)
  | none => (s, answer .refusedArg)

def execZoomSetup (tag : Tag) (args : Payload Nat) (s : State) : Host.Outcome State Fault Refusal :=
  .next (hostCommand (.zoomSetup tag args) tag 17 args zoomSetup s)

/-- The status with which a zoom command is refused, none when it is taken (R108). -/
def zoomRefusal (s : State) (speed : Nat) : Option Status :=
  if 3 < speed then some .refusedArg
  else if s.zmc.mode = .stopping then some .refusedBusy
  else if !s.lds.zoom.valid then some .refusedUnreferenced
  else none

/-- ZOOM_TO (R108). -/
def zoomTo (a : MoveArgs) (s : State) : State × Answer :=
  match zoomRefusal s a.speed with
  | some st => (s, answer st)
  | none =>
    let t := zoomTarget a.target
    ((zmcCommand s t a.speed).grant, answer (clampedStatus t.changed .accepted))

def execZoomTo (tag : Tag) (args : Payload MoveArgs) (s : State) : Host.Outcome State Fault Refusal :=
  .next (hostCommand (.zoomTo tag args) tag 18 args zoomTo s)

/-- The base of a ZOOM_BY (R109): the position in IDLE, the target in MOVING. -/
def zoomBase (s : State) : Nat :=
  match s.zmc.zoom with
  | some z => z.target
  | none => s.lds.zoom.pos

/-- ZOOM_BY (R109). -/
def zoomBy (a : ZoomByArgs) (s : State) : State × Answer :=
  match zoomRefusal s a.speed with
  | some st => (s, answer st)
  | none =>
    let d := clampIntArg (-2048) 2048 a.delta
    let t := zoomTarget ((zoomBase s : Int) + d.value)
    ((zmcCommand s t a.speed).grant, answer (clampedStatus (d.changed || t.changed) .accepted))

def execZoomBy (tag : Tag) (args : Payload ZoomByArgs) (s : State) : Host.Outcome State Fault Refusal :=
  .next (hostCommand (.zoomBy tag args) tag 19 args zoomBy s)

/-- ZOOM_STOP (R113). -/
def execZoomStop (tag : Tag) (args : Payload Unit) (s : State) : Host.Outcome State Fault Refusal :=
  .next (hostCommand (.zoomStop tag args) tag 20 args (fun _ t => ((zmcStop t).grant, answer .done)) s)

end Sys2Proof.Machine
end

