-- ==== Sys2Proof/Machine/Dispatch.lean ====
section
/-! DEFINITION. One arm per command or event, each a direct call of its meaning. -/

namespace Sys2Proof.Machine

def exec (i : Instr) (s : State) : Host.Outcome State Fault Refusal :=
  match i with
  | .powerOnReset lines => Sys2Proof.Machine.execPowerOnReset lines s
  | .frameStart => Sys2Proof.Machine.execFrameStart s
  | .line pixels => Sys2Proof.Machine.execLine pixels s
  | .frameEnd => Sys2Proof.Machine.execFrameEnd s
  | .frameTimeout => Sys2Proof.Machine.execFrameTimeout s
  | .upstreamPacket bytes => Sys2Proof.Machine.execUpstreamPacket bytes s
  | .unknownCommand tag code => Sys2Proof.Machine.execUnknownCommand tag code s
  | .pathSetup tag args => Sys2Proof.Machine.execPathSetup tag args s
  | .pathStart tag args => Sys2Proof.Machine.execPathStart tag args s
  | .pathStop tag args => Sys2Proof.Machine.execPathStop tag args s
  | .statsSetup tag args => Sys2Proof.Machine.execStatsSetup tag args s
  | .aeMode tag args => Sys2Proof.Machine.execAeMode tag args s
  | .aeSetup tag args => Sys2Proof.Machine.execAeSetup tag args s
  | .aeManual tag args => Sys2Proof.Machine.execAeManual tag args s
  | .lensSetup tag args => Sys2Proof.Machine.execLensSetup tag args s
  | .focusMove tag args => Sys2Proof.Machine.execFocusMove tag args s
  | .lensStop tag args => Sys2Proof.Machine.execLensStop tag args s
  | .lensReference tag args => Sys2Proof.Machine.execLensReference tag args s
  | .lensPark tag args => Sys2Proof.Machine.execLensPark tag args s
  | .afSetup tag args => Sys2Proof.Machine.execAfSetup tag args s
  | .afStart tag args => Sys2Proof.Machine.execAfStart tag args s
  | .afCancel tag args => Sys2Proof.Machine.execAfCancel tag args s
  | .afHistory tag args => Sys2Proof.Machine.execAfHistory tag args s
  | .zoomSetup tag args => Sys2Proof.Machine.execZoomSetup tag args s
  | .zoomTo tag args => Sys2Proof.Machine.execZoomTo tag args s
  | .zoomBy tag args => Sys2Proof.Machine.execZoomBy tag args s
  | .zoomStop tag args => Sys2Proof.Machine.execZoomStop tag args s
  | .stabMode tag args => Sys2Proof.Machine.execStabMode tag args s
  | .stabCenter tag args => Sys2Proof.Machine.execStabCenter tag args s
  | .stabSetup tag args => Sys2Proof.Machine.execStabSetup tag args s
  | .storeSetup tag args => Sys2Proof.Machine.execStoreSetup tag args s
  | .storeStart tag args => Sys2Proof.Machine.execStoreStart tag args s
  | .storeStop tag args => Sys2Proof.Machine.execStoreStop tag args s
  | .trigger tag args => Sys2Proof.Machine.execTrigger tag args s
  | .accept tag args => Sys2Proof.Machine.execAccept tag args s
  | .discard tag args => Sys2Proof.Machine.execDiscard tag args s
  | .release tag args => Sys2Proof.Machine.execRelease tag args s
  | .fetch tag args => Sys2Proof.Machine.execFetch tag args s
  | .sendAbort tag args => Sys2Proof.Machine.execSendAbort tag args s
  | .noticeArm tag args => Sys2Proof.Machine.execNoticeArm tag args s
  | .shutterSetup tag args => Sys2Proof.Machine.execShutterSetup tag args s
  | .conditionsSetup tag args => Sys2Proof.Machine.execConditionsSetup tag args s
  | .conditionsClear tag args => Sys2Proof.Machine.execConditionsClear tag args s
  | .tableLoad tag args => Sys2Proof.Machine.execTableLoad tag args s
  | .tableCommit tag args => Sys2Proof.Machine.execTableCommit tag args s
  | .tableRead tag args => Sys2Proof.Machine.execTableRead tag args s
  | .reset tag args => Sys2Proof.Machine.execReset tag args s
  | .statusQuery tag args => Sys2Proof.Machine.execStatusQuery tag args s
  | .resetCompletion => Sys2Proof.Machine.execResetCompletion s
  | .packetBoundary => Sys2Proof.Machine.execPacketBoundary s
  | .stepBoundary sample withCancel => Sys2Proof.Machine.execStepBoundary sample withCancel s
  | .referenceStep sample => Sys2Proof.Machine.execReferenceStep sample s
  | .writeItemAcknowledged => Sys2Proof.Machine.execWriteItemAcknowledged s
  | .writeItemNotAcknowledged => Sys2Proof.Machine.execWriteItemNotAcknowledged s
  | .rateSample seq yaw pitch => Sys2Proof.Machine.execRateSample seq yaw pitch s
  | .readback yaw pitch => Sys2Proof.Machine.execReadback yaw pitch s
  | .strobeRise => Sys2Proof.Machine.execStrobeRise s
  | .strobeFall => Sys2Proof.Machine.execStrobeFall s
  | .shutterLevelChange which level => Sys2Proof.Machine.execShutterLevelChange which level s
  | .debounceExpiry which => Sys2Proof.Machine.execDebounceExpiry which s
  | .gateExpiry => Sys2Proof.Machine.execGateExpiry s
  | .settleTimeout => Sys2Proof.Machine.execSettleTimeout s
  | .timedLatchExpiry condition => Sys2Proof.Machine.execTimedLatchExpiry condition s

end Sys2Proof.Machine
end

