-- ==== Sys2Proof/Machine/Step.lean ====
section
/-! DEFINITION. One step: the command or event at the front of the queue is run. The LF760 fetches no program;
withFetchWord puts the command that a table word spells at the front. -/

namespace Sys2Proof.Machine

/-- One step: the front of the queue is taken and run on the state with the queue's rest. With an empty queue
nothing happens (log entry 3). -/
def step (s : State) : Host.Outcome State Fault Refusal :=
  match s.pending with
  | [] => .next s
  | i :: rest => exec i (s.setPending rest)

/-- The command that the word spells goes to the front of the queue; s unchanged where the word spells none. -/
def State.withFetchWord (s : State) (nbits w : Nat) : State :=
  match decodeTableWord nbits w with
  | some i => s.setPending (i :: s.pending)
  | none => s

end Sys2Proof.Machine
end

