-- ==== Sys2Proof/Safety.lean ====
section
/-! DEFINITION. The terms in which claims are stated: the answer of a command, and the invariants that every
step keeps, block by block. -/

namespace Sys2Proof.Machine

/-! ### Answered commands (R175 to R177) -/

/-- s with one more REPLY in its reply queue and the command's place of the buffer answered: all that the
answering of a command does to the Link Interface. -/
def State.replied (s : State) (tag : Tag) (code : Byte) (a : Answer) : State :=
  s.setLnk { s.lnk with
    buffer := answerPlace (takePlace tag s.lnk.buffer)
    replies := s.lnk.replies ++ [⟨tag, code, a.status, a.data, a.follow⟩] }

/-- It is the turn of command i in state s (R176). -/
def State.turnOf (s : State) (i : Instr) : Prop := commandTurn s.lnk i = true

/-- The tag and the code of a host command (R173, R188); none for an event. -/
def hostTag? : Instr → Option (Tag × Byte)
  | .unknownCommand tag code => some (tag, code)
  | .pathSetup tag _ => some (tag, 1)
  | .pathStart tag _ => some (tag, 2)
  | .pathStop tag _ => some (tag, 3)
  | .statsSetup tag _ => some (tag, 4)
  | .aeMode tag _ => some (tag, 5)
  | .aeSetup tag _ => some (tag, 6)
  | .aeManual tag _ => some (tag, 7)
  | .lensSetup tag _ => some (tag, 8)
  | .focusMove tag _ => some (tag, 9)
  | .lensStop tag _ => some (tag, 10)
  | .lensReference tag _ => some (tag, 11)
  | .lensPark tag _ => some (tag, 12)
  | .afSetup tag _ => some (tag, 13)
  | .afStart tag _ => some (tag, 14)
  | .afCancel tag _ => some (tag, 15)
  | .afHistory tag _ => some (tag, 16)
  | .zoomSetup tag _ => some (tag, 17)
  | .zoomTo tag _ => some (tag, 18)
  | .zoomBy tag _ => some (tag, 19)
  | .zoomStop tag _ => some (tag, 20)
  | .stabMode tag _ => some (tag, 21)
  | .stabCenter tag _ => some (tag, 22)
  | .stabSetup tag _ => some (tag, 23)
  | .storeSetup tag _ => some (tag, 24)
  | .storeStart tag _ => some (tag, 25)
  | .storeStop tag _ => some (tag, 26)
  | .trigger tag _ => some (tag, 27)
  | .accept tag _ => some (tag, 28)
  | .discard tag _ => some (tag, 29)
  | .release tag _ => some (tag, 30)
  | .fetch tag _ => some (tag, 31)
  | .sendAbort tag _ => some (tag, 32)
  | .noticeArm tag _ => some (tag, 33)
  | .shutterSetup tag _ => some (tag, 34)
  | .conditionsSetup tag _ => some (tag, 35)
  | .conditionsClear tag _ => some (tag, 36)
  | .tableLoad tag _ => some (tag, 37)
  | .tableCommit tag _ => some (tag, 38)
  | .tableRead tag _ => some (tag, 39)
  | .reset tag _ => some (tag, 40)
  | .statusQuery tag _ => some (tag, 41)
  | .powerOnReset _ => none
  | .frameStart => none
  | .line _ => none
  | .frameEnd => none
  | .frameTimeout => none
  | .upstreamPacket _ => none
  | .resetCompletion => none
  | .packetBoundary => none
  | .stepBoundary _ _ => none
  | .referenceStep _ => none
  | .writeItemAcknowledged => none
  | .writeItemNotAcknowledged => none
  | .rateSample _ _ _ => none
  | .readback _ _ => none
  | .strobeRise => none
  | .strobeFall => none
  | .shutterLevelChange _ _ => none
  | .debounceExpiry _ => none
  | .gateExpiry => none
  | .settleTimeout => none
  | .timedLatchExpiry _ => none

/-- A payload longer or shorter than the command's arguments (R176). -/
def isWrong {α : Type} : Payload α → Bool
  | .args _ => false
  | .wrongLength => true

/-- A host command whose payload has the wrong length (R176). -/
def wrongLength? : Instr → Bool
  | .pathSetup _ p => isWrong p
  | .pathStart _ p => isWrong p
  | .pathStop _ p => isWrong p
  | .statsSetup _ p => isWrong p
  | .aeMode _ p => isWrong p
  | .aeSetup _ p => isWrong p
  | .aeManual _ p => isWrong p
  | .lensSetup _ p => isWrong p
  | .focusMove _ p => isWrong p
  | .lensStop _ p => isWrong p
  | .lensReference _ p => isWrong p
  | .lensPark _ p => isWrong p
  | .afSetup _ p => isWrong p
  | .afStart _ p => isWrong p
  | .afCancel _ p => isWrong p
  | .afHistory _ p => isWrong p
  | .zoomSetup _ p => isWrong p
  | .zoomTo _ p => isWrong p
  | .zoomBy _ p => isWrong p
  | .zoomStop _ p => isWrong p
  | .stabMode _ p => isWrong p
  | .stabCenter _ p => isWrong p
  | .stabSetup _ p => isWrong p
  | .storeSetup _ p => isWrong p
  | .storeStart _ p => isWrong p
  | .storeStop _ p => isWrong p
  | .trigger _ p => isWrong p
  | .accept _ p => isWrong p
  | .discard _ p => isWrong p
  | .release _ p => isWrong p
  | .fetch _ p => isWrong p
  | .sendAbort _ p => isWrong p
  | .noticeArm _ p => isWrong p
  | .shutterSetup _ p => isWrong p
  | .conditionsSetup _ p => isWrong p
  | .conditionsClear _ p => isWrong p
  | .tableLoad _ p => isWrong p
  | .tableCommit _ p => isWrong p
  | .tableRead _ p => isWrong p
  | .reset _ p => isWrong p
  | .statusQuery _ p => isWrong p
  | _ => false

/-! ### Memories (R140, R179) -/

/-- The frame memory and the fourteen tables are held in canonical form. -/
def State.MemoriesCanonical (s : State) : Prop :=
  memWf s.cst.dram = true ∧ s.lnk.tables.length = 14 ∧
  ∀ t ∈ s.lnk.tables, memWf t.pending = true ∧ memWf t.working = true

/-! ### The capture store (R140, R141, R157, R158) -/

/-- A stored frame fits a slot of a store of n slots (R140). -/
def FitsSlot (n : Nat) (r : FrameRecord) : Prop := r.outH * lineBytes r.outW ≤ slotSize n

/-- Slot i waits for the ABORT packet of a RESET FULL, after which it is freed (R162). -/
def Cst.awaitsAbort (c : Cst) (i : Nat) : Prop :=
  ∃ f, c.fetch = some f ∧ f.aborted = true ∧ f.freeAtEnd = true ∧ f.slot = i

/-- The frame of the geometry in force fits a slot, every stored frame fits its slot, and no final line is being
sent of an aborted fetch (R3, R140, R145, R158). -/
def State.FramesFit (s : State) : Prop :=
  storedBytes s.intake.geometry ≤ slotSize s.cst.slots.length ∧
  (∀ i x r, s.cst.slots[i]? = some x → x.record = some r → FitsSlot s.cst.slots.length r ∨ s.cst.awaitsAbort i) ∧
  (∀ f, s.cst.fetch = some f → f.aborted = true → f.image = true ∧ sendingFinal s.lnk = false)

/-- The number of slots in a state. -/
def countState (st : SlotState) (slots : List Slot) : Nat := slots.countP fun x => decide (x.state = st)

/-- The slot whose image is being sent is that of the fetch in progress (R157). -/
def Cst.sendsImageOf (c : Cst) (i : Nat) : Prop :=
  ∃ f, c.fetch = some f ∧ f.image = true ∧ f.aborted = false ∧ f.slot = i

/-- R141: at most one slot is FILLING, and that only while a frame is in progress; at most one is SENDING, the slot of
the fetch in progress, which will return to READY or HELD; a slot that is not FREE holds a record. R158: an ABORT packet
is sent only of an aborted fetch. -/
def State.SlotsPartitioned (s : State) : Prop :=
  countState .filling s.cst.slots ≤ 1 ∧
  (s.intake.mode ≠ .inFrame → countState .filling s.cst.slots = 0) ∧
  countState .sending s.cst.slots ≤ 1 ∧
  (∀ i x, s.cst.slots[i]? = some x → x.state = .sending → (x.before = .ready ∨ x.before = .held) ∧ s.cst.sendsImageOf i) ∧
  (∀ x ∈ s.cst.slots, x.state ≠ .free → x.record.isSome = true) ∧
  (∀ p, s.lnk.sending = some p → p.atEnd = .abort → ∃ f, s.cst.fetch = some f ∧ f.aborted = true)

/-! ### The measurement (R19) -/

/-- The value of cell (u, v) of a frame given by its corrected lines (R19): the floor of the mean of its four pixels. -/
def cellValueOf (lines : List (List Nat)) (u v : Nat) : Nat :=
  let pixel := fun y x => (lines.getD y []).getD x 0
  (pixel (2 * v) (2 * u) + pixel (2 * v) (2 * u + 1) + pixel (2 * v + 1) (2 * u) + pixel (2 * v + 1) (2 * u + 1)) / 4

/-! ### The lens drive (R58, R62 to R68) -/

/-- The one motor of a source, none for PARK, which moves all three (R62). -/
def sourceMotor : Source → Option Motor
  | .park => none
  | .track => some .focus
  | .zoom => some .zoom
  | .iris => some .iris
  | .af => some .focus
  | .manual => some .focus

/-- Source src may move motor m (R62). -/
def serves (src : Source) (m : Motor) : Prop := sourceMotor src = none ∨ sourceMotor src = some m

/-- A pending request: a motor of its source, which is valid, a target within the motor's range, and no move of the same
source but one marked for stop (R63, R64). -/
def RequestOk (l : Lds) (src : Source) (r : Request) : Prop :=
  serves src r.motor ∧ (l.motor r.motor).valid = true ∧ r.target ≤ motorTop r.motor ∧ l.suspends src = false ∧
  ∀ m, l.running = some m → m.source = src → m.stop = true

/-- The running move: its source's motor, which is valid, and its source's level, target and destination within the
range, and a level strictly better than that of every suspended move (R61, R63, R67). -/
def RunningOk (l : Lds) (m : Move) : Prop :=
  serves m.source m.motor ∧ (l.motor m.motor).valid = true ∧ m.target ≤ motorTop m.motor ∧ m.dest ≤ motorTop m.motor ∧
  m.level = l.level m.source ∧
  ∀ x ∈ l.stack, m.level < x.level

/-- A suspended move of a valid motor, with a level that a strictly better one has preempted (R63, R66, R67). -/
def SuspendedOk (l : Lds) (x : Suspended) : Prop :=
  serves x.source x.motor ∧ (l.motor x.motor).valid = true ∧ x.target ≤ motorTop x.motor ∧ x.dest ≤ motorTop x.motor ∧
  x.level = l.level x.source ∧ 1 ≤ x.level

/-- Positions in range (R58), parameters in range (R72), and the drive's moves in order (R63 to R67, R75). -/
def Lds.Ordered (l : Lds) : Prop :=
  l.zoom.pos ≤ motorTop .zoom ∧ l.focus.pos ≤ motorTop .focus ∧ l.iris.pos ≤ motorTop .iris ∧
  l.params.homePos ≤ motorTop .focus ∧ (∀ src, l.level src ≤ 3) ∧
  (∀ src r, l.slots.get src = some r → RequestOk l src r) ∧
  (∀ m, l.running = some m → RunningOk l m) ∧
  (∀ x ∈ l.stack, SuspendedOk l x) ∧
  l.stack.Pairwise (fun x y => x.level < y.level) ∧
  (l.reference.isSome = true → l.running = none ∧ l.stack = [])

/-! ### The in-flight list (R49) -/

/-- R49: the in-flight list has strictly increasing effective frame numbers, and of the records not yet started in it, the
one that awaits its write, the one kept for retry and the one being written there is at most one. -/
def Aec.InFlightOrdered (a : Aec) (fn : Nat) : Prop :=
  a.inFlight.Pairwise (fun r q => fnLater q.effective r.effective = true) ∧
  a.inFlight.countP (fun r => fnLater r.effective fn) + (if a.awaiting.isSome then 1 else 0) +
    (if a.retry.isSome then 1 else 0) + (if a.sequence.isSome then 1 else 0) ≤ 1

/-- No record of the list is so old that the order of frame numbers (section 4.3), which wraps, takes it for a later one
in the coming frame. -/
def Aec.RecordsRecent (a : Aec) (fn : Nat) : Prop :=
  ∀ r ∈ a.inFlight, fnLater r.effective fn = false → (fn + 65536 - r.effective % 65536) % 65536 ≤ 32763

/-! ### Focus, zoom and exposure (R33, R82, R84, R90, R106) -/

/-- Lock data, primary window and primary figure exist only in LOCKED and MONITOR (that the primary window is gone in FAILED
is the model's choice, log entry 57), a scan only in COARSE, FINE and SETTLE, its primary
window is fixed by FINE, and the history holds at most 64 entries. -/
def Afc.Consistent (a : Afc) : Prop :=
  a.lock.isSome = a.state.lockedOn ∧ a.primary.isSome = a.state.lockedOn ∧
  (a.primaryFigure.isSome = true → a.state.lockedOn = true) ∧ a.scan.isSome = a.state.inScan ∧
  (∀ sc, a.scan = some sc → a.state = .fine ∨ sc.wait = .lockMove → sc.primary.isSome = true) ∧
  a.history.length ≤ Config.historyEntries

/-- A zoom is in hand exactly while ZMC is not IDLE (R106), with a direction and a speed class, its target within the
range (R108). -/
def Zmc.Consistent (z : Zmc) : Prop :=
  (z.zoom.isSome = true ↔ z.mode ≠ .idle) ∧ (z.zoom.isSome = true → z.travel.isSome = true) ∧
  ∀ h, z.zoom = some h → h.target ≤ 2048

/-- R33: while AFC scans, AEC is not in RUN, and AEC is HELD only then. -/
def State.FocusHoldsExposure (s : State) : Prop :=
  (s.afc.state.scanning = true → s.aec.state ≠ .run) ∧ (s.aec.state = .held → s.afc.state.scanning = true)

/-! ### Conditions (R163 to R168) -/

/-- What latch, count and levels of a state condition say of each other (R165, R167): in LEVEL the latch is the level;
otherwise a clear latch means that the level stands at the latched level, and a set one that it does so exactly when
the count is odd, until the count saturates. -/
def Condition.Accounts (x : Condition) : Prop :=
  if x.mode = .level then
    x.latch = x.current ∧ x.latchedLevel = x.current ∧ x.count = if x.latch then 1 else 0
  else if x.latch then 1 ≤ x.count ∧ (x.count < 255 → (x.count % 2 = 1 ↔ x.current = x.latchedLevel))
  else x.count = 0 ∧ x.current = x.latchedLevel

/-- Each state condition's current level is the fact it follows (R163), and accounts for its changes. -/
def State.ConditionsFollow (s : State) : Prop :=
  s.cnd.conditions.length = 25 ∧ 2 ≤ s.cst.slots.length ∧
  (∀ k ∈ stateConditions, (s.cnd.condition k).Accounts) ∧
  (s.cnd.condition condAeSettled).current = s.aec.settled ∧
  (s.cnd.condition condPan).current = s.mou.pan ∧
  (s.cnd.condition condShiftFault).current = s.mou.fault ∧
  (s.cnd.condition condStoreFull).current = storeFull s.cst.slots

/-! ### The command buffer (R175, R178) -/

/-- A command whose REPLY is built. -/
def isAnswered : BufferPlace → Bool
  | .answered _ => true
  | _ => false

/-- The order of places in the buffer (R175): answered, being taken, not yet handed. -/
def placeRank : BufferPlace → Nat
  | .answered _ => 0
  | .taken _ => 1
  | .waiting _ => 2

/-- At most four packets, in the order of R175; one command being taken exactly while a RESET waits; each reply of the
queue belongs to an answered command (R178). -/
def Lnk.Ordered (l : Lnk) : Prop :=
  l.buffer.length ≤ Config.commandBufferPlaces ∧ (l.buffer.map placeRank).Pairwise (· ≤ ·) ∧
  l.buffer.countP isTaken = (if l.resetWait.isSome then 1 else 0) ∧
  l.replies.length = l.buffer.countP isAnswered

/-! ### Motion (R122 to R124, R131, R133, R136) -/

/-- The ranges of one axis. -/
def Axis.InRange (x : Axis) : Prop :=
  x.bias.natAbs ≤ 8388352 ∧ x.angle.natAbs ≤ 2147483647 ∧ x.rate.natAbs ≤ 32767 ∧ x.panCount ≤ 255 ∧ x.optical.natAbs ≤ 2047

/-- The ranges of the Motion Unit. -/
def Mou.InRange (m : Mou) : Prop :=
  m.yaw.InRange ∧ m.pitch.InRange ∧ m.peak ≤ 32767 ∧ m.faultCount ≤ 15 ∧ m.queue.length ≤ Config.blurQueuePlaces ∧
  m.target = ⟨m.yaw.optical, m.pitch.optical⟩

end Sys2Proof.Machine
end

