-- ==== Sys2Proof/Certificates/Slice0/Obligations.lean ====
section
/-! DEFINITION. The statements for the provers. Each is about every state and every operand that meets the
hypotheses written in it; a docstring names the rules it rests on. -/

open Sys2Proof Sys2Proof.Machine

/-! ### The queue, reset, and the invariants that every step keeps -/

/-- A step is exec of the command at the front of the queue, on the state with the queue's rest; with nothing queued the
part idles (log entry 3, the model's own convention). No command reads or changes the queue, so a step takes exactly one.
-/
def Obligations.StepRunsFrontCommand : Prop :=
  (∀ (s : State) (i : Instr) (rest : List Instr), s.pending = i :: rest → step s = exec i (s.setPending rest)) ∧
  (∀ s : State, s.pending = [] → step s = .next s) ∧
  (∀ (s t : State), step s = .next t → t.pending = s.pending.tail) ∧
  ∀ (i : Instr) (q : List Instr) (s t : State), exec i s = .next t → exec i (s.setPending q) = .next (t.setPending q)

/-- The values the spec gives right after power-on reset (R3, R16, R31, R34, R57, R72, R83, R105, R119, R138, R145, R162,
R172, R185); that state meets every invariant of this file; and POWER_ON_RESET completes in every state and leaves the
part as State.reset, but for the sampled levels of its lines, an item on the sensor control port, which is completed owned
by no sequence (R57), the queue of commands, and the count of free choices, which is the model's own (log entry 6). That a
condition's frame counter, stopped at reset, holds 0 is the model's choice (74). -/
def Obligations.ResetHoldsSpecValues : Prop :=
  (State.reset.intake.mode = .stopped ∧ State.reset.intake.fn = 0 ∧ State.reset.intake.lineCounter = 0 ∧
    State.reset.intake.timer = none ∧ State.reset.intake.geometry = ⟨4640, 3480, 4384, 3288⟩ ∧
    State.reset.intake.black = ⟨64, 64, 64, 64⟩ ∧
    (State.reset.intake.b1, State.reset.intake.b2, State.reset.intake.b3) = (512, 1024, 1536) ∧
    State.reset.intake.timeout = 200) ∧
  (State.reset.stats.clip = 64 ∧ State.reset.stats.noise = 16 ∧ State.reset.stats.rate = 0 ∧
    State.reset.stats.divider = 0 ∧ State.reset.stats.replaced = 0 ∧ State.reset.stats.waiting = none) ∧
  (State.reset.aec.state = .off ∧ State.reset.aec.inFlight = [] ∧ State.reset.aec.latest = none ∧
    State.reset.aec.params = ⟨150, 0, 2, 8, 24, 3, 12, 8, 4, 32, 2, 0⟩ ∧ State.reset.aec.program = .live ∧
    State.reset.aec.settled = false) ∧
  (∀ m : Motor, State.reset.lds.motor m = ⟨0, false⟩) ∧
  (State.reset.lds.params = ⟨⟨0, 1, 2, 2, 3, 3⟩, 1, 3, 2, 12, 8, 256, 4⟩ ∧ State.reset.lds.noMoves = true ∧
    State.reset.lds.idle = true) ∧
  (State.reset.afc.mode = .off ∧ State.reset.afc.state = .idle ∧ State.reset.afc.history = [] ∧
    (State.reset.afc.coarseStep, State.reset.afc.fineStep, State.reset.afc.minFigure) = (48, 8, 20000) ∧
    (State.reset.afc.monitorFrames, State.reset.afc.monitorRatio, State.reset.afc.settleTimeout) = (6, 12, 30)) ∧
  (State.reset.zmc.mode = .idle ∧ State.reset.zmc.zoom = none ∧ State.reset.zmc.travel = none ∧
    State.reset.zmc.tracking = true ∧ State.reset.zmc.trackLimit = false) ∧
  (State.reset.mou.mode = .off ∧ State.reset.mou.yaw.angle = 0 ∧ State.reset.mou.yaw.bias = 0 ∧
    State.reset.mou.shake = .normal ∧ State.reset.mou.pan = false ∧ State.reset.mou.queue = [] ∧
    State.reset.mou.params = ⟨500, 10, 12, 1280, 200, .or, true, true, 64, 640, 96, 64, 4, 24⟩) ∧
  (State.reset.cst.slots.length = 12 ∧ (∀ x ∈ State.reset.cst.slots, x.state = .free) ∧ State.reset.cst.state = .idle ∧
    State.reset.cst.captureId = 0 ∧ State.reset.cst.params.mode = .off ∧ State.reset.cst.fetch = none ∧
    (State.reset.cst.params.nAfter, State.reset.cst.params.nPre, State.reset.cst.params.gateTimeout) = (8, 4, 15)) ∧
  (∀ k < 25, State.reset.cnd.condition k = ⟨false, 0, .latched, 1, 0, false, false, false⟩) ∧
  (State.reset.lnk.buffer = [] ∧ State.reset.lnk.replies = [] ∧ State.reset.lnk.errorCount = 0 ∧
    ∀ id < 14, (State.reset.table id).valid = false ∧ (State.reset.table id).commitPending = false ∧
      ∀ a, memRead (State.reset.table id).pending a = 0) ∧
  (State.reset.MemoriesCanonical ∧ State.reset.FramesFit ∧ State.reset.SlotsPartitioned ∧ State.reset.lds.Ordered ∧
    State.reset.afc.Consistent ∧ State.reset.zmc.Consistent ∧ State.reset.FocusHoldsExposure ∧
    State.reset.ConditionsFollow ∧ State.reset.lnk.Ordered ∧ State.reset.mou.InRange ∧
    State.reset.aec.InFlightOrdered State.reset.intake.fn) ∧
  ∀ (s : State) (lines : LineLevels), ∃ t, exec (.powerOnReset lines) s = .next t ∧
    t.pending = s.pending ∧ t.choices = s.choices ∧ t.aec.bus = s.aec.bus.map (fun b => { b with owned := false }) ∧
    t.lds.latched = lines.lens ∧ t.mou.strobe = lines.strobe ∧
    t.cst.s1 = ⟨lines.s1, lines.s1, none, false⟩ ∧ t.cst.s2 = ⟨lines.s2, lines.s2, none, false⟩ ∧
    (((((t.setPending []).setChoices 0).setAec { t.aec with bus := none }).setLds
      { t.lds with latched := ⟨false, false, false⟩ }).setMou { t.mou with strobe := false }).setCst
      { t.cst with s1 := ⟨false, false, none, false⟩, s2 := ⟨false, false, none, false⟩ } = State.reset

/-- INVARIANT of every step: the frame memory and the tables stay in their one form. -/
def Obligations.MemoriesStayCanonical : Prop :=
  ∀ s t : State, s.MemoriesCanonical → step s = .next t → t.MemoriesCanonical

/-- INVARIANT of every step, and with it no step stops: every command and event has a next state, since each frame fits
its slot (R3, R140, R145). -/
def Obligations.EveryStepCompletes : Prop :=
  ∀ s : State, s.FramesFit → ∃ t, step s = .next t ∧ t.FramesFit

/-- INVARIANT of every step (R141): at most one slot FILLING and one SENDING, and a slot in use holds its record. -/
def Obligations.SlotPartitionKept : Prop :=
  ∀ s t : State, s.SlotsPartitioned → step s = .next t → t.SlotsPartitioned

/-- INVARIANT of every step (R58, R62 to R67): positions and targets within their ranges, no move running, waiting or
suspended on a motor whose valid flag is false (R63, R71, R75), and the running move strictly ahead of every suspended
one; so no more than three moves are suspended, their levels rise strictly from the top, and no source has two of them. -/
def Obligations.LensOrderKept : Prop :=
  (∀ s t : State, s.lds.Ordered → step s = .next t → t.lds.Ordered) ∧
  ∀ l : Lds, l.Ordered →
    l.stack.length ≤ 3 ∧ (l.stack.map (·.level)).Pairwise (· < ·) ∧ (l.stack.map (·.source)).Nodup

/-- INVARIANT of every step (R33): AEC is HELD only while AFC scans, and never in RUN then. -/
def Obligations.FocusHoldsExposureKept : Prop :=
  ∀ s t : State, s.FocusHoldsExposure → step s = .next t → t.FocusHoldsExposure

/-- INVARIANT of every step (R163 to R168): each state condition's level is the fact it follows, and latch and count
account for its changes. -/
def Obligations.ConditionLevelsKept : Prop :=
  ∀ s t : State, s.ConditionsFollow → step s = .next t → t.ConditionsFollow

/-- INVARIANT of every step (R175, R178): at most four places, in the order of R175, and a REPLY of the queue for each
answered command. -/
def Obligations.CommandBufferKept : Prop :=
  ∀ s t : State, s.lnk.Ordered → step s = .next t → t.lnk.Ordered

/-- INVARIANT of every step on commands that can be formed (R122, R123, R124, R131, R133, R136): the Motion Unit's values
stay within their ranges. -/
def Obligations.MotionRangesKept : Prop :=
  ∀ s t : State, s.mou.InRange → (∀ i ∈ s.pending, i.wellFormed = true) → step s = .next t → t.mou.InRange

/-- INVARIANT of every step (R82, R90, R106): lock data exist only in LOCKED and MONITOR, a scan only in COARSE, FINE and
SETTLE, the history holds at most 64 entries, and a zoom is in hand, with a direction and a speed class, exactly while ZMC
is not IDLE. The invariant also holds the primary window and its figure to LOCKED and MONITOR. That the primary window is
thus gone in FAILED is the model's choice (log entry 57): R86 clears it when FAILED is left. -/
def Obligations.FocusAndZoomStatesKept : Prop :=
  ∀ s t : State, s.afc.Consistent → s.zmc.Consistent → step s = .next t → t.afc.Consistent ∧ t.zmc.Consistent

/-- A step keeps R49's order of the in-flight list, as long as no record of it is older than 32,763 frames, half the
circle of frame numbers (section 4.3): beyond that the order of the spec itself takes it for a later one. -/
def Obligations.InFlightOrderKept : Prop :=
  ∀ s t : State, s.aec.InFlightOrdered s.intake.fn → s.aec.RecordsRecent s.intake.fn → 1 ≤ s.aec.params.latency →
    s.aec.params.latency ≤ 3 → step s = .next t → t.aec.InFlightOrdered t.intake.fn

/-! ### Rules of the whole machine -/

/-- R176, R177: at its turn a command is answered once, with its own tag and code. RESET may be answered later, by
RESET_COMPLETION (R184), and is left to its own statement. An event answers nothing, but for RESET_COMPLETION and power-on
reset. That a command out of its turn does nothing is the model's choice (log entry 1): the rules hand commands on only in
turn, and say nothing of another. -/
def Obligations.EveryCommandAnsweredOnce : Prop :=
  (∀ (i : Instr) (tag : Tag) (code : Byte) (s : State), hostTag? i = some (tag, code) → code ≠ 40 → s.turnOf i →
    ∃ (t : State) (a : Answer), exec i s = .next t ∧ t.lnk.replies = s.lnk.replies ++ [⟨tag, code, a.status, a.data, a.follow⟩] ∧
      t.lnk.buffer = answerPlace (takePlace tag s.lnk.buffer)) ∧
  (∀ (i : Instr) (tag : Tag) (code : Byte) (s : State), hostTag? i = some (tag, code) → ¬ s.turnOf i →
    exec i s = .next s) ∧
  ∀ (i : Instr) (s t : State), hostTag? i = none → exec i s = .next t → i ≠ .resetCompletion → i ≠ .packetBoundary →
    (∀ lines, i ≠ .powerOnReset lines) → t.lnk.replies = s.lnk.replies

/-- R177: a refused command has no effect: but for its own REPLY, which is the last of the queue, the state is as before.
R176: a payload longer or shorter than the command's arguments is answered REFUSED_ARG, whatever the command. -/
def Obligations.RefusedCommandChangesNothing : Prop :=
  (∀ (i : Instr) (tag : Tag) (code : Byte) (s t : State) (r : Reply), hostTag? i = some (tag, code) → s.turnOf i →
    exec i s = .next t → t.lnk.replies = s.lnk.replies ++ [r] → 0x10 ≤ r.status.code.toNat →
    t = s.replied tag code ⟨r.status, r.data, []⟩) ∧
  ∀ (i : Instr) (tag : Tag) (code : Byte) (s : State), hostTag? i = some (tag, code) → s.turnOf i →
    wrongLength? i = true → exec i s = .next (s.replied tag code (answer .refusedArg))

/-- R182: a working table changes only at an SOF, and at once while INTAKE is or enters STOPPED (a PATH_STOP, a commit or
a reset there); but for power-on reset it then takes the pending copy of a commit that was pending. R6: the frame number
moves only at a FRAME_START that opens a frame, by one modulo 65,536, and at RESET FULL and power-on reset, to 0. -/
def Obligations.FrameNumberAndTablesMoveOnlyAtFrameStart : Prop :=
  (∀ (i : Instr) (s t : State), exec i s = .next t → t.intake.fn ≠ s.intake.fn →
    (i = .frameStart ∧ s.intake.mode ≠ .stopped ∧ t.intake.fn = (s.intake.fn + 1) % 65536) ∨
    (t.intake.fn = 0 ∧ ((∃ tag, i = .reset tag (.args 1)) ∨ ∃ lines, i = .powerOnReset lines))) ∧
  ∀ (i : Instr) (s t : State) (id : Nat), s.lnk.tables.length = 14 → exec i s = .next t →
    t.working id ≠ s.working id → (∀ lines, i ≠ .powerOnReset lines) →
    t.working id = (s.table id).pending ∧ (t.table id).valid = true ∧
    ((i = .frameStart ∧ s.intake.mode ≠ .stopped ∧ (s.table id).commitPending = true) ∨
      (∃ tag p, i = .pathStop tag p ∧ s.intake.mode ≠ .stopped ∧ (s.table id).commitPending = true) ∨
      (s.intake.mode = .stopped ∧ ((∃ tag p, i = .tableCommit tag p) ∨ ∃ tag p, i = .reset tag p)))

/-- R58, R60, R66, R68, R75 to R77: a motor's position changes only by one step at a step boundary, toward the destination
of the move that runs there (that of its new target by the backlash rule of R61, when the move is retarget-due), or to a
reference point in a LENS_REFERENCE, or at power-on reset, and only one motor's at a time; a valid flag becomes true only
in a LENS_REFERENCE. -/
def Obligations.LensMovesOnlyInSteps : Prop :=
  (∀ (i : Instr) (s t : State) (m : Motor), exec i s = .next t → (t.lds.motor m).pos ≠ (s.lds.motor m).pos →
    (∃ sample b x, i = .stepBoundary sample b ∧ s.lds.running = some x ∧ x.motor = m ∧
        (let p := (s.lds.motor m).pos
         let backlash := match m with | .zoom => s.lds.params.zoomBacklash | .focus => s.lds.params.focusBacklash | .iris => 0
         let dest := if ¬ x.retarget then x.dest else if x.target < p then x.target - backlash else x.target
         (t.lds.motor m).pos = if p < dest then p + 1 else p - 1) ∧
        ∀ n, n ≠ m → (t.lds.motor n).pos = (s.lds.motor n).pos) ∨
    (∃ sample, i = .referenceStep sample ∧ (t.lds.motor m).pos = referencePoint s.lds.params m ∧
        (t.lds.motor m).valid = true ∧ ∀ n, n ≠ m → t.lds.motor n = s.lds.motor n) ∨
    ∃ lines, i = .powerOnReset lines) ∧
  ∀ (i : Instr) (s t : State) (m : Motor), exec i s = .next t → (s.lds.motor m).valid = false →
    (t.lds.motor m).valid = true → ∃ sample, i = .referenceStep sample

/-- R15, R140: the frame memory is written only by a LINE of a frame in progress, and only in the bytes of its stored
line, the packed line of the output window in the FILLING slot (the address within the slot is the model's choice, log
entry 14); power-on reset leaves it as the model's log entry 14 says. -/
def Obligations.FrameMemoryWrittenOnlyByLines : Prop :=
  (∀ (i : Instr) (s t : State), exec i s = .next t → (∀ pixels, i ≠ .line pixels) → (∀ lines, i ≠ .powerOnReset lines) →
    t.cst.dram = s.cst.dram) ∧
  ∀ (pixels : List Nat) (s t : State) (k : Nat), exec (.line pixels) s = .next t →
    memRead t.cst.dram k ≠ memRead s.cst.dram k →
    s.intake.mode = .inFrame ∧ s.intake.lineCounter < s.intake.geometry.h ∧
    ∃ i x, s.cst.slots[i]? = some x ∧ x.state = .filling ∧ (∀ z ∈ s.cst.slots.take i, z.state ≠ .filling) ∧
      s.pxp.cropY ≤ s.intake.lineCounter ∧ s.intake.lineCounter < s.pxp.cropY + s.intake.geometry.outH ∧
      let first := i * (268435456 / s.cst.slots.length) +
        (s.intake.lineCounter - s.pxp.cropY) * (s.intake.geometry.outW * 3 / 2)
      first ≤ k ∧ k < first + s.intake.geometry.outW * 3 / 2

/-- R164, R165, R168: in latch mode LATCHED a set latch stays set, with a count that does not fall, until
CONDITIONS_CLEAR, CONDITIONS_SETUP or a reset. -/
def Obligations.LatchesHeldUntilCleared : Prop :=
  ∀ (i : Instr) (s t : State) (k : Nat), exec i s = .next t → (s.cnd.condition k).mode = .latched →
    (s.cnd.condition k).latch = true → (s.cnd.condition k).count ≤ 255 →
    (∀ tag p, i ≠ .conditionsClear tag p) → (∀ tag p, i ≠ .conditionsSetup tag p) → (∀ tag p, i ≠ .reset tag p) →
    (∀ lines, i ≠ .powerOnReset lines) →
    (t.cnd.condition k).latch = true ∧ (s.cnd.condition k).count ≤ (t.cnd.condition k).count

/-! ### Arithmetic of the blocks -/

/-- R12 to R14: pixel x of line y, of mosaic channel ch, leaves the three stages as the rules compute it, whatever the
line's other pixels; dg(d) is 256 × 2^(d/16) rounded to the nearest integer, for d = 0..31. -/
def Obligations.PixelStages : Prop :=
  (∀ d < 32, (2 * digitalGain d - 1) ^ 16 ≤ 512 ^ 16 * 2 ^ d ∧ 512 ^ 16 * 2 ^ d < (2 * digitalGain d + 1) ^ 16) ∧
  ∀ (p : Pxp) (g : Geometry) (y : Nat) (line : List Nat) (x raw : Nat) (black : Channels), p.black = some black →
    line.getD x 0 = raw → x < line.length →
    let ch := 2 * (y % 2) + x % 2
    let level := if ch = 0 then black.r else if ch = 1 then black.gr else if ch = 2 then black.gb else black.b
    let gain := match p.shading with
      | some ⟨_, some t⟩ => tbl16 t (8 * (32 * (24 * y / g.h) + 32 * x / g.w) + 2 * ch)
      | _ => 1024
    (correctFrom p g y 0 line)[x]? =
      some (min 4095 ((min 4095 (((raw - level) * gain + 512) / 1024) * p.dg + 128) / 256))

/-- R41: the level of a zone mean Z is 16e + m, e the position of its highest bit and m the sixteenth of the octave. -/
def Obligations.ZoneLevel : Prop :=
  (∀ z e, 2 ^ e ≤ max z 1 → max z 1 < 2 ^ (e + 1) →
    16 * (max z 1 - 2 ^ e) / 2 ^ e ≤ 15 ∧ zoneLevel z = 16 * e + 16 * (max z 1 - 2 ^ e) / 2 ^ e) ∧
  (∀ z ≤ 4095, ∃ e ≤ 11, 2 ^ e ≤ max z 1 ∧ max z 1 < 2 ^ (e + 1)) ∧ (∀ z ≤ 4095, zoneLevel z ≤ 191) ∧
  zoneLevel 0 = 0 ∧ zoneLevel 1 = 0 ∧ zoneLevel 4095 = 191 ∧ ∀ z, 1 ≤ z → zoneLevel (2 * z) = zoneLevel z + 16

/-- R46, R47: a walk takes its segments in order, each raising its control by the smaller of the remainder and the
distance to its limit, the pinned one skipping APERTURE; whatever allowed segments a program has, it shares the total
exposure out whole among its controls and the remainder, keeps each control within its range, and the split of the total
gain is whole. -/
def Obligations.WalkSharesExposure : Prop :=
  (∀ (k : WalkLimits) (gs : List Segment) (g : Segment) (x a : Nat), segmentAllowed g = true →
    let limit := match g.limit with
      | 0 => min g.v (match g.control with | 0 => k.tMax | 1 => 47 | _ => k.gMax)
      | 1 => k.aW
      | 2 => k.tLim
      | _ => k.gMax
    let raised := fun w : Walk => match g.control with
      | 0 => ({ w with tI := w.tI + min w.r (limit - w.tI), r := w.r - min w.r (limit - w.tI) } : Walk)
      | 1 => { w with aI := w.aI + min w.r (limit - w.aI), r := w.r - min w.r (limit - w.aI) }
      | _ => { w with gI := w.gI + min w.r (limit - w.gI), r := w.r - min w.r (limit - w.gI) }
    desiredWalk k [] x = ⟨0, 0, 0, x⟩ ∧ desiredWalk k (gs ++ [g]) x = raised (desiredWalk k gs x) ∧
    pinnedWalk k [] x a = ⟨0, a, 0, x - a⟩ ∧
    pinnedWalk k (gs ++ [g]) x a = if g.control = 1 then pinnedWalk k gs x a else raised (pinnedWalk k gs x a)) ∧
  ∀ (k : WalkLimits) (gs : List Segment) (x a gAMax : Nat), (∀ g ∈ gs, segmentAllowed g = true) → k.aW ≤ 47 →
    k.tLim ≤ k.tMax → k.gMax = gAMax + 31 →
    (let w := desiredWalk k gs x
     w.tI + w.aI + w.gI + w.r = x ∧ w.tI ≤ k.tMax ∧ w.aI ≤ 47 ∧ w.gI ≤ k.gMax) ∧
    (let w := pinnedWalk k gs x a
     w.tI + w.gI + w.r = x - a ∧ w.aI = a ∧ w.tI ≤ k.tMax ∧ w.gI ≤ k.gMax ∧
     let set := splitGain w.tI a w.gI gAMax
     set.tI = w.tI ∧ set.iris = a ∧ set.gA + set.gD = w.gI ∧ set.gA ≤ gAMax ∧ set.gD ≤ 31 ∧ (set.gD ≠ 0 → set.gA = gAMax))

/-- R39, R116: AEC reads aW and hT in the row of the zoom position, row 32 while it is invalid, 47 and 255 while the table
is; inf and near at a zoom position are the rows' values on the row, lie between those of the two rows and within half a
step of the straight line elsewhere, and inf is never greater than near. R110: a segment ends at the next multiple of 64
beyond the position in the direction of travel, or at a nearer target. -/
def Obligations.ZoomRowArithmetic : Prop :=
  (∀ (m : Memory) (i : Nat), zoomRowOf m i =
    { aW := tbl8 m (8 * i), hT := tbl8 m (8 * i + 1), k := tbl16 m (8 * i + 2), inf := tbl16 m (8 * i + 4)
      near := tbl16 m (8 * i + 6) }) ∧
  (∀ s : State,
    let row := zoomRowOf (s.working zoomId) (if s.lds.zoom.valid = true then min 32 (s.lds.zoom.pos / 64) else 32)
    s.aWNow = (if s.tableValid zoomId = true then row.aW else 47) ∧
    s.hTNow = (if s.tableValid zoomId = true then row.hT else 255)) ∧
  (∀ p t : Nat,
    (p < t → p < segmentEnd p t ∧ segmentEnd p t ≤ t ∧ (segmentEnd p t % 64 = 0 ∨ segmentEnd p t = t) ∧
      ∀ q, p < q → q < segmentEnd p t → q % 64 ≠ 0) ∧
    (t < p → segmentEnd p t < p ∧ t ≤ segmentEnd p t ∧ (segmentEnd p t % 64 = 0 ∨ segmentEnd p t = t) ∧
      ∀ q, q < p → segmentEnd p t < q → q % 64 ≠ 0)) ∧
  ∀ (s : State) (p : Nat), p ≤ 2048 →
    (∀ i ≤ 32, (zoomRowOf (s.working zoomId) i).inf ≤ (zoomRowOf (s.working zoomId) i).near) →
    let a := zoomRowOf (s.working zoomId) (p / 64)
    let b := zoomRowOf (s.working zoomId) (p / 64 + 1)
    s.infAt p ≤ s.nearAt p ∧
    (p % 64 = 0 → s.infAt p = a.inf ∧ s.nearAt p = a.near) ∧
    (p % 64 ≠ 0 →
      min a.inf b.inf ≤ s.infAt p ∧ s.infAt p ≤ max a.inf b.inf ∧
      min a.near b.near ≤ s.nearAt p ∧ s.nearAt p ≤ max a.near b.near ∧
      (64 * (s.infAt p : Int) - (64 * a.inf + ((b.inf : Int) - a.inf) * (p % 64 : Nat))).natAbs ≤ 32 ∧
      (64 * (s.nearAt p : Int) - (64 * a.near + ((b.near : Int) - a.near) * (p % 64 : Nat))).natAbs ≤ 32)

/-- R132: the crop is the centre of the margin moved by r × ppu / 256 rounded to the nearest even integer, halves toward
the centre, held to the margin; so it is even and within the margin. -/
def Obligations.CropIsEvenWithinMargin : Prop :=
  ∀ (margin ppu : Nat) (r : Int), margin % 4 = 0 →
    let v := cropWish margin r ppu - (margin / 2 : Nat)
    v % 2 = 0 ∧ (256 * v - r * ppu).natAbs ≤ 256 ∧
    ((256 * v - r * ppu).natAbs = 256 → (256 * v).natAbs < (r * ppu).natAbs) ∧
    cropOf margin r ppu ≤ margin ∧ cropOf margin r ppu % 2 = 0 ∧
    ((0 ≤ cropWish margin r ppu ∧ cropWish margin r ppu ≤ margin) → (cropOf margin r ppu : Int) = cropWish margin r ppu) ∧
    (cropWish margin r ppu < 0 → cropOf margin r ppu = 0) ∧
    (margin < cropWish margin r ppu → cropOf margin r ppu = margin) ∧
    (cropClamped margin r ppu = true ↔ cropWish margin r ppu < 0 ∨ margin < cropWish margin r ppu) ∧
    (r * ppu = 0 → cropOf margin r ppu = margin / 2)

/-- R141: the ready list holds exactly the READY and HELD slots, each once, and in storing order where the orders lie in
one half of the circle of numbers. -/
def Obligations.ReadyListHoldsReadySlots : Prop :=
  ∀ slots : List Slot,
    (readyList slots).Nodup ∧
    (∀ i, i ∈ readyList slots ↔ ∃ x, slots[i]? = some x ∧ (x.state = .ready ∨ x.state = .held)) ∧
    ∀ base, (∀ x ∈ slots, x.state = .ready ∨ x.state = .held →
        ∃ d ≤ 2147483647, x.order = (base + d) % 4294967296) →
      (readyList slots).Pairwise fun i j => ∀ x y, slots[i]? = some x → slots[j]? = some y →
        ¬ ∃ d, 1 ≤ d ∧ d ≤ 2147483647 ∧ x.order = (y.order + d) % 4294967296

/-- R17 to R25: a frame measured line by line leaves in each zone the sum of the values of its cells, the zone mean being
that sum over the number of cells, rounded down, and the count of its pixels at 4,095, held at 65,535; the highlight mask
is the set of zones whose count is above the threshold; and an enabled window, clipped to the grid, has the sum of the
terms of its green pixels, line by line, held at 4,294,967,295 with the SAT mark beyond it, and the mean of its cells. -/
def Obligations.StatsOfAFrame : Prop :=
  ∀ (m : Measurement) (lines : List (List Nat)) (zw zh : Nat), m.zw = 2 * zw → m.zh = 2 * zh → 0 < zw → 0 < zh →
    m.zoneSums = List.replicate 192 0 → m.clipped = List.replicate 192 0 → m.figures = List.replicate 8 ⟨0, false, 0⟩ →
    m.evenPairs = [] → lines.length % 2 = 0 → 24 * zh ≤ lines.length → (∀ l ∈ lines, 32 * zw ≤ l.length) →
    let n := lines.zipIdx.foldl (fun n l => measureLine n l.2 l.1) m
    let pixel := fun y x => (lines.getD y []).getD x 0
    (∀ r < 12, ∀ c < 16,
      (zoneMeans n)[16 * r + c]? =
        some ((((List.range zh).map fun v => ((List.range zw).map fun u =>
          cellValueOf lines (c * zw + u) (r * zh + v)).sum).sum) / (zw * zh)) ∧
      n.clipped[16 * r + c]? =
        some (min 65535 ((List.range (2 * zh)).map fun v => (List.range (2 * zw)).countP fun u =>
          decide (pixel (2 * zh * r + v) (2 * zw * c + u) = 4095)).sum)) ∧
    (∀ i, i ∈ highlightMask n ↔ i < 192 ∧ m.clip < n.clipped.getD i 0) ∧ (highlightMask n).Pairwise (· < ·) ∧
    ∀ k < 8, ∀ w, m.windows[k]? = some w →
      let columns := min w.nc (16 - w.fc)
      let rows := min w.nr (12 - w.fr)
      let term := fun v j =>
        let y := 2 * zh * w.fr + v
        let x := 2 * zw * w.fc + 2 * j + (if y % 2 = 0 then 1 else 0)
        distance (pixel y (x + 2)) (pixel y x) - m.noise
      let total := ((List.range (2 * zh * rows)).map fun v => ((List.range (zw * columns - 1)).map (term v)).sum).sum
      let cells := ((List.range (zh * rows)).map fun v => ((List.range (zw * columns)).map fun u =>
        cellValueOf lines (zw * w.fc + u) (zh * w.fr + v)).sum).sum
      (windowRecords n)[k]? = some (if w.enabled
        then ⟨true, min 4294967295 total, decide (4294967295 < total), cells / (zw * zh * columns * rows), columns, rows⟩
        else ⟨false, 0, false, 0, 0, 0⟩)

/-! ### Frames and lines (chapters 1, 2) -/

/-- FRAME_START (R6, R11 to R15, R17, R132, R136). In STOPPED it is discarded. In WAITING the frame number goes on by one
modulo 65,536, the line counter is 0 and the timeout restarts; PXP takes the black levels, the band of the zoom position
(0 while the zoom is invalid) with its working table, dg of the frame's gD and the crop of the residuals; STATS opens a
measurement on the values in force; the oldest blur record leaves the queue; SHIFT_LIMIT latches where the clamp acts on
the crop of either axis. In IN_FRAME the frame in progress first ends truncated. The order of the blocks at an SOF is the
model's choice (log entry 9). -/
def Obligations.FrameStartOpensFrame : Prop :=
  (∀ s : State, s.intake.mode = .stopped → exec .frameStart s = .next s) ∧
  (∀ s : State, s.intake.mode = .waiting →
    let z := s.lds.zoom
    let band := if z.valid = false ∨ z.pos < s.intake.b1 then 0 else if z.pos < s.intake.b2 then 1
      else if z.pos < s.intake.b3 then 2 else 3
    let marginX := s.intake.geometry.w - s.intake.geometry.outW
    let marginY := s.intake.geometry.h - s.intake.geometry.outH
    let clamped := cropClamped marginX s.mou.yaw.residual s.mou.params.ppu = true ∨
      cropClamped marginY s.mou.pitch.residual s.mou.params.ppu = true
    ∃ t, exec .frameStart s = .next t ∧
    t.intake = { s.intake with
      mode := .inFrame, fn := (s.intake.fn + 1) % 65536, lineCounter := 0, timer := some s.intake.timeout
      lastSof := some ((s.intake.fn + 1) % 65536) } ∧
    t.pxp.black = some s.intake.black ∧
    t.pxp.shading = some ⟨band, if t.tableValid band then some (t.working band) else none⟩ ∧
    t.pxp.dg = digitalGain t.aec.frame.gD ∧
    t.pxp.cropX = cropOf marginX s.mou.yaw.residual s.mou.params.ppu ∧
    t.pxp.cropY = cropOf marginY s.mou.pitch.residual s.mou.params.ppu ∧
    t.cnd.condition condShiftLimit =
      (if clamped then cndRaise (cndSof s.cnd) condShiftLimit else cndSof s.cnd).condition condShiftLimit ∧
    (clamped → s.cnd.conditions.length = 25 → (t.cnd.condition condShiftLimit).latch = true) ∧
    t.stats = { s.stats with
      measure := some
        { w := s.intake.geometry.w, h := s.intake.geometry.h, zw := 2 * (s.intake.geometry.w / 32)
          zh := 2 * (s.intake.geometry.h / 24), clip := s.stats.clip, noise := s.stats.noise, windows := s.afc.windows
          zoneSums := List.replicate 192 0, clipped := List.replicate 192 0, figures := List.replicate 8 ⟨0, false, 0⟩
          evenPairs := [] } } ∧
    t.mou = { s.mou with queue := s.mou.queue.tail } ∧
    (∀ m, (t.lds.motor m).pos = (s.lds.motor m).pos) ∧ t.cst.dram = s.cst.dram ∧
    t.lnk = { s.lnk with tables := t.lnk.tables } ∧ t.choices = s.choices) ∧
  ∀ s : State, s.intake.mode = .inFrame → s.cnd.conditions.length = 25 → ∃ u t, u = truncateFrame s .newStart ∧
    u.intake.mode = .waiting ∧ u.stats.measure = none ∧ (∀ x ∈ u.cst.slots, x.state ≠ .filling) ∧
    (u.cnd.condition condFrameTruncated).latch = true ∧ exec .frameStart s = .next t ∧ exec .frameStart u = .next t ∧
    t.intake.mode = .inFrame ∧ t.intake.fn = (s.intake.fn + 1) % 65536

/-- What a FRAME_START has AEC and CST do (R11, R35, R36, R38, R39, R49, R51, R84, R142, R144, R146 to R148, R150 to R154,
R161, R182). AEC drops the records older than the one in effect, judges SETTLED, fixes the frame's exposure and metering
copy, and begins the write sequence that is due. A record's SHIFT_LIMIT is set by a crop clamp (R132), and the subject
mask is R84's. CST tests the gate, which passes, waits or expires, and then stores, skips or misses the frame: a PRE frame
within the ring of N_pre, any other behind the skip filter, in the lowest-numbered FREE slot, or under OVERWRITE in that
of the oldest READY frame of another capture. The order of the blocks is the model's choice (log entry 9), though R182
puts the committed tables first. So are these: a freed slot keeps its storing order (log entry 41) and the rest of its
record is cleared (72), and the first storing order is 1, the counter being advanced before it is given (16); the index of
a PRE frame comes from the model's own count of PRE frames filed (17), and its skipped-before count is 0 (18); the facts
of AFC in a record are those before AFC's own work at the SOF (44); the items of a write sequence are fixed when it starts
(12); and one that starts while an item abandoned by a reset is still on the bus leaves that item there and waits for it
to end (33, the model's deduction). -/
def Obligations.ExposureAndStoreAtFrameStart : Prop :=
  (∀ a b, a < 65536 → b < 65536 → (fnLater a b = true ↔ ∃ d, 1 ≤ d ∧ d ≤ 32767 ∧ a = (b + d) % 65536)) ∧
  (∀ s : State, s.intake.mode = .waiting →
    let n := (s.intake.fn + 1) % 65536
    let applied := applyCommits (s.setIntake { s.intake with
      mode := .inFrame, fn := n, lineCounter := 0, timer := some s.intake.timeout, lastSof := some n })
    let u := applied.setCnd (cndSof applied.cnd)
    let v := mouSof (aecSof u u.afc.subjectMask)
    let w := cstSof (statsSof (pxpSof v.1)) v.2
    exec .frameStart s = .next (afcSof w v.2.blurred w.aec.frame.settled).grant ∧
    v.2.blur = u.mou.queue.head? ∧
    (v.2.blurred = true ↔ ∃ b, u.mou.queue.head? = some b ∧ u.mou.params.blurLimit < max b.yaw b.pitch) ∧
    (v.2.cropClamped = true ↔
      cropClamped (s.intake.geometry.w - s.intake.geometry.outW) s.mou.yaw.residual s.mou.params.ppu = true ∨
      cropClamped (s.intake.geometry.h - s.intake.geometry.outH) s.mou.pitch.residual s.mou.params.ppu = true) ∧
    (∀ z, z ∈ u.afc.subjectMask ↔ z < 192 ∧ ∃ k x, u.afc.windows[k]? = some x ∧
      (if u.afc.state = .locked ∨ u.afc.state = .monitor then u.afc.primary = some k else x.enabled = true) ∧
      x.fc ≤ z % 16 ∧ z % 16 < x.fc + x.nc ∧ x.fr ≤ z / 16 ∧ z / 16 < x.fr + x.nr) ∧
    v.2.afState = u.afc.state ∧
    v.2.primary = (if u.afc.state = .locked ∨ u.afc.state = .monitor then u.afc.primary else none) ∧
    v.2.primaryFigure = if u.afc.state = .locked ∨ u.afc.state = .monitor then u.afc.primaryFigure else none) ∧
  (∀ (s : State) (subject : List Nat) (kept : List InFlight),
    let later := fun r : InFlight => fnLater r.effective s.intake.fn
    ((∀ r ∈ s.aec.inFlight, later r = true) ∧ kept = s.aec.inFlight) ∨
      (∃ older r rest, s.aec.inFlight = older ++ r :: rest ∧ later r = false ∧ (∀ x ∈ rest, later x = true) ∧
        kept = r :: rest) →
    let counted := s.aec.state = .run ∨ s.aec.state = .held
    let settled := if counted then s.aec.settled else decide (s.aec.state ≠ .fault) && s.aec.latest.isSome &&
      kept.all (fun r => !later r) && s.aec.awaiting.isNone && s.aec.retry.isNone && s.aec.sequence.isNone
    let aE := min (if s.lds.iris.valid then s.lds.iris.pos else 0) s.aWNow
    let frame : FrameExposure := match kept.find? fun r => !later r with
      | some ⟨_, x, program, mark⟩ =>
        ⟨x.tI, aE, x.gA, x.gD, x.tI + aE + x.gA + x.gD, program, mark, s.aec.state, settled⟩
      | none => ⟨0, aE, 0, 0, aE, .live, none, s.aec.state, settled⟩
    let k := 4 + s.aec.params.weightTable
    let weights := if s.tableValid k then (List.range 192).map (tbl8 (s.working k)) else List.replicate 192 1
    let a := { s.aec with
      inFlight := kept, settled := settled, frame := frame, copy := ⟨weights, s.aec.params.boost, subject⟩
      irisMoved := s.lds.moving .iris }
    let c := if counted then s.cnd else cndSetLevel s.cnd condAeSettled settled
    let m := s.working sensorWriteId
    let items := fun x : Setting => (List.range (tbl8 m 1)).map fun j =>
      let lines := tbl16 (s.working timeId) (2 + 2 * x.tI)
      let gain := tbl16 (s.working againId) (2 + 2 * x.gA)
      (⟨tbl8 m 0, tbl16 m (2 + 4 * j), BitVec.ofNat 8 (match tbl8 m (4 + 4 * j) with
        | 0 => lines / 256
        | 1 => lines
        | 2 => gain / 256
        | 3 => gain
        | _ => tbl8 m (5 + 4 * j))⟩ : SensorItem)
    let begun := fun (i : Issue) (retry : Bool) => (s.setAec { a with
      awaiting := none, retry := none, sequence := some ⟨i, items i.setting, retry⟩
      bus := match s.aec.bus with | some b => some b | none => (items i.setting).head?.map fun x => ⟨x, true⟩ }).setCnd c
    (s.aec.sequence.isSome = true ∨ (s.aec.retry = none ∧ s.aec.awaiting = none) →
      aecSof s subject = (s.setAec a).setCnd c) ∧
    (s.aec.sequence = none → tbl8 m 1 ≠ 0 →
      (∀ i, s.aec.retry = some i → aecSof s subject = begun i true) ∧
      ∀ i, s.aec.retry = none → s.aec.awaiting = some i → aecSof s subject = begun i false)) ∧
  (∀ (s : State) (f : FrameFacts),
    let g := s.cst.params.gate
    let passes := s.aec.frame.mark = some s.cst.trigger ∧ (g.aeSettled = true → s.aec.frame.settled = true) ∧
      (g.afLocked = true → s.afc.state = .locked ∨ s.afc.state = .monitor) ∧
      (g.shakeOk = true → s.mou.shake = .still ∨ s.mou.shake = .normal)
    let mine := fun x : Slot => x.part = .pre ∧ x.captureId = s.cst.captureId
    let ring := s.cst.slots.countP fun x => decide (mine x ∧ (x.state = .ready ∨ x.state = .held ∨ x.state = .sending))
    let victim := (readyList s.cst.slots).find? fun i =>
      decide ((s.cst.slots.getD i freeSlot).state = .ready ∧ mine (s.cst.slots.getD i freeSlot))
    let pre := fun u : State =>
      if ring < u.cst.params.nPre then storeFrame u .pre f 0
      else match victim with | some i => storeFrame (freeSlotAt u i) .pre f 0 | none => missFrame u .pre
    let filter := s.cst.params.filter
    let filtered := (filter.blurred = true ∧ f.blurred = true) ∨ (filter.irisMoving = true ∧ s.lds.moving .iris = true) ∨
      (filter.zoomMoving = true ∧ s.lds.moving .zoom = true) ∨ (filter.focusMoving = true ∧ s.lds.moving .focus = true) ∨
      (filter.aeUnsettled = true ∧ s.aec.frame.settled = false)
    let part := if s.cst.params.mode = .stream then Part.stream else .post
    (s.cst.state = .idle → cstSof s f = s) ∧
    (s.cst.state = .armed → cstSof s f = pre s) ∧
    (s.cst.state = .capturing → cstSof s f =
      if filtered ∧ s.cst.skips < s.cst.params.skipMax
      then s.setCst { s.cst with
        skips := s.cst.skips + 1, counters := { s.cst.counters with skipped := s.cst.counters.skipped + 1 } }
      else storeFrame (s.setCst { s.cst with skips := 0 }) part f s.cst.skips) ∧
    (s.cst.state = .gating → passes →
      cstSof s f = cstSof (s.setCst { s.cst with state := .capturing, forced := false }) f) ∧
    (s.cst.state = .gating → ¬ passes → s.cst.gateCount ≠ s.cst.params.gateTimeout →
      let u := s.setCst { s.cst with gateCount := s.cst.gateCount + 1 }
      cstSof s f = if s.cst.params.mode = .pretrigger then pre u else u) ∧
    (s.cst.state = .gating → ¬ passes → s.cst.gateCount = s.cst.params.gateTimeout →
      (s.cst.params.timeoutAction = .proceed →
        cstSof s f = cstSof (s.setCst { s.cst with state := .capturing, forced := true }) f) ∧
      (s.cst.params.timeoutAction = .cancel →
        cstSof s f = cstSof (passWithheld (((s.raise condTriggerTimeout).setAec { s.aec with
          program := .live, markDue := false }).setCst { s.cst with
            state := if s.cst.params.mode = .pretrigger then .armed else .idle, forced := false })) f))) ∧
  (∀ (s : State) (part : Part) (f : FrameFacts) (skipped : Nat),
    let g := s.intake.geometry
    let k := s.cst.counters
    let order := (s.cst.order + 1) % 4294967296
    let opened := fun (u : State) (i : Nat) =>
      let rec_ : FrameRecord :=
        { fn := s.intake.fn, captureId := s.cst.captureId, part := part
          index := match part with | .stream => k.storedStream + 1 | .pre => k.filedPre + 1 | .post => k.storedPost + 1
          outW := g.outW, outH := g.outH, length := g.outW * g.outH * 3 / 2, exposure := s.aec.frame, zoom := s.lds.zoom
          focus := s.lds.focus, iris := s.lds.iris
          moving := ⟨s.lds.moving .zoom, s.lds.moving .focus, s.lds.moving .iris⟩, afState := f.afState
          primary := f.primary, primaryFigure := f.primaryFigure, shake := s.mou.shake, stab := s.mou.mode, blur := f.blur
          cropX := s.pxp.cropX, cropY := s.pxp.cropY, skippedBefore := skipped
          forced := s.cst.forced && decide (part = .post), blurred := f.blurred, trackLimit := s.zmc.trackLimit
          shiftLimit := f.cropClamped, clippedSubject := false }
      let slots := u.cst.slots.set i ⟨.filling, some rec_, false, false, s.cst.captureId, part, order, .free⟩
      (u.setCst { u.cst with order := order, slots := slots }).setCnd (cndSetLevel u.cnd condStoreFull
        (decide (∀ x ∈ slots, x.state ≠ .free)))
    let none_ := ∀ x ∈ s.cst.slots, x.state ≠ .free
    let victim := (readyList s.cst.slots).find? fun i =>
      decide ((s.cst.slots.getD i freeSlot).state = .ready ∧ (s.cst.slots.getD i freeSlot).captureId ≠ s.cst.captureId)
    (∀ i x, s.cst.slots[i]? = some x → x.state = .free → (∀ y ∈ s.cst.slots.take i, y.state ≠ .free) →
      storeFrame s part f skipped = opened s i) ∧
    (∀ i, none_ → s.cst.params.overflow = .overwrite → victim = some i →
      storeFrame s part f skipped = opened (freeSlotAt s i) i) ∧
    (none_ → s.cst.params.overflow = .stop ∨ victim = none → storeFrame s part f skipped = missFrame s part)) ∧
  (∀ (s : State) (i : Nat) (x : Slot), s.cst.slots[i]? = some x →
    freeSlotAt s i = (s.setCst { s.cst with slots := s.cst.slots.set i { freeSlot with order := x.order } }).setCnd
      (cndSetLevel s.cnd condStoreFull false)) ∧
  (∀ (s : State) (part : Part),
    let n := if part = .post then s.cst.counters.post + 1 else s.cst.counters.post
    let u := s.setCst { s.cst with counters := { s.cst.counters with missed := s.cst.counters.missed + 1, post := n } }
    let done := s.cst.state = .capturing ∧ s.cst.params.mode ≠ .stream ∧ s.cst.params.nAfter ≤ n
    missFrame s part = if done then passWithheld (((u.raise condCaptureDone).setAec { s.aec with
      program := .live, markDue := false }).setCst { u.cst with state := .idle, forced := false }) else u) ∧
  ∀ s : State,
    let u := s.setCst { s.cst with withheldRelease := false }
    (s.cst.withheldRelease = false ∨ s.cst.state = .gating ∨ s.cst.state = .capturing → passWithheld s = s) ∧
    (s.cst.withheldRelease = true → s.cst.state = .idle ∨ s.cst.state = .armed →
      s.cst.s1.debounced = true ∨ s.afc.state = .idle ∨ s.afc.state = .monitor ∨ s.afc.state = .failed → passWithheld s = u) ∧
    (s.cst.withheldRelease = true → s.cst.state = .idle ∨ s.cst.state = .armed → s.cst.s1.debounced = false →
      (s.afc.state = .locked → s.aec.state ≠ .held → passWithheld s = u.setAfc { s.afc with
        state := .idle, primary := none, lock := none, primaryFigure := none, frame := none }) ∧
      (s.afc.state = .coarse ∨ s.afc.state = .fine ∨ s.afc.state = .settle → ∀ tag, u.turnOf (.afCancel tag (.args ())) →
        ∃ v, exec (.afCancel tag (.args ())) u = .next v ∧ passWithheld s = v.setLnk s.lnk))

/-- LINE (R7, R12 to R15, R17, R140, R189). Outside IN_FRAME it is discarded; one beyond the programmed height latches
LINE_ERROR and nothing else. Any other is fitted to the sensor width, a short one padded with its last pixel (0 for an
empty line) and a long one cut, goes through the three stages to the measurement, and, where it lies in the output window
of a frame being stored, its columns of the window are packed two pixels in three bytes at the address of its stored line
in the FILLING slot (that slot i begins at i times the slot size, and the lines follow each other from there, is the
model's choice, log entry 14); a length other than the sensor width latches LINE_ERROR. -/
def Obligations.LineIsMeasuredAndStored : Prop :=
  (∀ (pixels : List Nat) (s : State), s.intake.mode ≠ .inFrame → exec (.line pixels) s = .next s) ∧
  (∀ (pixels : List Nat) (s : State), s.intake.mode = .inFrame → s.intake.geometry.h ≤ s.intake.lineCounter →
    exec (.line pixels) s = .next (s.raise condLineError)) ∧
  ∀ (pixels : List Nat) (s : State), s.FramesFit → memWf s.cst.dram = true → s.intake.mode = .inFrame →
    s.intake.lineCounter < s.intake.geometry.h →
    let y := s.intake.lineCounter
    let g := s.intake.geometry
    let fitted := (List.range s.intake.geometry.w).map fun x => if x < pixels.length then pixels.getD x 0 else pixels.getLastD 0
    let line := correctFrom s.pxp s.intake.geometry y 0 fitted
    line.length = s.intake.geometry.w ∧ ∃ t, exec (.line pixels) s = .next t ∧
      t.intake = { s.intake with lineCounter := y + 1 } ∧
      t.stats = { s.stats with measure := s.stats.measure.map fun m => measureLine m y line } ∧
      ((∀ x ∈ s.cst.slots, x.state ≠ .filling) ∨ y < s.pxp.cropY ∨ s.pxp.cropY + g.outH ≤ y → t.cst = s.cst) ∧
      (∀ i x, s.cst.slots[i]? = some x → x.state = .filling → (∀ z ∈ s.cst.slots.take i, z.state ≠ .filling) →
        s.pxp.cropY ≤ y → y < s.pxp.cropY + g.outH →
        let first := i * (268435456 / s.cst.slots.length) + (y - s.pxp.cropY) * (g.outW * 3 / 2)
        let pixel := fun j => line.getD (s.pxp.cropX + j) 0
        (∀ k, k < first ∨ first + g.outW * 3 / 2 ≤ k → memRead t.cst.dram k = memRead s.cst.dram k) ∧
        (∀ j, 2 * j + 1 < g.outW → s.pxp.cropX + 2 * j + 1 < g.w →
          memRead t.cst.dram (first + 3 * j) = BitVec.ofNat 8 (pixel (2 * j) / 16) ∧
          memRead t.cst.dram (first + 3 * j + 1) =
            BitVec.ofNat 8 (pixel (2 * j) % 16 * 16 + pixel (2 * j + 1) / 256) ∧
          memRead t.cst.dram (first + 3 * j + 2) = BitVec.ofNat 8 (pixel (2 * j + 1) % 256)) ∧
        { t.cst with dram := s.cst.dram } = s.cst) ∧
      t.cnd = (if pixels.length = s.intake.geometry.w then s.cnd else cndRaise s.cnd condLineError) ∧
      (((t.setIntake s.intake).setStats s.stats).setCst s.cst).setCnd s.cnd = s

/-- FRAME_END (R8, R9, R20, R26, R29, R30, R127, R149, R154, R159) and FRAME_TIMEOUT (R10). Outside IN_FRAME FRAME_END is
discarded. A short frame ends truncated: nothing is measured, the FILLING slot is freed, the shake class is judged, a
sample frame is passed over with its discard counter as it was (R89, R102), and AEC takes an EOF without a zone set, which
in RUN and HELD sets both counters to 0 (R40) and in OFF and LOCKED issues the manual setting (R52) or the copy (R53) that
is due. A complete frame is divided and its shake interval is closed; its zone set goes to AEC and its figures to AFC
(their statements say what each makes of it; a disturbance that AEC sends at the same EOF reaches AFC before or after the
figures, log entry 6); and its slot becomes READY, or HELD by the hold mask, with its record completed (CLIPPED_SUBJECT is
false where AEC made no stage 3, R142), the frame counted by its part and the notices and CAPTURE_DONE latched. The
timeout latches SENSOR_STALL, ends a frame in progress truncated, and restarts. The model's choices: the order of the
blocks at an EOF (log entry 10); a filed PRE frame advances the model's own count and not the stored count that STATUS
reports (17); a stage 3 of LOCKED gives CLIPPED_SUBJECT (48); the copy of LOCKED is issued at a truncated frame too (20);
a withheld setting or mark stays waiting (47); a freed slot keeps its storing order (41) and the rest of its record is
cleared (72); a FRAME_TIMEOUT with no timeout running does nothing (2). -/
def Obligations.FrameEndsCompleteOrTruncated : Prop :=
  let shaken := fun u : Mou => { u with
    shake := if ¬ u.sampleSeen then u.shake else if u.panSeen then .panning else if u.peak < u.params.stillRef then .still
      else if u.params.shakyRef ≤ u.peak then .shaky else .normal
    peak := 0, panSeen := false, sampleSeen := false }
  let cut := fun s : State =>
    let u := ((s.setIntake { s.intake with mode := .waiting }).setMou (shaken s.mou)).setStats { s.stats with measure := none }
    let r := (aecEof u none).1
    ((r.setAfc { r.afc with
      frame := none
      scan := r.afc.scan.map fun sc => { sc with wait := match sc.wait with | .eof _ => .sof | w => w } }).setCst { s.cst with
        slots := s.cst.slots.map fun x => if x.state = .filling then { freeSlot with order := x.order } else x }).setCnd
      (if ∃ x ∈ s.cst.slots, x.state = .filling then cndSetLevel r.cnd condStoreFull false else r.cnd)
  (∀ u : State,
    let a := u.aec
    let waits := (∃ r ∈ a.inFlight, fnLater r.effective u.intake.fn = true) ∨ a.awaiting.isSome = true ∨
      a.retry.isSome = true ∨ a.sequence.isSome = true
    let scanning := u.afc.state = .coarse ∨ u.afc.state = .fine
    let settled := decide (a.params.settleCount = 0)
    let issued := fun (b : Aec) (x : Setting) => (u.setAec { b with
      awaiting := some ⟨x, b.program, if b.program = .capture then some b.trigger else none⟩, markDue := false
      settled := false }).setCnd (cndSetLevel u.cnd condAeSettled false)
    (waits ∨ a.state = .fault → aecEof u none = (u, false, false)) ∧
    (¬ waits → a.state = .run ∨ a.state = .held →
      aecEof u none = ((u.setAec { a with settledCount := 0, breakCount := 0, settled := settled }).setCnd
        (cndSetLevel u.cnd condAeSettled settled), false, false)) ∧
    (¬ waits → a.state = .locked ∨ (a.state = .off ∧ a.manual = none) →
      (a.latest = none ∨ a.markDue = false ∨ scanning → aecEof u none = (u, false, false)) ∧
      ∀ x, a.latest = some x → a.markDue = true → ¬ scanning → aecEof u none = (issued a x, false, false)) ∧
    ∀ x, ¬ waits → a.state = .off → a.manual = some x →
      (a.markDue = false → a.latest = some x → aecEof u none = (u.setAec { a with manual := none }, false, false)) ∧
      (a.markDue = true ∨ a.latest ≠ some x → scanning → aecEof u none = (u, false, false)) ∧
      (a.markDue = true ∨ a.latest ≠ some x → ¬ scanning →
        let v := issued { a with manual := none } x
        aecEof u none = (if u.lds.iris.valid = true ∧ u.lds.hasMoveToward .iris x.iris = false
          then (v.setLds (ldsPlace u.lds .iris ⟨.iris, x.iris, 0⟩)).grant else v, false, false))) ∧
  (∀ s : State, s.intake.mode ≠ .inFrame → exec .frameEnd s = .next s) ∧
  (∀ s : State, s.intake.mode = .inFrame → s.intake.lineCounter < s.intake.geometry.h →
    ∃ t, exec .frameEnd s = .next t ∧ t = (cut s).raise condFrameTruncated ∧
      t.intake = { s.intake with mode := .waiting } ∧ t.stats = { s.stats with measure := none } ∧ t.mou = shaken s.mou ∧
      (s.cnd.conditions.length = 25 → (t.cnd.condition condFrameTruncated).latch = true) ∧
      (∀ x ∈ t.cst.slots, x.state ≠ .filling) ∧ t.pxp = s.pxp ∧ t.lnk = s.lnk ∧ t.cst.dram = s.cst.dram) ∧
  (∀ (s : State) (m : Measurement), s.SlotsPartitioned → s.intake.mode = .inFrame →
    s.intake.geometry.h ≤ s.intake.lineCounter → s.stats.measure = some m →
    ∃ t, exec .frameEnd s = .next t ∧ t.intake = { s.intake with mode := .waiting } ∧ t.stats.measure = none ∧
      (s.stats.rate = 0 → t.stats.waiting = s.stats.waiting ∧ t.stats.divider = s.stats.divider) ∧
      (s.stats.rate ≠ 0 → s.stats.divider + 1 < s.stats.rate →
        t.stats.waiting = s.stats.waiting ∧ t.stats.divider = s.stats.divider + 1) ∧
      (s.stats.rate ≠ 0 → s.stats.rate ≤ s.stats.divider + 1 → t.stats.divider = 0 ∧
        t.stats.waiting = some (statsPacket m s.intake.fn s.stats.replaced) ∧
        t.stats.replaced = if s.stats.waiting.isSome then min 65535 (s.stats.replaced + 1) else s.stats.replaced) ∧
      t.mou = shaken s.mou ∧ t.pxp = s.pxp ∧ t.lnk = s.lnk ∧
      let r := aecEof (((s.setIntake t.intake).setMou t.mou).setStats t.stats) (some ⟨zoneMeans m, highlightMask m⟩)
      let figures := fun u => (afcFigures u s.intake.fn (windowRecords m)).grant
      let disturbed := fun u => (afcDisturbance u).grant
      (∃ v, t = cstEof v r.2.2 ∧ (r.2.1 = false → v = figures r.1) ∧
        (r.2.1 = true → v = figures (disturbed (r.1.setChoices v.choices)) ∨
          v = disturbed (figures (r.1.setChoices v.choices)))) ∧
      ((∀ x ∈ s.cst.slots, x.state ≠ .filling) → t.cst = s.cst) ∧
      ∀ (i : Nat) (x : Slot) (rec : FrameRecord), s.cst.slots[i]? = some x → x.state = .filling → x.record = some rec →
        let h := s.cst.params.hold
        let held := (h.forced && rec.forced) || (h.blurred && rec.blurred) || (h.clippedSubject && r.2.2) ||
          (h.shiftLimit && rec.shiftLimit) || (h.trackLimit && rec.trackLimit) || (h.aeUnsettled && !rec.exposure.settled)
        let k := s.cst.counters
        let counted : Counters := match x.part with
          | .stream => { k with storedStream := k.storedStream + 1 }
          | .pre => { k with filedPre := k.filedPre + 1 }
          | .post => { k with storedPost := k.storedPost + 1, post := k.post + 1 }
        let done := s.cst.state = .capturing ∧ s.cst.params.mode ≠ .stream ∧ s.cst.params.nAfter ≤ counted.post
        let ready := s.cst.params.notice = .every ∨ (s.cst.params.notice = .first ∧ s.cst.noticeArmed = true)
        t.cst = { s.cst with
          slots := s.cst.slots.set i { x with
            state := if held then .held else .ready, record := some { rec with clippedSubject := r.2.2 } }
          counters := counted
          noticeArmed := s.cst.noticeArmed && !decide (s.cst.params.notice = .first ∧ held = false)
          state := if done then .idle else s.cst.state
          forced := s.cst.forced && !decide done
          withheldRelease := s.cst.withheldRelease && !decide done } ∧
        t.cnd.condition condFrameReady = (if held = false ∧ ready then (cndRaise s.cnd condFrameReady).condition condFrameReady
          else s.cnd.condition condFrameReady) ∧
        t.cnd.condition condFrameHeld = (if held = true ∧ s.cst.params.notice ≠ .none
          then (cndRaise s.cnd condFrameHeld).condition condFrameHeld else s.cnd.condition condFrameHeld) ∧
        t.cnd.condition condCaptureDone = (if done then (cndRaise s.cnd condCaptureDone).condition condCaptureDone
          else s.cnd.condition condCaptureDone) ∧
        (done → t.aec.program = .live ∧ t.aec.markDue = false)) ∧
  (∀ s : State, s.intake.timer = none → exec .frameTimeout s = .next s) ∧
  (∀ s : State, s.intake.timer.isSome = true → s.intake.mode ≠ .inFrame →
    exec .frameTimeout s =
      .next ((s.raise condSensorStall).setIntake { s.intake with timer := some s.intake.timeout })) ∧
  ∀ s : State, s.intake.timer.isSome = true → s.intake.mode = .inFrame →
    ∃ t, exec .frameTimeout s = .next t ∧
      t = ((cut (s.raise condSensorStall)).raise condFrameTruncated).setIntake t.intake ∧
      t.intake = { s.intake with mode := .waiting, timer := some s.intake.timeout } ∧
      t.stats = { s.stats with measure := none } ∧ t.mou = shaken s.mou ∧
      (s.cnd.conditions.length = 25 →
        (t.cnd.condition condSensorStall).latch = true ∧ (t.cnd.condition condFrameTruncated).latch = true) ∧
      (∀ x ∈ t.cst.slots, x.state ≠ .filling) ∧ t.pxp = s.pxp ∧ t.lnk = s.lnk ∧ t.cst.dram = s.cst.dram

/-- PATH_SETUP (R2, R3): a geometry in the ranges of R2 whose stored frame fits a slot, boundaries that still rise once
clamped, and, with INTAKE running, the geometry in force. The black levels, boundaries and timeout are clamped; a new
geometry centres the crop. STATS_SETUP (R28): the three parameters are clamped and written at once and the divider set to
0; the waiting packet, and the copy by which the frame in progress is measured, stay as they are. -/
def Obligations.PathAndStatsSetup : Prop :=
  (∀ (s : State) (tag : Tag) (a : StatsSetupArgs), s.turnOf (.statsSetup tag (.args a)) →
    exec (.statsSetup tag (.args a)) s =
      .next ((s.setStats { s.stats with
        clip := min 65535 a.clip, noise := min 255 a.noise, rate := min 15 a.rate, divider := 0 }).replied tag 4
        (answer (if a.clip ≤ 65535 ∧ a.noise ≤ 255 ∧ a.rate ≤ 15 then .done else .doneClamped)))) ∧
  ∀ (s : State) (tag : Tag) (a : PathSetupArgs),
    let b1 := max 1 (min 2048 a.b1)
    let b2 := max 1 (min 2048 a.b2)
    let b3 := max 1 (min 2048 a.b3)
    let timeout := max 10 (min 1000 a.timeout)
    let g := a.geometry
    let allowed := (640 ≤ g.w ∧ g.w ≤ 5120 ∧ g.w % 2 = 0) ∧ (480 ≤ g.h ∧ g.h ≤ 3840 ∧ g.h % 2 = 0) ∧
      (320 ≤ g.outW ∧ g.outW ≤ g.w ∧ g.outW % 2 = 0 ∧ (g.w - g.outW) % 4 = 0) ∧
      (240 ≤ g.outH ∧ g.outH ≤ g.h ∧ g.outH % 2 = 0 ∧ (g.h - g.outH) % 4 = 0)
    let fits := g.outW * g.outH * 3 / 2 ≤ 268435456 / s.cst.slots.length
    let black : Channels := ⟨min 1023 a.black.r, min 1023 a.black.gr, min 1023 a.black.gb, min 1023 a.black.b⟩
    s.turnOf (.pathSetup tag (.args a)) →
    (allowed → fits → b1 < b2 → b2 < b3 → (s.intake.mode = .stopped ∨ a.geometry = s.intake.geometry) →
      exec (.pathSetup tag (.args a)) s = .next (((s.setIntake { s.intake with
        geometry := a.geometry, black := black, b1 := b1, b2 := b2, b3 := b3
        timeout := timeout }).setPxp
          (if a.geometry = s.intake.geometry then s.pxp
           else { s.pxp with cropX := (a.geometry.w - a.geometry.outW) / 2, cropY := (a.geometry.h - a.geometry.outH) / 2 })).replied
        tag 1 (answer (if black = a.black ∧ b1 = a.b1 ∧ b2 = a.b2 ∧ b3 = a.b3 ∧ timeout = a.timeout
          then .done else .doneClamped)))) ∧
    (¬ allowed ∨ ¬ fits ∨ b2 ≤ b1 ∨ b3 ≤ b2 →
      exec (.pathSetup tag (.args a)) s = .next (s.replied tag 1 (answer .refusedArg))) ∧
    (allowed → fits → b1 < b2 → b2 < b3 → s.intake.mode ≠ .stopped → a.geometry ≠ s.intake.geometry →
      exec (.pathSetup tag (.args a)) s = .next (s.replied tag 1 (answer .refusedState)))

/-- PATH_START (R4), and the sensor packets that INTAKE discards while it waits for the next FRAME_START. PATH_STOP (R5,
R102, R144, R158, R161, R182). In STOPPED it is answered and changes nothing, which R5 says and R144 and R158 do not (log
entry 60, the model's choice). Otherwise INTAKE is STOPPED with no timeout; no frame is measured or stored; the store is
IDLE and tells AEC of a triggered capture's end; a fetch is aborted unless its final line is being sent, its slot
returning to the state it had, or freed under AUTO release once sent whole; every pending commit is applied; and a scan in
hand ends, its AF move cancelled and AF_ABORTED latched (u is the state once a frame in progress has ended truncated).
That an S1 release withheld by the store then ends the scan first, with no AF_ABORTED, is the model's choice (log entry
58), and so is what a freed slot keeps: its storing order alone (log entries 41, 72). -/
def Obligations.PathStartsAndStops : Prop :=
  (∀ (s : State) (tag : Tag), s.turnOf (.pathStart tag (.args ())) → s.intake.mode = .stopped →
    exec (.pathStart tag (.args ())) s = .next ((s.setIntake { s.intake with
      mode := .waiting, timer := some s.intake.timeout }).replied tag 2 (answer .done))) ∧
  (∀ (s : State) (tag : Tag), s.turnOf (.pathStart tag (.args ())) → s.intake.mode ≠ .stopped →
    exec (.pathStart tag (.args ())) s = .next (s.replied tag 2 (answer .refusedState))) ∧
  (∀ (s : State) (pixels : List Nat), s.intake.mode = .waiting →
    exec (.line pixels) s = .next s ∧ exec .frameEnd s = .next s) ∧
  (∀ s : State, s.intake.mode = .waiting → ∃ t, exec .frameStart s = .next t ∧ t.intake.mode = .inFrame) ∧
  (∀ (s : State) (tag : Tag), s.turnOf (.pathStop tag (.args ())) → s.intake.mode = .stopped →
    exec (.pathStop tag (.args ())) s = .next (s.replied tag 3 (answer .done))) ∧
  ∀ (s : State) (tag : Tag), s.turnOf (.pathStop tag (.args ())) → s.intake.mode ≠ .stopped →
    s.lnk.tables.length = 14 → s.SlotsPartitioned →
    let aborts := s.cst.fetch.isSome = true ∧ sendingFinal s.lnk = false
    let passes := s.cst.withheldRelease = true ∧ s.cst.state ≠ .idle ∧ s.cst.s1.debounced = false
    ∃ u t, u = (if s.intake.mode = .inFrame then truncateFrame s .stopped else s) ∧
      (s.aec.manual = none → u.afc.state = s.afc.state ∧ u.lds = s.lds ∧
        u.cnd.condition condAfAborted = s.cnd.condition condAfAborted) ∧ exec (.pathStop tag (.args ())) s = .next t ∧
      t.intake = { s.intake with mode := .stopped, timer := none } ∧
      t.stats = { s.stats with measure := if s.intake.mode = .inFrame then none else s.stats.measure } ∧
      t.cst = { s.cst with
        state := .idle
        forced := if s.cst.state = .idle then s.cst.forced else false
        withheldRelease := if s.cst.state = .idle then s.cst.withheldRelease else false
        fetch := if aborts then s.cst.fetch.bind fun f => if f.image then some { f with aborted := true, record := none } else none
          else s.cst.fetch
        slots := t.cst.slots } ∧
      t.cst.slots = s.cst.slots.map (fun x =>
        if x.state = .filling then { freeSlot with order := x.order }
        else if x.state = .sending ∧ aborts then
          if s.cst.params.release = .auto ∧ x.before = .ready ∧ x.recordSent = true ∧ x.imageSent = true
          then { freeSlot with order := x.order } else { x with state := x.before }
        else x) ∧
      (s.cst.state = .gating ∨ (s.cst.state = .capturing ∧ s.cst.params.mode ≠ .stream) →
        t.aec.program = .live ∧ t.aec.markDue = false) ∧
      (u.afc.state = .coarse ∨ u.afc.state = .fine ∨ u.afc.state = .settle →
        t.afc.state = .idle ∧ t.afc.scan = none ∧
        t.lds = { u.lds with
          slots := { u.lds.slots with af := none }, stack := u.lds.stack.filter fun x => decide (x.source ≠ .af)
          running := u.lds.running.map fun m => if m.source = .af then { m with stop := true } else m } ∧
        (¬ passes → t.cnd.condition condAfAborted = (cndRaise u.cnd condAfAborted).condition condAfAborted) ∧
        (passes → t.cnd.condition condAfAborted = u.cnd.condition condAfAborted)) ∧
      (u.afc.state ≠ .coarse → u.afc.state ≠ .fine → u.afc.state ≠ .settle →
        t.cnd.condition condAfAborted = u.cnd.condition condAfAborted ∧ t.lds = u.lds ∧
        t.afc.state = if passes ∧ u.afc.state = .locked then .idle else u.afc.state) ∧
      (∀ id, t.table id = if (s.table id).commitPending
        then { s.table id with working := (s.table id).pending, valid := true, commitPending := false } else s.table id) ∧
      t.lnk = { (s.replied tag 3 (answer .done)).lnk with tables := t.lnk.tables } ∧ t.pxp = s.pxp ∧
      t.cst.dram = s.cst.dram ∧ (∀ m, (t.lds.motor m).pos = (s.lds.motor m).pos)

/-! ### Exposure (chapter 3) -/

/-- AE_MODE (R32, R48). A mode equal to the state, or RUN while AFC scans and AEC is HELD, changes nothing. One that
changes the state sets both counters to 0 and judges SETTLED by the rule of the new state, which AE_SETTLED follows; it
keeps a manual setting only into OFF, clears the failures when it leaves FAULT, and cancels an IRIS move if there is one.
AE_SETUP (R34) and AE_MANUAL (R52): the clamped parameters; the clamped manual setting, split by stage 7, waits. -/
def Obligations.AeCommandsSetStateAndSettings : Prop :=
  (∀ (s : State) (tag : Tag) (n : Nat) (mode : AeState), s.turnOf (.aeMode tag (.args n)) →
     ((n = 0 ∧ mode = .off) ∨ (n = 3 ∧ mode = .locked) ∨
       (n = 1 ∧ mode = if s.afc.state = .coarse ∨ s.afc.state = .fine then .held else .run)) →
     (n ≠ 0 → s.tableValid timeId = true ∧ s.tableValid againId = true ∧ s.tableValid sensorWriteId = true) →
     (n = 1 → s.tableValid programLiveId = true ∧ s.lds.iris.valid = true) →
     (mode = s.aec.state → exec (.aeMode tag (.args n)) s = .next (s.replied tag 5 (answer .done))) ∧
     (mode ≠ s.aec.state →
       let settled := match mode with
         | .run => decide (s.aec.params.settleCount = 0)
         | .held => decide (s.aec.params.settleCount = 0)
         | _ => s.aec.latest.isSome && s.aec.inFlight.all (fun r => !fnLater r.effective s.intake.fn) &&
             s.aec.awaiting.isNone && s.aec.retry.isNone && s.aec.sequence.isNone
       let t := (s.setAec { s.aec with
         state := mode, settledCount := 0, breakCount := 0, settled := settled
         manual := if mode = .off then s.aec.manual else none
         failures := if s.aec.state = .fault then 0 else s.aec.failures
         retryFlag := if s.aec.state = .fault then false else s.aec.retryFlag }).setCnd
           (cndSetLevel s.cnd condAeSettled settled)
       exec (.aeMode tag (.args n)) s =
         .next ((if s.lds.hasMove .iris then t.setLds (ldsCancel s.lds .iris) else t).replied tag 5 (answer .done)))) ∧
  (∀ (s : State) (tag : Tag) (a : AeSetupArgs), s.turnOf (.aeSetup tag (.args a)) → a.weightTable ≤ 3 →
    let p : AeParams :=
      ⟨min 191 a.target, max (-48) (min 48 a.compensation), min 8 a.deadband, max 1 (min 16 a.damping),
        max 1 (min 64 a.maxStep), max 1 (min 8 a.settleCount), min 48 a.hlPull, min 32 a.blLift, min 15 a.boost,
        max 8 (min 96 a.breakLevel), max 1 (min 3 a.latency), a.weightTable⟩
    exec (.aeSetup tag (.args a)) s = .next ((s.setAec { s.aec with params := p }).replied tag 6
      (answer (if p.target = a.target ∧ p.compensation = a.compensation ∧ p.deadband = a.deadband ∧
          p.damping = a.damping ∧ p.maxStep = a.maxStep ∧ p.settleCount = a.settleCount ∧ p.hlPull = a.hlPull ∧
          p.blLift = a.blLift ∧ p.boost = a.boost ∧ p.breakLevel = a.breakLevel ∧ p.latency = a.latency
        then .done else .doneClamped)))) ∧
  (∀ (s : State) (tag : Tag) (a : AeSetupArgs), s.turnOf (.aeSetup tag (.args a)) → 3 < a.weightTable →
    exec (.aeSetup tag (.args a)) s = .next (s.replied tag 6 (answer .refusedArg))) ∧
  (∀ (s : State) (tag : Tag) (a : AeManualArgs), s.turnOf (.aeManual tag (.args a)) → s.aec.state = .off →
    s.tableValid timeId = true → s.tableValid againId = true → s.tableValid sensorWriteId = true →
    let tMax := tbl16 (s.working timeId) 0 - 1
    let gMax := tbl16 (s.working againId) 0 - 1
    let gI := min (gMax + 31) a.gI
    exec (.aeManual tag (.args a)) s = .next ((s.setAec { s.aec with
      manual := some ⟨min tMax a.tI, min 47 a.iris, min gI gMax, gI - min gI gMax⟩ }).replied tag 7
        (answer (if a.tI ≤ tMax ∧ a.iris ≤ 47 ∧ a.gI ≤ gMax + 31 then .done else .doneClamped)))) ∧
  ∀ (s : State) (tag : Tag) (a : AeManualArgs), s.turnOf (.aeManual tag (.args a)) → s.aec.state ≠ .off →
    exec (.aeManual tag (.args a)) s = .next (s.replied tag 7 (answer .refusedState))

/-- AEC at the EOF of a complete frame (R40, R42 to R48, R52, R53, R55, R33). A waiting frame and FAULT do nothing. OFF
issues the waiting manual setting where it differs or a mark is due, and drops one that equals the latest with no mark
due; LOCKED, and OFF without such a setting, issues a copy where a mark is due. Neither issues while AFC is in COARSE or
FINE: R33 withholds every record then, and that the setting and the mark stay waiting is the model's choice (log entry
47). LOCKED reports stages 1 to 4; that it latches AE_LIMIT_LOW in them (log entry 19) and that its stage 3 gives the
frame's CLIPPED_SUBJECT (log entry 48) are the model's deductions. In RUN and HELD a frame of zero weights or with an iris
move is invalid and sets both counters to 0; any other is computed: the weighted mean level, the case adjustment, the
error, the step, the handheld limit, the walk and its limits, the settled counter; RUN issues and requests the iris, the
request being made only when a record is issued (log entry 54, the model's choice); HELD makes the break test. -/
def Obligations.ExposureAtACompleteFrame : Prop :=
  ∀ (s : State) (z : ZoneSet),
    let a := s.aec
    let p := a.params
    let subject := a.copy.subject
    let weight := fun i => if i ∈ subject then min 31 (a.copy.weights.getD i 0 + a.copy.boost) else a.copy.weights.getD i 0
    let weights := ((List.range 192).map weight).sum
    let m := ((List.range 192).map fun i => weight i * zoneLevel (z.means.getD i 0)).sum / weights
    let clipped := decide (∃ i ∈ z.mask, i ∈ subject)
    let adj : Int := if z.mask = [] ∨ subject = [] then 0 else if clipped then -(p.hlPull : Int) else p.blLift
    let target : Int := max 0 (min 191 ((p.target : Int) + p.compensation + adj))
    let e := target - m
    let within := e.natAbs ≤ p.deadband
    let step := Int.tdiv (e * p.damping) 16
    let step := if step = 0 then (if 0 < e then 1 else -1) else step
    let xNew : Int := if within then a.frame.x else a.frame.x + max (-(p.maxStep : Int)) (min p.maxStep step)
    let bonus : Int := (match s.mou.shake with | .still => 16 | .shaky => -16 | _ => 0) + if s.mou.mode = .optical then 32 else 0
    let tMax := tbl16 (s.working timeId) 0 - 1
    let gMax := tbl16 (s.working againId) 0 - 1
    let k : WalkLimits :=
      ⟨tMax, gMax + 31, s.aWNow, (max 0 (min (tMax : Int) ((s.hTNow : Int) + bonus))).toNat⟩
    let program := if a.program = .capture ∧ s.tableValid programCaptureId = true
      then s.working programCaptureId else s.working programLiveId
    let segments := (List.range (tbl8 program 0)).map fun j =>
      (⟨tbl8 program (2 + 2 * j) / 16, tbl8 program (2 + 2 * j) % 16, tbl8 program (3 + 2 * j)⟩ : Segment)
    let x := xNew.toNat
    let w := desiredWalk k segments x
    let usable := s.lds.iris.valid = true ∧ w.aI = s.lds.iris.pos ∧ s.lds.hasMove .iris = false ∧ w.aI ≤ s.aWNow
    let ap := min (if s.lds.iris.valid then s.lds.iris.pos else 0) s.aWNow
    let q := pinnedWalk k segments x ap
    let gains := fun tI gI => (⟨tI, w.aI, min gI gMax, gI - min gI gMax⟩ : Setting)
    let setting := if usable then gains w.tI w.gI else gains q.tI q.gI
    let remainder := if usable then w.r else q.r
    let realized := if usable then x - w.r else q.tI + ap + q.gI
    let walked := ¬ within ∨ a.markDue = true
    let counts := within ∨ ((xNew < 0 ∨ (walked ∧ 0 < remainder)) ∧ realized = a.frame.x)
    let settledCount := if counts then min 8 (a.settledCount + 1) else 0
    let settled := decide (p.settleCount ≤ settledCount)
    let broken := p.breakLevel ≤ e.natAbs
    let waits := (∃ r ∈ a.inFlight, fnLater r.effective s.intake.fn = true) ∨ a.awaiting.isSome = true ∨
      a.retry.isSome = true ∨ a.sequence.isSome = true
    let scanning := s.afc.state = .coarse ∨ s.afc.state = .fine
    let issue := fun y => some (⟨y, a.program, if a.program = .capture then some a.trigger else none⟩ : Issue)
    let requested := fun (u : State) iris => if u.lds.iris.valid = true ∧ u.lds.hasMoveToward .iris iris = false
      then (u.setLds (ldsPlace u.lds .iris ⟨.iris, iris, 0⟩)).grant else u
    let copied := fun u : State => match a.latest with
      | some y => if a.markDue = true ∧ ¬ scanning
        then (u.setAec { u.aec with awaiting := issue y, markDue := false, settled := false }).setCnd
          (cndSetLevel u.cnd condAeSettled false) else u
      | none => u
    let low := fun c => if xNew < 0 then cndRaise c condAeLimitLow else c
    let high := fun c => if walked ∧ 0 < remainder then cndRaise c condAeLimitHigh else c
    let reported := (s.setAec { a with m := m, e := e, tEff := target.toNat }).setCnd (low s.cnd)
    let computed := (s.setAec { a with
      m := m, e := e, tEff := target.toNat, settledCount := settledCount, settled := settled }).setCnd
        (cndSetLevel (high (low s.cnd)) condAeSettled settled)
    (waits ∨ a.state = .fault → aecEof s (some z) = (s, false, false)) ∧
    (¬ waits → a.state = .locked → aecEof s (some z) =
      if weights = 0 then (copied s, false, false) else (copied reported, false, clipped)) ∧
    (¬ waits → a.state = .off → a.manual = none → aecEof s (some z) = (copied s, false, false)) ∧
    (∀ y, ¬ waits → a.state = .off → a.manual = some y → aecEof s (some z) =
      (if a.markDue = true ∨ a.latest ≠ some y
        then if scanning then s
          else requested ((s.setAec { a with manual := none, awaiting := issue y, markDue := false, settled := false }).setCnd
            (cndSetLevel s.cnd condAeSettled false)) y.iris
        else s.setAec { a with manual := none }, false, false)) ∧
    (¬ waits → a.state = .run ∨ a.state = .held → a.irisMoved = true ∨ weights = 0 → aecEof s (some z) =
      ((s.setAec { a with settledCount := 0, breakCount := 0, settled := decide (p.settleCount = 0) }).setCnd
        (cndSetLevel s.cnd condAeSettled (decide (p.settleCount = 0))), false, false)) ∧
    (¬ waits → a.state = .held → a.irisMoved = false → weights ≠ 0 → aecEof s (some z) =
      (computed.setAec { computed.aec with breakCount := if broken ∧ a.breakCount = 0 then 1 else 0 },
        decide (broken ∧ a.breakCount ≠ 0), clipped)) ∧
    (¬ waits → a.state = .run → a.irisMoved = false → weights ≠ 0 →
      let issued := computed.setAec { computed.aec with awaiting := issue setting, markDue := false }
      aecEof s (some z) = (if walked ∧ (a.markDue = true ∨ a.latest ≠ some setting)
        then (if usable then issued else requested issued w.aI) else computed, false, clipped))

/-- The sensor control port (R50, R51, R57). An acknowledged item gives way to the next; the last one completes the
sequence: its record joins the list with the FN of the latest SOF plus the latency, and becomes the latest issued. An item
not acknowledged ends the sequence: its record is kept for retry, or, at a failure that follows another, AEC enters FAULT
and AE_FAULT latches. An item left by a reset only leaves the bus, and a sequence that has begun since then puts its first
item there (log entry 33). That without an item on the bus the event does nothing (log entry 2), that a sequence waits for
an item left by a reset (log entry 33), and that every completed sequence clears the retry flag (log entry 53) are the
model's choice. -/
def Obligations.SensorWritesCompleteOrFail : Prop :=
  (∀ s : State, s.aec.bus = none →
    exec .writeItemAcknowledged s = .next s ∧ exec .writeItemNotAcknowledged s = .next s) ∧
  (∀ (s : State) (b : BusItem), s.aec.bus = some b → b.owned = false → s.aec.sequence = none →
    exec .writeItemAcknowledged s = .next (s.setAec { s.aec with bus := none }) ∧
    exec .writeItemNotAcknowledged s = .next (s.setAec { s.aec with bus := none })) ∧
  (∀ (s : State) (b : BusItem) (w : WriteSequence) (x : SensorItem) (rest : List SensorItem), s.aec.bus = some b →
    b.owned = false → s.aec.sequence = some w → w.items = x :: rest →
    exec .writeItemAcknowledged s = .next (s.setAec { s.aec with bus := some ⟨x, true⟩ }) ∧
    exec .writeItemNotAcknowledged s = .next (s.setAec { s.aec with bus := some ⟨x, true⟩ })) ∧
  (∀ (s : State) (b : BusItem) (w : WriteSequence) (x y : SensorItem) (rest : List SensorItem), s.aec.bus = some b →
    b.owned = true → s.aec.sequence = some w → w.items = x :: y :: rest →
    exec .writeItemAcknowledged s = .next (s.setAec { s.aec with
      bus := some ⟨y, true⟩, sequence := some { w with items := y :: rest } })) ∧
  (∀ (s : State) (b : BusItem) (w : WriteSequence) (x : SensorItem), s.aec.bus = some b → b.owned = true →
    s.aec.sequence = some w → w.items = [x] →
    ∃ t, exec .writeItemAcknowledged s = .next t ∧
      t.aec = { s.aec with
        bus := none, sequence := none, latest := some w.issue.setting, failures := 0, retryFlag := false
        inFlight := s.aec.inFlight ++ [⟨(s.intake.fn + s.aec.params.latency) % 65536, w.issue⟩], settled := t.aec.settled } ∧
      (s.aec.state = .run ∨ s.aec.state = .held → t.aec.settled = s.aec.settled) ∧
      (s.aec.state ≠ .run → s.aec.state ≠ .held → 1 ≤ s.aec.params.latency → s.aec.params.latency ≤ 3 →
        t.aec.settled = false) ∧
      t.cnd = (if t.aec.settled = s.aec.settled ∧ (s.aec.state = .run ∨ s.aec.state = .held) then s.cnd
        else cndSetLevel s.cnd condAeSettled t.aec.settled) ∧
      (t.setAec s.aec).setCnd s.cnd = s) ∧
  (∀ (s : State) (b : BusItem) (w : WriteSequence), s.aec.bus = some b → b.owned = true → s.aec.sequence = some w →
    w.retry = false → s.aec.failures = 0 →
    ∃ t, exec .writeItemNotAcknowledged s = .next t ∧
      t.aec = { s.aec with
        bus := none, sequence := none, retry := some w.issue, retryFlag := true, failures := 1
        settled := t.aec.settled } ∧
      (s.aec.state = .run ∨ s.aec.state = .held → t.aec.settled = s.aec.settled ∧ t.cnd = s.cnd) ∧
      (s.aec.state ≠ .run → s.aec.state ≠ .held → t.aec.settled = false) ∧ (t.setAec s.aec).setCnd s.cnd = s) ∧
  ∀ (s : State) (b : BusItem) (w : WriteSequence), s.cnd.conditions.length = 25 → s.aec.bus = some b → b.owned = true →
    s.aec.sequence = some w → w.retry = true ∨ 1 ≤ s.aec.failures →
    ∃ t, exec .writeItemNotAcknowledged s = .next t ∧
      t.aec = { s.aec with
        bus := none, sequence := none, retry := none, retryFlag := false, failures := s.aec.failures + 1
        manual := none, state := .fault, settled := false } ∧
      (t.cnd.condition condAeFault).latch = true ∧ (t.setAec s.aec).setCnd s.cnd = s

/-! ### Lens drive (chapter 4) -/

/-- LENS_SETUP (R72, R102): only with no move and no reference, which is checked before the arguments (the order of the
two checks is the model's choice, log entry 43); the clamped parameters are written. A home position that moves makes the
focus invalid, and AFC, if it scans or is locked on a valid focus, fails LOST. -/
def Obligations.LensSetupWritesParameters : Prop :=
  ∀ (s : State) (tag : Tag) (a : LensSetupArgs), s.turnOf (.lensSetup tag (.args a)) →
    (s.lds.noMoves = false ∨ s.lds.reference.isSome = true →
      exec (.lensSetup tag (.args a)) s = .next (s.replied tag 8 (answer .refusedBusy))) ∧
    (s.lds.noMoves = true → s.lds.reference = none → (∃ src, 3 < perSource a.levels src) ∨ 3 < a.parkClass ∨
        3 < a.trackClass ∨ 3 < a.afClass →
      exec (.lensSetup tag (.args a)) s = .next (s.replied tag 8 (answer .refusedArg))) ∧
    (s.lds.noMoves = true → s.lds.reference = none → (∀ src, perSource a.levels src ≤ 3) → a.parkClass ≤ 3 →
      a.trackClass ≤ 3 → a.afClass ≤ 3 →
      let p : LensParams := ⟨a.levels, a.parkClass, a.trackClass, a.afClass, min 31 a.zoomBacklash, min 31 a.focusBacklash,
        min 4095 a.homePos, min 15 a.homeTol⟩
      let status := if a.zoomBacklash ≤ 31 ∧ a.focusBacklash ≤ 31 ∧ a.homePos ≤ 4095 ∧ a.homeTol ≤ 15
        then Status.done else .doneClamped
      let lost := p.homePos ≠ s.lds.params.homePos ∧ s.lds.focus.valid = true ∧
        (s.afc.state ≠ .idle ∧ s.afc.state ≠ .failed)
      (p.homePos = s.lds.params.homePos → exec (.lensSetup tag (.args a)) s =
        .next ((s.setLds { s.lds with params := p }).replied tag 8 (answer status))) ∧
      (p.homePos ≠ s.lds.params.homePos → ¬ lost → exec (.lensSetup tag (.args a)) s =
        .next ((s.setLds { s.lds with params := p, focus := ⟨s.lds.focus.pos, false⟩ }).replied tag 8 (answer status))) ∧
      (lost → s.cnd.conditions.length = 25 → ∃ t, exec (.lensSetup tag (.args a)) s = .next t ∧
        t.lds = { s.lds with params := p, focus := ⟨s.lds.focus.pos, false⟩ } ∧ t.afc.state = .failed ∧
        t.afc.failure = some .lost ∧ t.afc.scan = none ∧ t.afc.lock = none ∧
        (t.cnd.condition condAfFailed).latch = true ∧
        (((t.setLds s.lds).setAfc s.afc).setAec s.aec).setCnd s.cnd = s.replied tag 8 (answer status)))

/-- The step periods of R60. FOCUS_MOVE (R73, R60 to R65, R69), in mode MANUAL on a valid focus. With the drive free a
move starts toward the clamped target, through the backlash point when it goes down, and one step period later its first
step is due; at the target already, MOVE_DONE latches at once. While another source's move runs, the request waits in the
slot. -/
def Obligations.FocusMoveRequestsManualMove : Prop :=
  (∀ c < 4, stepPeriod .zoom c = [2000, 1000, 625, 500].getD c 0 ∧ stepPeriod .focus c = [1000, 500, 333, 250].getD c 0 ∧
    stepPeriod .iris c = 1500) ∧
  ∀ (s : State) (tag : Tag) (a : MoveArgs), s.turnOf (.focusMove tag (.args a)) →
    let target := min 4095 a.target
    let accepted := answer (if a.target ≤ 4095 then .accepted else .doneClamped)
    (3 < a.speed → exec (.focusMove tag (.args a)) s = .next (s.replied tag 9 (answer .refusedArg))) ∧
    (a.speed ≤ 3 → s.afc.mode ≠ .manual →
      exec (.focusMove tag (.args a)) s = .next (s.replied tag 9 (answer .refusedState))) ∧
    (a.speed ≤ 3 → s.afc.mode = .manual → s.lds.focus.valid = false →
      exec (.focusMove tag (.args a)) s = .next (s.replied tag 9 (answer .refusedUnreferenced))) ∧
    (a.speed ≤ 3 → s.afc.mode = .manual → s.lds.focus.valid = true → s.lds.noMoves = true → s.lds.reference = none →
      s.lds.focus.pos ≠ target →
      exec (.focusMove tag (.args a)) s = .next ((s.setLds { s.lds with
        running := some
          { source := .manual, motor := .focus, level := s.lds.params.levels.manual, target := target, speed := a.speed
            phase := .main
            dest := if target < s.lds.focus.pos then target - s.lds.params.focusBacklash else target
            stop := false, mute := false, retarget := false }
        timer := some (stepPeriod .focus a.speed) }).replied tag 9 accepted)) ∧
    (a.speed ≤ 3 → s.afc.mode = .manual → s.lds.focus.valid = true → s.lds.noMoves = true → s.lds.reference = none →
      s.lds.focus.pos = target →
      exec (.focusMove tag (.args a)) s = .next ((s.raise condMoveDone).replied tag 9 accepted)) ∧
    (∀ m, a.speed ≤ 3 → s.afc.mode = .manual → s.lds.focus.valid = true → s.lds.running = some m →
      m.source ≠ .manual → (∀ x ∈ s.lds.stack, x.source ≠ .manual) →
      exec (.focusMove tag (.args a)) s = .next ((s.setLds { s.lds with
        slots := { s.lds.slots with manual := some ⟨.focus, target, a.speed⟩ } }).replied tag 9 accepted))

/-- LENS_REFERENCE (R75): with a reference or park in progress it is refused as BUSY, and by its STATE unless AEC is OFF,
AFC IDLE or MANUAL, ZMC IDLE and no move in hand; otherwise all valid flags fall and the iris phase begins; each phase's
step (R76, R77) moves no counted position until its reference point is found, which sets position and valid flag and
begins the next phase, the zoom's ending the reference with MOVE_DONE; a phase whose steps run out latches LENS_FAULT and
gives way to the next. Requests that waited meanwhile are granted at the end (R65). That a reference step with no
reference in progress does nothing is the model's choice (log entry 2). -/
def Obligations.ReferenceFindsPositions : Prop :=
  (∀ (s : State) (tag : Tag), s.turnOf (.lensReference tag (.args ())) → s.lds.reference = none → s.lds.park = none →
    s.aec.state = .off → s.afc.state = .idle ∨ s.afc.mode = .manual → s.zmc.mode = .idle → s.lds.noMoves = true →
    exec (.lensReference tag (.args ())) s = .next ((s.setLds { s.lds with
      zoom := ⟨s.lds.zoom.pos, false⟩, focus := ⟨s.lds.focus.pos, false⟩, iris := ⟨s.lds.iris.pos, false⟩
      reference := some ⟨.iris, 0, true, false⟩, timer := some 1500 }).replied tag 11 (answer .accepted))) ∧
  (∀ (s : State) (tag : Tag), s.turnOf (.lensReference tag (.args ())) →
    (s.lds.reference.isSome = true ∨ s.lds.park.isSome = true →
      exec (.lensReference tag (.args ())) s = .next (s.replied tag 11 (answer .refusedBusy))) ∧
    (s.lds.reference = none → s.lds.park = none → s.aec.state ≠ .off ∨ (s.afc.state ≠ .idle ∧ s.afc.mode ≠ .manual) ∨
        s.zmc.mode ≠ .idle ∨ s.lds.noMoves = false →
      exec (.lensReference tag (.args ())) s = .next (s.replied tag 11 (answer .refusedState)))) ∧
  (∀ (s : State) (sample : LensSample), s.lds.reference = none → exec (.referenceStep sample) s = .next s) ∧
  (∀ (s : State) (sample : LensSample) (r : Reference), s.lds.reference = some r → r.stop = true →
    let u := s.setLds { s.lds with reference := none, timer := none }
    exec (.referenceStep sample) s = .next u.grant ∧ (s.lds.noMoves = true → exec (.referenceStep sample) s = .next u)) ∧
  (∀ (s : State) (sample : LensSample) (n : Nat) (k : Bool), s.lds.reference = some ⟨.iris, n, k, false⟩ →
    ∃ t, exec (.referenceStep sample) s = .next t ∧ t.aec = { s.aec with irisMoved := true } ∧
      (n + 1 < 60 → t.lds = { s.lds with
        reference := some ⟨.iris, n + 1, true, false⟩, timer := some 1500, latched := s.lds.latched }) ∧
      (60 ≤ n + 1 → t.lds = { s.lds with
        iris := ⟨0, true⟩, reference := some ⟨.focus, 0, !s.lds.latched.home, false⟩
        timer := some (stepPeriod .focus s.lds.params.parkClass) }) ∧
      ((t.setAec s.aec).setLds s.lds).setCst s.cst = s) ∧
  (∀ (s : State) (sample : LensSample) (n : Nat) (k : Bool), s.lds.reference = some ⟨.focus, n, k, false⟩ →
    let l := { s.lds with latched := { s.lds.latched with home := sample.home } }
    ∃ t, exec (.referenceStep sample) s = .next t ∧ t.aec = s.aec ∧
      (k = true → sample.home = true → t.cnd = s.cnd ∧ t.lds = { l with
        focus := ⟨s.lds.params.homePos, true⟩, reference := some ⟨.zoom, 0, !s.lds.latched.wide, false⟩
        timer := some (stepPeriod .zoom s.lds.params.parkClass) }) ∧
      (¬ (k = true ∧ sample.home = true) → n + 1 < 4200 → t.cnd = s.cnd ∧ t.lds = { l with
        reference := some ⟨.focus, n + 1, k || !sample.home, false⟩
        timer := some (stepPeriod .focus s.lds.params.parkClass) }) ∧
      (¬ (k = true ∧ sample.home = true) → 4200 ≤ n + 1 → t.cnd = cndRaise s.cnd condLensFault ∧ t.lds = { l with
        reference := some ⟨.zoom, 0, !s.lds.latched.wide, false⟩
        timer := some (stepPeriod .zoom s.lds.params.parkClass) })) ∧
  ∀ (s : State) (sample : LensSample) (n : Nat) (k : Bool), s.lds.reference = some ⟨.zoom, n, k, false⟩ →
    let l := { s.lds with latched := { s.lds.latched with wide := sample.wide, tele := sample.tele } }
    ∃ t, exec (.referenceStep sample) s = .next (if t.lds.reference = none then t.grant else t) ∧ t.aec = s.aec ∧
      (s.lds.noMoves = true → t.grant = t) ∧
      (k = true → sample.wide = true → t.cnd = cndRaise s.cnd condMoveDone ∧
        t.lds = { l with zoom := ⟨8, true⟩, reference := none, timer := none }) ∧
      (¬ (k = true ∧ sample.wide = true) → n + 1 < 2200 → t.cnd = s.cnd ∧ t.lds = { l with
        reference := some ⟨.zoom, n + 1, k || !sample.wide, false⟩
        timer := some (stepPeriod .zoom s.lds.params.parkClass) }) ∧
      (¬ (k = true ∧ sample.wide = true) → 2200 ≤ n + 1 →
        t.cnd = cndRaise (cndRaise s.cnd condLensFault) condMoveDone ∧
        t.lds = { l with reference := none, timer := none })

/-- LENS_PARK (R78, R61, R63 to R65): refused as BUSY with a reference or park in progress, by its STATE unless AEC is
OFF, AFC IDLE or MANUAL, ZMC IDLE and no move in hand, and UNREFERENCED with a motor invalid. Otherwise the iris part is
requested and its move starts; parts already at their targets complete at once, the focus part, down through its backlash
point when the focus stands above home, and the zoom part following, and with all three there MOVE_DONE latches. LENS_STOP
(R74, R70, R77, R79): the requests and suspended moves of PARK and MANUAL go, a running move of theirs is marked for stop,
a reference ends at its next boundary, and a park is cancelled. The other sources keep their moves. -/
def Obligations.ParkRunsAndStops : Prop :=
  (∀ (s : State) (tag : Tag), s.turnOf (.lensStop tag (.args ())) →
    let waits := s.lds.slots.park.isSome || s.lds.stack.any fun x => decide (x.source = .park)
    exec (.lensStop tag (.args ())) s = .next ((s.setLds { s.lds with
      slots := { s.lds.slots with park := none, manual := none }
      stack := s.lds.stack.filter fun x => decide (x.source ≠ .park ∧ x.source ≠ .manual)
      running := s.lds.running.map fun m =>
        if m.source = .park ∨ m.source = .manual then { m with stop := true } else m
      reference := s.lds.reference.map fun r => { r with stop := true }
      park := if waits then none else s.lds.park.map fun p => { p with cancelled := true } }).replied tag 10 (answer .done))) ∧
  (∀ (s : State) (tag : Tag), s.turnOf (.lensPark tag (.args ())) →
    (s.lds.reference.isSome = true ∨ s.lds.park.isSome = true →
      exec (.lensPark tag (.args ())) s = .next (s.replied tag 12 (answer .refusedBusy))) ∧
    (s.lds.reference = none → s.lds.park = none → s.aec.state ≠ .off ∨ (s.afc.state ≠ .idle ∧ s.afc.mode ≠ .manual) ∨
        s.zmc.mode ≠ .idle ∨ s.lds.noMoves = false →
      exec (.lensPark tag (.args ())) s = .next (s.replied tag 12 (answer .refusedState)))) ∧
  ∀ (s : State) (tag : Tag), s.turnOf (.lensPark tag (.args ())) → s.lds.reference = none → s.lds.park = none →
    s.aec.state = .off → s.afc.state = .idle ∨ s.afc.mode = .manual → s.zmc.mode = .idle → s.lds.noMoves = true →
    s.lds.params.homePos ≤ 4095 →
    (s.lds.zoom.valid = false ∨ s.lds.focus.valid = false ∨ s.lds.iris.valid = false →
      exec (.lensPark tag (.args ())) s = .next (s.replied tag 12 (answer .refusedUnreferenced))) ∧
    (s.lds.zoom.valid = true → s.lds.focus.valid = true → s.lds.iris.valid = true →
      (s.lds.iris.pos ≠ 0 → exec (.lensPark tag (.args ())) s = .next ((s.setLds { s.lds with
        park := some ⟨.iris, false⟩
        running := some
          { source := .park, motor := .iris, level := s.lds.params.levels.park, target := 0
            speed := s.lds.params.parkClass, phase := .main, dest := 0, stop := false, mute := false, retarget := false }
        timer := some 1500 }).replied tag 12 (answer .accepted))) ∧
      (s.lds.iris.pos = 0 → s.lds.focus.pos ≠ s.lds.params.homePos →
        exec (.lensPark tag (.args ())) s = .next ((s.setLds { s.lds with
          park := some ⟨.focus, false⟩
          running := some
            { source := .park, motor := .focus, level := s.lds.params.levels.park, target := s.lds.params.homePos
              speed := s.lds.params.parkClass, phase := .main
              dest := if s.lds.params.homePos < s.lds.focus.pos then s.lds.params.homePos - s.lds.params.focusBacklash
                else s.lds.params.homePos
              stop := false, mute := false, retarget := false }
          timer := some (stepPeriod .focus s.lds.params.parkClass) }).replied tag 12 (answer .accepted))) ∧
      (s.lds.iris.pos = 0 → s.lds.focus.pos = s.lds.params.homePos → s.lds.zoom.pos ≠ 0 →
        exec (.lensPark tag (.args ())) s = .next ((s.setLds { s.lds with
          park := some ⟨.zoom, false⟩
          running := some
            { source := .park, motor := .zoom, level := s.lds.params.levels.park, target := 0
              speed := s.lds.params.parkClass, phase := .main, dest := 0, stop := false, mute := false, retarget := false }
          timer := some (stepPeriod .zoom s.lds.params.parkClass) }).replied tag 12 (answer .accepted))) ∧
      (s.lds.iris.pos = 0 → s.lds.focus.pos = s.lds.params.homePos → s.lds.zoom.pos = 0 →
        exec (.lensPark tag (.args ())) s = .next ((s.raise condMoveDone).replied tag 12 (answer .accepted))))

/-- STEP_BOUNDARY (R59 to R61, R65 to R71, R79, R97, R114). The running move, marked for stop, ends with MOVE_STOPPED; a
pending request of strictly better level suspends it where it stands and is granted; a retarget-due move takes its new
target; otherwise one step is taken toward the destination, latching the motor's own sensors, and the move goes on, RETURN
following MAIN, or completes; a sensor edge away from its place makes the motor invalid, ends every move of it, the
running one included, and latches LENS_LOST. The grant that follows an end starts the most urgent request or resumes the
top suspended move. The outcomes of ZOOM and AF moves are in their own statements. The model's choices: with no move
running nothing happens (log entry 2); a cancel arriving with the boundary at which the move would end (log entries 7,
56); a next park part that is not taken or was cancelled (21, 22); a move suspended while retarget-due (55); a drive that
grants at most 64 times (11). -/
def Obligations.StepBoundaryRunsTheMove : Prop :=
  let mainDest := fun (l : Lds) (m : Motor) (target : Nat) =>
    if target < (l.motor m).pos then
      target - (match m with | .zoom => l.params.zoomBacklash | .focus => l.params.focusBacklash | .iris => 0) else target
  let granted := fun (l : Lds) (src : Source) (r : Request) => ({
    source := src, motor := r.motor, level := l.level src, target := r.target, speed := r.speed, phase := .main
    dest := mainDest l r.motor r.target, stop := false, mute := false, retarget := false } : Move)
  let starts := fun (l : Lds) (m : Move) => { l with running := some m, timer := some (stepPeriod m.motor m.speed) }
  let mostUrgent := fun (l : Lds) (src : Source) (r : Request) => l.slots.get src = some r ∧
    ∀ n q, l.slots.get n = some q →
      l.level src < l.level n ∨ (l.level src = l.level n ∧ sourceOrder.idxOf src ≤ sourceOrder.idxOf n)
  let told := fun (u : State) (src : Source) => if src = .zoom then afcZoomGranted u else u
  let parkEnds := fun u : State => u.setLds { u.lds with park := none }
  let parkGoes := fun (u : State) (m : Motor) (target : Nat) => if (u.lds.motor m).valid
    then u.setLds (ldsPlace { u.lds with park := some ⟨m, false⟩ } .park ⟨m, target, u.lds.params.parkClass⟩) else parkEnds u
  let trackEnds := fun u : State => if u.afc.state = .locked ∨ u.afc.state = .monitor
    then u.setAfc { u.afc with
      lock := u.afc.lock.map fun k => { k with taken := false }, monitorCount := 0, frame := none } else u
  (∀ u : State, moveComplete u .manual = u.raise condMoveDone ∧ moveComplete u .iris = u ∧
    moveComplete u .track = trackEnds u ∧ moveStopped u .track = trackEnds u ∧ moveStopped u .park = parkEnds u ∧
    moveStopped u .iris = u ∧ moveStopped u .af = u ∧ moveStopped u .manual = u ∧ moveLost u .park = parkEnds u ∧
    moveLost u .track = u ∧ moveLost u .iris = u ∧ moveLost u .af = u ∧ moveLost u .manual = u ∧
    moveComplete u .park = (match u.lds.park with
      | some ⟨.iris, false⟩ => parkGoes u .focus u.lds.params.homePos
      | some ⟨.focus, false⟩ => parkGoes u .zoom 0
      | some ⟨.zoom, _⟩ => (parkEnds u).raise condMoveDone
      | _ => parkEnds u)) ∧
  (∀ u : State, u.lds.running.isSome = true ∨ u.lds.reference.isSome = true ∨ u.lds.noMoves = true → u.grant = u) ∧
  (∀ (u : State) (src : Source) (r : Request), u.lds.running = none → u.lds.reference = none → mostUrgent u.lds src r →
    (∀ y ∈ u.lds.stack.head?, u.lds.level src < y.level) →
    let l := { u.lds with slots := u.lds.slots.set src none }
    ((u.lds.motor r.motor).pos ≠ r.target → u.grant = told (u.setLds (starts l (granted u.lds src r))) src) ∧
    ((u.lds.motor r.motor).pos = r.target → u.grant = grantLoop 63 (moveComplete (told (u.setLds l) src) src))) ∧
  (∀ (u : State) (y : Suspended) (rest : List Suspended), u.lds.running = none → u.lds.reference = none →
    u.lds.stack = y :: rest → (∀ n q, u.lds.slots.get n = some q → y.level ≤ u.lds.level n) →
    let l := { u.lds with stack := rest }
    let fresh := y.retarget = true ∨ (u.lds.motor y.motor).pos ≠ y.posAt
    let dest := if fresh then mainDest u.lds y.motor y.target else y.dest
    let m : Move := { source := y.source, motor := y.motor, level := y.level, target := y.target, speed := y.speed
                      phase := if fresh then .main else y.phase, dest := dest, stop := false, mute := false, retarget := false }
    let rests := (u.lds.motor y.motor).pos = y.target ∧ y.target = dest
    (¬ rests → u.grant = told (u.setLds (starts l m)) y.source) ∧
    (rests → u.grant = grantLoop 63 (moveComplete (told (u.setLds l) y.source) y.source))) ∧
  (∀ (s : State) (x : LensSample) (b : Bool), s.lds.running = none → exec (.stepBoundary x b) s = .next s) ∧
  ∀ (s : State) (x : LensSample) (b : Bool) (m : Move), s.lds.running = some m →
    let p := (s.lds.motor m.motor).pos
    let released := { s.lds with running := none, timer := none }
    let due := { m with retarget := false, phase := .main, dest := mainDest s.lds m.motor m.target }
    let goal := if m.retarget then due.dest else m.dest
    let next := if p < goal then p + 1 else p - 1
    let outranked := ∃ src r, s.lds.slots.get src = some r ∧ s.lds.level src < m.level
    let completes := ¬ outranked ∧ ((m.retarget = true ∧ p = m.target) ∨ (next = goal ∧ next = m.target))
    (m.stop = true → ¬ (b = true ∧ m.mute = false ∧ completes) → exec (.stepBoundary x b) s =
      .next (if m.mute then s.setLds released else moveStopped (s.setLds released) m.source).grant) ∧
    (m.stop = true → b = true → m.mute = false → completes → exec (.stepBoundary x b) s =
      exec (.stepBoundary x b) (s.setLds { s.lds with running := some { m with stop := false } })) ∧
    (∀ src r, m.stop = false → mostUrgent s.lds src r → s.lds.level src < m.level →
      let l := { released with
        stack := { source := m.source, motor := m.motor, level := m.level, target := m.target, speed := m.speed
                   phase := m.phase, dest := m.dest, posAt := p, retarget := m.retarget } :: s.lds.stack
        slots := s.lds.slots.set src none }
      ((s.lds.motor r.motor).pos ≠ r.target →
        exec (.stepBoundary x b) s = .next (told (s.setLds (starts l (granted s.lds src r))) src)) ∧
      ((s.lds.motor r.motor).pos = r.target →
        exec (.stepBoundary x b) s = .next (moveComplete (told (s.setLds l) src) src).grant)) ∧
    (m.stop = false → ¬ outranked → m.retarget = true →
      (p = m.target → exec (.stepBoundary x b) s = .next (moveComplete (s.setLds released) m.source).grant) ∧
      (p ≠ m.target → exec (.stepBoundary x b) s =
        exec (.stepBoundary x b) (s.setLds { s.lds with running := some due }))) ∧
    (m.stop = false → ¬ outranked → m.retarget = false →
      let upper := max p next
      let near := fun place => distance upper place ≤ s.lds.params.homeTol
      let ok := match m.motor with
        | .zoom => (x.wide = s.lds.latched.wide ∨ near 9) ∧ (x.tele = s.lds.latched.tele ∨ near 2040)
        | .focus => x.home = s.lds.latched.home ∨ near s.lds.params.homePos
        | .iris => True
      let latched : LensSample := match m.motor with
        | .zoom => { s.lds.latched with wide := x.wide, tele := x.tele }
        | .focus => { s.lds.latched with home := x.home }
        | .iris => s.lds.latched
      let flags := fun v : Moving => match m.motor with
        | .zoom => { v with zoom := true }
        | .focus => { v with focus := true }
        | .iris => { v with iris := true }
      let stepped := ((s.setAec { s.aec with irisMoved := s.aec.irisMoved || decide (m.motor = .iris) }).setAfc
        { s.afc with frame := if m.motor = .focus then s.afc.frame.map fun f => { f with stepped := true } else s.afc.frame }).setCst
          { s.cst with slots := s.cst.slots.map fun y => if y.state = .filling
            then { y with record := y.record.map fun r => { r with moving := flags r.moving } } else y }
      let l := { s.lds.setMotor m.motor ⟨next, (s.lds.motor m.motor).valid⟩ with latched := latched }
      let kept := fun r : Option Request => r.filter fun y => decide (y.motor ≠ m.motor)
      let lost := { l.setMotor m.motor ⟨next, false⟩ with
        running := none, timer := none, stack := s.lds.stack.filter fun y => decide (y.motor ≠ m.motor)
        slots := ⟨kept s.lds.slots.park, kept s.lds.slots.track, kept s.lds.slots.zoom, kept s.lds.slots.iris,
          kept s.lds.slots.af, kept s.lds.slots.manual⟩ }
      let losers := m.source :: (sourceOrder.filter fun src => (s.lds.slots.get src).any fun r => decide (r.motor = m.motor)) ++
        (s.lds.stack.filter fun y => decide (y.motor = m.motor)).map (·.source)
      let informed := losers.foldl moveLost ((stepped.setLds lost).raise condLensLost)
      (ok → ¬ (next = m.dest ∧ next = m.target) → exec (.stepBoundary x b) s =
        .next (stepped.setLds (starts l (if next = m.dest then { m with phase := .ret, dest := m.target } else m)))) ∧
      (ok → next = m.dest → next = m.target → exec (.stepBoundary x b) s =
        .next (moveComplete (stepped.setLds { l with running := none, timer := none }) m.source).grant) ∧
      (¬ ok → exec (.stepBoundary x b) s =
        .next (if m.motor = .focus then afcFocusInvalid informed else informed).grant))

/-! ### Focus (chapter 5) -/

/-- AF_SETUP (R83): refused while a scan is in hand, and then where a structural argument is out of its range or SELECTED
names a window that is not enabled; otherwise the arguments, the continuous ones clamped, fine_step against the
coarse_step, and a change of mode, selection, selected window or windows lets go of the lock and leaves LOCKED, MONITOR
and FAILED for IDLE. -/
def Obligations.AfSetupWritesParameters : Prop :=
  let arg := fun (a : AfSetupArgs) (k : Nat) => a.windows.getD k ⟨0, 0, 0, 1, 1⟩
  let refused := fun a : AfSetupArgs => 3 < a.mode ∨ 1 < a.selection ∨ 7 < a.selected ∨
    (∃ k < 8, 1 < (arg a k).enabled) ∨ (a.selection = 0 ∧ (arg a a.selected).enabled = 0)
  (∀ (s : State) (tag : Tag) (a : AfSetupArgs), s.turnOf (.afSetup tag (.args a)) →
    s.afc.state = .coarse ∨ s.afc.state = .fine ∨ s.afc.state = .settle →
    exec (.afSetup tag (.args a)) s = .next (s.replied tag 13 (answer .refusedBusy))) ∧
  (∀ (s : State) (tag : Tag) (a : AfSetupArgs), s.turnOf (.afSetup tag (.args a)) →
    s.afc.state ≠ .coarse → s.afc.state ≠ .fine → s.afc.state ≠ .settle → refused a →
    exec (.afSetup tag (.args a)) s = .next (s.replied tag 13 (answer .refusedArg))) ∧
  ∀ (s : State) (tag : Tag) (a : AfSetupArgs), s.turnOf (.afSetup tag (.args a)) →
    s.afc.state ≠ .coarse → s.afc.state ≠ .fine → s.afc.state ≠ .settle → s.aec.state ≠ .held → ¬ refused a →
    let mode := if a.mode = 0 then AfMode.off else if a.mode = 1 then .single else if a.mode = 2 then .continuous else .manual
    let windows := (List.range 8).map fun k =>
      let w := arg a k
      (⟨decide (w.enabled = 1), min 15 w.fc, min 11 w.fr, max 1 (min 16 w.nc), max 1 (min 12 w.nr)⟩ : Window)
    let coarse := max 8 (min 255 a.coarseStep)
    let f := { s.afc with
      mode := mode, selection := if a.selection = 0 then .selected else .multi, selected := a.selected, windows := windows, coarseStep := coarse
      fineStep := max 1 (min (coarse / 2) a.fineStep), minFigure := min 4294967295 a.minFigure
      monitorFrames := max 1 (min 30 a.monitorFrames), monitorRatio := max 1 (min 15 a.monitorRatio)
      settleTimeout := max 1 (min 255 a.settleTimeout) }
    let same := f.mode = s.afc.mode ∧ f.selection = s.afc.selection ∧ f.selected = s.afc.selected ∧
      f.windows = s.afc.windows
    let kept := (∀ k < 8, let w := arg a k
        w.fc ≤ 15 ∧ w.fr ≤ 11 ∧ 1 ≤ w.nc ∧ w.nc ≤ 16 ∧ 1 ≤ w.nr ∧ w.nr ≤ 12) ∧
      f.coarseStep = a.coarseStep ∧ f.fineStep = a.fineStep ∧ f.minFigure = a.minFigure ∧
      f.monitorFrames = a.monitorFrames ∧ f.monitorRatio = a.monitorRatio ∧ f.settleTimeout = a.settleTimeout
    ∃ status, (status = Status.done ↔ kept) ∧ (status = .doneClamped ↔ ¬ kept) ∧
      (same → exec (.afSetup tag (.args a)) s = .next ((s.setAfc f).replied tag 13 (answer status))) ∧
      (¬ same → exec (.afSetup tag (.args a)) s = .next ((s.setAfc { f with
        primary := none, lock := none, primaryFigure := none, frame := none, rescanAfterZoom := false
        state := .idle }).replied tag 13 (answer status)))

/-- AF_START (R85, R88, R33): refused in its order of checks, the mode, a scan or zoom in hand, the ZOOM table, the focus
and zoom motors, the enabled windows; otherwise AFC enters COARSE on the range of the zoom position with an empty history,
AEC in RUN is HELD with its break counter at 0, and the AF source moves to the end of the range nearer the focus, at which
the first sample is taken. AF_CANCEL (R86, R70): IDLE from every state; a scan's AF move is cancelled; LOCKED, MONITOR and
FAILED let go of the lock; AEC leaves HELD. That in IDLE it clears the rescan flag, as R98 has an AF_CANCEL do while R86
gives it no effect in IDLE, is the model's choice (log entry 37). -/
def Obligations.AfStartAndCancel : Prop :=
  (∀ (s : State) (tag : Tag), s.turnOf (.afCancel tag (.args ())) →
    ∃ t, exec (.afCancel tag (.args ())) s = .next t ∧ t.afc.state = .idle ∧ t.afc.rescanAfterZoom = false ∧
      (s.aec.state = .held → s.afc.state ≠ .idle → t.aec.state = .run) ∧
      (s.aec.state ≠ .held → t.aec = s.aec ∧ t.cnd = s.cnd) ∧
      (s.afc.state = .idle → t = (s.setAfc { s.afc with rescanAfterZoom := false }).replied tag 15 (answer .done)) ∧
      (s.afc.state = .locked ∨ s.afc.state = .monitor ∨ s.afc.state = .failed →
        t.lds = s.lds ∧ t.afc = { s.afc with
          state := .idle, primary := none, lock := none, primaryFigure := none, frame := none
          rescanAfterZoom := false }) ∧
      (s.afc.state = .coarse ∨ s.afc.state = .fine ∨ s.afc.state = .settle →
        t.afc = { s.afc with state := .idle, scan := none, rescanAfterZoom := false } ∧
        t.lds = { s.lds with
          slots := { s.lds.slots with af := none }, stack := s.lds.stack.filter fun x => decide (x.source ≠ .af)
          running := s.lds.running.map fun m => if m.source = .af then { m with stop := true } else m }) ∧
      t.lnk = (s.replied tag 15 (answer .done)).lnk ∧
      ((((t.setAfc s.afc).setLds s.lds).setAec s.aec).setCnd s.cnd).setLnk s.lnk = s) ∧
  ∀ (s : State) (tag : Tag), s.turnOf (.afStart tag (.args ())) →
    (s.afc.mode = .off ∨ s.afc.mode = .manual →
      exec (.afStart tag (.args ())) s = .next (s.replied tag 14 (answer .refusedState))) ∧
    (s.afc.mode ≠ .off → s.afc.mode ≠ .manual → s.afc.state.inScan = true ∨ s.zmc.mode ≠ .idle →
      exec (.afStart tag (.args ())) s = .next (s.replied tag 14 (answer .refusedBusy))) ∧
    (s.afc.mode ≠ .off → s.afc.mode ≠ .manual → s.afc.state.inScan = false → s.zmc.mode = .idle →
      (s.tableValid zoomId = false →
        exec (.afStart tag (.args ())) s = .next (s.replied tag 14 (answer .refusedTable))) ∧
      (s.tableValid zoomId = true → s.lds.focus.valid = false ∨ s.lds.zoom.valid = false →
        exec (.afStart tag (.args ())) s = .next (s.replied tag 14 (answer .refusedUnreferenced))) ∧
      (s.tableValid zoomId = true → s.lds.focus.valid = true → s.lds.zoom.valid = true →
        (∀ w ∈ s.afc.windows.take 8, w.enabled = false) →
        exec (.afStart tag (.args ())) s = .next (s.replied tag 14 (answer .refusedState)))) ∧
    (s.afc.mode ≠ .off → s.afc.mode ≠ .manual → s.afc.state.inScan = false → s.zmc.mode = .idle →
      s.tableValid zoomId = true → s.lds.focus.valid = true → s.lds.zoom.valid = true →
      (enabledWindows s.afc.windows) ≠ [] → 1 ≤ s.afc.coarseStep → s.aec.state ≠ .held → s.lds.noMoves = true → s.lds.reference = none →
      s.nearAt s.lds.zoom.pos ≤ 4095 → s.infAt s.lds.zoom.pos ≤ s.nearAt s.lds.zoom.pos →
      let inf := s.infAt s.lds.zoom.pos
      let near := s.nearAt s.lds.zoom.pos
      let p := s.lds.focus.pos
      let start := if distance p inf ≤ distance near p then inf else near
      let other := if distance p inf ≤ distance near p then near else inf
      ∃ t sc, exec (.afStart tag (.args ())) s = .next t ∧
        t.afc.state = .coarse ∧ t.afc.scan = some sc ∧ t.afc.history = [] ∧ t.afc.restarts = 0 ∧ t.afc.lock = none ∧
        t.afc.range = some (inf, near) ∧
        t.afc.windowSet = ((List.range 8).filter fun k => (s.afc.windows[k]?).any (·.enabled)) ∧
        sc.inf = inf ∧ sc.near = near ∧ sc.next = 1 ∧ sc.positions.head? = some start ∧
        sc.positions.getLast? = some other ∧ sc.positions = stepPositions start other s.afc.coarseStep ∧ (∀ q ∈ sc.positions, inf ≤ q ∧ q ≤ near) ∧
        (p ≠ start → sc.wait = .move ∧ t.lds = { s.lds with
          running := some
            { source := .af, motor := .focus, level := s.lds.params.levels.af, target := start
              speed := s.lds.params.afClass, phase := .main
              dest := if start < p then start - s.lds.params.focusBacklash else start
              stop := false, mute := false, retarget := false }
          timer := some (stepPeriod .focus s.lds.params.afClass) }) ∧
        (p = start → sc.wait = .sof ∧ t.lds = s.lds) ∧
        (s.aec.state = .run → t.aec.state = .held ∧ t.aec.breakCount = 0 ∧ t.aec.settledCount = s.aec.settledCount) ∧
        (s.aec.state ≠ .run → t.aec = s.aec ∧ t.cnd = s.cnd) ∧
        t.lnk = (s.replied tag 14 (answer .accepted)).lnk ∧
        ((((t.setAfc s.afc).setLds s.lds).setAec s.aec).setCnd s.cnd).setLnk s.lnk = s)

/-- AFC's frames (R33, R84, R89, R90, R94 to R96, R99, R100, R102, R104). A scan waits for its move, then for an SOF: a
blurred frame is discarded up to three times, any other is the candidate, whose EOF makes the entry; the 65th entry ends
the scan HISTORY_FULL. A truncated EOF passes a sample, reference or monitored frame over, the discard counter as it was.
A disturbance that finds AFC in COARSE or FINE counts as a restart: the third ends the scan DISTURBED, any other cancels
the AF move and enters SETTLE with the settle counter at 0, the history kept and AEC in RUN again. In SETTLE, SETTLED true
restarts the scan on its range, AEC in RUN being HELD again, and SETTLED false counts. A move that completes begins the
wait for an SOF, and the one to the lock position locks. In LOCKED and MONITOR a frame neither blurred nor stepped gives
N_lock while its taken flag is clear, and MONITOR in CONTINUOUS, and is else compared with it; the monitor counter that
reaches monitor_frames starts a rescan. A completion that leaves a newer request pending is not waited on (R82). That a
frame taken with the discard counter at 3 carries the blurred mark when it is itself blurred (log entry 61), and that an
entry's focus position is the one that stands at the EOF (71), and that D is 0 where the lock position lies below the
scan's inf (73), are the model's choice. -/
def Obligations.FocusSamplesFrames : Prop :=
  let judged := fun u : State => decide (u.aec.params.settleCount ≤ u.aec.settledCount)
  let heldIn := fun u : State => if u.aec.state = .run
    then (u.setAec { u.aec with state := .held, breakCount := 0, settled := judged u }).setCnd
      (cndSetLevel u.cnd condAeSettled (judged u)) else u
  let runsOn := fun u : State => if u.aec.state = .held
    then (u.setAec { u.aec with state := .run, settled := judged u }).setCnd (cndSetLevel u.cnd condAeSettled (judged u))
    else u
  (∀ s : State,
    (s.afc.state ≠ .coarse → s.afc.state ≠ .fine → afcDisturbance s = s) ∧
    (s.afc.state = .coarse ∨ s.afc.state = .fine →
      (3 ≤ s.afc.restarts + 1 →
        afcDisturbance s = afcFail (s.setAfc { s.afc with restarts := s.afc.restarts + 1 }) .disturbed) ∧
      (s.afc.restarts + 1 < 3 → afcDisturbance s =
        runsOn ((s.setAfc { s.afc with restarts := s.afc.restarts + 1, settleCount := 0, state := .settle }).setLds { s.lds with
          slots := { s.lds.slots with af := none }, stack := s.lds.stack.filter fun x => decide (x.source ≠ .af)
          running := s.lds.running.map fun m => if m.source = .af then { m with stop := true } else m }))) ∧
    (s.intake.mode = .inFrame → s.intake.lineCounter < s.intake.geometry.h →
      s.lds.running.isSome = true ∨ s.lds.reference.isSome = true ∨ s.lds.noMoves = true →
      ∃ t, exec .frameEnd s = .next t ∧ t.afc = { s.afc with
        frame := none
        scan := s.afc.scan.map fun sc => { sc with wait := match sc.wait with | .eof _ => .sof | w => w } })) ∧
  (∀ (s : State) (sc : Scan) (blurred settled : Bool), s.afc.scan = some sc → s.afc.state = .coarse ∨ s.afc.state = .fine →
    let after := fun y => s.setAfc { s.afc with scan := some y }
    (sc.wait ≠ .sof → afcSof s blurred settled = s) ∧
    (sc.wait = .sof → blurred = true → sc.discards < 3 →
      afcSof s blurred settled = after { sc with discards := sc.discards + 1 }) ∧
    (sc.wait = .sof → blurred = false ∨ 3 ≤ sc.discards → afcSof s blurred settled = after { sc with wait := .eof blurred })) ∧
  (∀ (s : State) (blurred settled : Bool),
    (s.afc.state = .idle ∨ s.afc.state = .failed → afcSof s blurred settled = s) ∧
    (s.afc.state = .locked ∨ s.afc.state = .monitor →
      afcSof s blurred settled = s.setAfc { s.afc with frame := some ⟨blurred, false⟩ }) ∧
    (s.afc.state = .settle → settled = false → s.afc.settleCount + 1 < s.afc.settleTimeout →
      afcSof s blurred settled = s.setAfc { s.afc with settleCount := s.afc.settleCount + 1 }) ∧
    (s.afc.state = .settle → settled = false → s.afc.settleTimeout ≤ s.afc.settleCount + 1 →
      afcSof s blurred settled =
        afcFail (s.setAfc { s.afc with settleCount := s.afc.settleCount + 1 }) .settleTimeout) ∧
    ∀ sc, s.afc.state = .settle → settled = true → s.afc.scan = some sc →
      let p := s.lds.focus.pos
      let positions := if distance p sc.inf ≤ distance sc.near p then stepPositions sc.inf sc.near s.afc.coarseStep
        else stepPositions sc.near sc.inf s.afc.coarseStep
      afcSof s blurred settled = heldIn ((s.setAfc { s.afc with
        state := .coarse, history := []
        scan := some
          { inf := sc.inf, near := sc.near, positions := positions, next := 1, peaks := List.replicate 8 none
            coarsePeak := none, primary := if s.afc.selection = .selected then some s.afc.selected else none
            drops := 0, discards := 0, wait := .move, lockPos := 0 } }).setLds
        (ldsPlace s.lds .af ⟨.focus, positions.headD 0, s.lds.params.afClass⟩))) ∧
  (∀ (s : State) (sc : Scan) (fn : Nat) (records : List WindowRecord), s.afc.scan = some sc →
    s.afc.state = .coarse ∨ s.afc.state = .fine →
    let record := fun k => records.getD k ⟨false, 0, false, 0, 0, 0⟩
    ((∀ b, sc.wait ≠ .eof b) → afcFigures s fn records = s) ∧
    ∀ b, sc.wait = .eof b →
      (64 ≤ s.afc.history.length → afcFigures s fn records = afcFail s .historyFull) ∧
      (s.afc.history.length < 64 → ∃ u v, afcFigures s fn records = v ∧
        u = s.setAfc { s.afc with
          historyMade := true
          history := s.afc.history ++ [⟨s.lds.focus.pos, fn, decide (s.afc.state = .fine), b,
            s.afc.windowSet.map fun k => ⟨k, (record k).f, (record k).sat, (record k).mean⟩⟩] } ∧
        (s.afc.state = .fine → v = afcNextPosition u sc) ∧
        (s.afc.state = .coarse → ∃ sc', (v = afcNextPosition u sc' ∨ v = afcCoarseEnd u sc') ∧
          { sc' with peaks := sc.peaks, drops := sc.drops } = sc))) ∧
  (∀ (s : State), s.afc.state = .idle ∨ s.afc.state = .settle ∨ s.afc.state = .failed →
    ∀ fn records, afcFigures s fn records = s) ∧
  (∀ (s : State) (sc : Scan), s.afc.scan = some sc →
    ((s.afc.state ≠ .coarse ∧ s.afc.state ≠ .fine) ∨ s.lds.slots.af.isSome = true → moveComplete s .af = s) ∧
    (s.afc.state = .coarse ∨ s.afc.state = .fine → s.lds.slots.af = none →
      (sc.wait = .move → moveComplete s .af = s.setAfc { s.afc with scan := some { sc with wait := .sof, discards := 0 } }) ∧
      (sc.wait = .sof ∨ (∃ b, sc.wait = .eof b) → moveComplete s .af = s) ∧
      (sc.wait = .lockMove → ∃ t, moveComplete s .af = t ∧
        t.afc = { s.afc with
          state := .locked, scan := none, primary := sc.primary, monitorCount := 0, primaryFigure := none, frame := none
          lock := some ⟨sc.lockPos, sc.lockPos - sc.inf, 0, false⟩ } ∧
        t.zmc = { s.zmc with trackLimit := false } ∧ t.lds = s.lds ∧
        t.cnd.condition condAfLocked = (cndRaise s.cnd condAfLocked).condition condAfLocked ∧
        (s.aec.state = .held → t.aec.state = .run) ∧
        (s.aec.state ≠ .held → t.aec = s.aec ∧ t.cnd = cndRaise s.cnd condAfLocked)))) ∧
  ∀ (s : State) (w : Nat) (k : Lock) (fn : Nat) (records : List WindowRecord), s.afc.state = .locked ∨ s.afc.state = .monitor →
    s.afc.primary = some w → s.afc.lock = some k →
    let r := records.getD w ⟨false, 0, false, 0, 0, 0⟩
    let n := min 4294967295 (r.f * 16 / max r.mean 1)
    let shown := { s.afc with primaryFigure := some r.f, frame := none }
    let qualifies := s.afc.frame = some ⟨false, false⟩
    let count := if 16 * n < k.n * s.afc.monitorRatio then s.afc.monitorCount + 1 else 0
    (¬ qualifies ∨ (s.afc.state = .locked ∧ k.taken = true) → afcFigures s fn records = s.setAfc shown) ∧
    (qualifies → k.taken = false → s.aec.state ≠ .held → afcFigures s fn records = s.setAfc { shown with
      lock := some { k with n := n, taken := true }
      state := if s.afc.mode = .continuous then .monitor else s.afc.state }) ∧
    (qualifies → k.taken = true → s.afc.state = .monitor → count < s.afc.monitorFrames →
      afcFigures s fn records = s.setAfc { shown with monitorCount := count }) ∧
    (qualifies → k.taken = true → s.afc.state = .monitor → s.afc.monitorFrames ≤ count →
      let passes := s.zmc.mode = .idle ∧ s.tableValid zoomId = true ∧ s.lds.focus.valid = true ∧ s.lds.zoom.valid = true ∧
        enabledWindows s.afc.windows ≠ []
      (¬ passes → afcFigures s fn records = s.setAfc { shown with monitorCount := 0 }) ∧
      (passes → afcFigures s fn records = afcScanStart (s.setAfc shown)))

/-- What AFC decides in a scan (R91 to R94, R82). After a coarse entry each window's peak is the greater figure, or the
equal one farther up; in SELECTED two entries running below seven eighths of the peak end the phase, as the last position
does. The end fixes the primary window, in MULTI the qualifying one whose peak lies farthest up, or the scan fails
LOW_CONTRAST; the fine positions go by fine_step over the stretch about the peak, from the end nearer the focus. After the
last fine entry the scan fails UNSTABLE, or moves to the fine entry of the greatest figure. A failed scan cancels its move
and latches AF_FAILED; that the primary window and the lock data go at once (log entry 57), that an entry's focus position
is the one that stands at the EOF (71), that a fine stretch whose ends cross is walked like any other (73), and that the
drop counter is kept in MULTI too, where nothing reads it (76), are the model's choice. -/
def Obligations.FocusScanDecides : Prop :=
  let beats := fun (old : Option Peak) (f pos : Nat) => match old with
    | none => True
    | some q => q.f < f ∨ (q.f = f ∧ q.pos < pos)
  (∀ (start other step i : Nat), 1 ≤ step →
    (i * step < distance start other →
      (stepPositions start other step)[i]? = some (if start ≤ other then start + i * step else start - i * step)) ∧
    (distance start other ≤ i * step → i = 0 ∨ (i - 1) * step < distance start other →
      (stepPositions start other step)[i]? = some other) ∧
    (distance start other ≤ (i - 1) * step → 1 ≤ i → (stepPositions start other step)[i]? = none)) ∧
  (∀ (s : State) (sc : Scan) (fn : Nat) (records : List WindowRecord) (b : Bool), s.afc.state = .coarse → s.afc.scan = some sc →
    sc.wait = .eof b → s.afc.history.length < 64 →
    let p := s.lds.focus.pos
    let f := fun k => if k ∈ s.afc.windowSet then (records.getD k ⟨false, 0, false, 0, 0, 0⟩).f else 0
    let old := fun k => sc.peaks.getD k none
    ∃ u sc', u.afc.history.length = s.afc.history.length + 1 ∧ (u.setAfc s.afc) = s ∧
      { u.afc with history := s.afc.history, historyMade := s.afc.historyMade } = s.afc ∧
      sc'.peaks.length = sc.peaks.length ∧ { sc' with peaks := sc.peaks, drops := sc.drops } = sc ∧
      (∀ k < sc.peaks.length,
        (k ∈ s.afc.windowSet → beats (old k) (f k) p → sc'.peaks.getD k none = some ⟨f k, p⟩) ∧
        (k ∉ s.afc.windowSet ∨ ¬ beats (old k) (f k) p → sc'.peaks.getD k none = old k)) ∧
      (beats (old s.afc.selected) (f s.afc.selected) p → sc'.drops = 0) ∧
      (∀ q, old s.afc.selected = some q → ¬ beats (old s.afc.selected) (f s.afc.selected) p →
        sc'.drops = if 8 * f s.afc.selected < 7 * q.f then sc.drops + 1 else 0) ∧
      (s.afc.selection = .selected → 2 ≤ sc'.drops → afcFigures s fn records = afcCoarseEnd u sc') ∧
      (s.afc.selection = .multi ∨ sc'.drops < 2 → afcFigures s fn records = afcNextPosition u sc')) ∧
  (∀ (s : State) (sc : Scan),
    (∀ q, sc.positions[sc.next]? = some q → afcNextPosition s sc =
      (s.setAfc { s.afc with scan := some { sc with next := sc.next + 1, wait := .move } }).setLds
        (ldsPlace s.lds .af ⟨.focus, q, s.lds.params.afClass⟩)) ∧
    (sc.positions[sc.next]? = none → s.afc.state = .coarse → afcNextPosition s sc = afcCoarseEnd s sc) ∧
    (sc.positions[sc.next]? = none → s.afc.state = .fine →
      (∀ (best : HistoryEntry) (w : Nat) (q : Peak), sc.primary = some w → sc.coarsePeak = some q → best ∈ s.afc.history →
        best.fine = true →
        (∀ e ∈ s.afc.history, e.fine = true →
          entryF e w < entryF best w ∨ (entryF e w = entryF best w ∧ e.pos ≤ best.pos)) →
        (4 * entryF best w < 3 * q.f → afcNextPosition s sc = afcFail s .unstable) ∧
        (3 * q.f ≤ 4 * entryF best w → afcNextPosition s sc =
          (s.setAfc { s.afc with scan := some { sc with wait := .lockMove, lockPos := best.pos } }).setLds
            (ldsPlace s.lds .af ⟨.focus, best.pos, s.lds.params.afClass⟩))))) ∧
  (∀ (s : State) (sc : Scan), s.aec.state ≠ .run →
    let peak := fun k => sc.peaks.getD k none
    let qualifies := fun k q => peak k = some q ∧ s.afc.minFigure ≤ q.f ∧
      (s.afc.selection = .selected → k = s.afc.selected) ∧ (s.afc.selection = .multi → k ∈ s.afc.windowSet)
    ((∀ k q, ¬ qualifies k q) → afcCoarseEnd s sc = afcFail s .lowContrast) ∧
    ∀ k q, qualifies k q → (s.afc.selection = .multi → s.afc.windowSet.Pairwise (· < ·)) →
      (∀ j r, qualifies j r → r.pos < q.pos ∨ (r.pos = q.pos ∧ k ≤ j)) →
      let p := s.lds.focus.pos
      let lo := max sc.inf (q.pos - s.afc.coarseStep)
      let hi := min sc.near (q.pos + s.afc.coarseStep)
      let positions := if distance p lo ≤ distance p hi then stepPositions lo hi s.afc.fineStep
        else stepPositions hi lo s.afc.fineStep
      afcCoarseEnd s sc = (s.setAfc { s.afc with
        state := .fine
        scan := some
          { sc with primary := some k, coarsePeak := some q, positions := positions, next := 1, wait := .move } }).setLds
        (ldsPlace s.lds .af ⟨.focus, positions.headD 0, s.lds.params.afClass⟩)) ∧
  ∀ (s : State) (r : FailReason), ∃ t, afcFail s r = t ∧
    t.afc = { s.afc with
      state := .failed, failure := some r, scan := none, primary := none, lock := none, primaryFigure := none
      frame := none } ∧
    t.lds = { s.lds with
      slots := { s.lds.slots with af := none }, stack := s.lds.stack.filter fun x => decide (x.source ≠ .af)
      running := s.lds.running.map fun m => if m.source = .af then { m with stop := true } else m } ∧
    t.cnd.condition condAfFailed = (cndRaise s.cnd condAfFailed).condition condAfFailed ∧
    (s.aec.state = .held → t.aec.state = .run) ∧ (s.aec.state ≠ .held → t.aec = s.aec ∧ t.cnd = cndRaise s.cnd condAfFailed) ∧
    (((t.setAfc s.afc).setLds s.lds).setAec s.aec).setCnd s.cnd = s

/-- AF_HISTORY, STATUS_QUERY and a command whose code names none (R104, R176, R178, R186): they change nothing but the
command buffer and the reply queue; the packets that follow are those of the state as handed. The payloads of HISTORY, and
of STATUS its ten sections with INTAKE, STATS and CND, are spelled by R190 and section 11.5. The model's choices: the
primary window reported during a scan (log entry 32), the codes of the intake state (65), and in STATUS the widths (69)
and the levels of the state conditions (70). -/
def Obligations.QueriesChangeNothing : Prop :=
  let b1 := fun n : Nat => [BitVec.ofNat 8 n]
  let b2 := fun n : Nat => [BitVec.ofNat 8 (n / 256), BitVec.ofNat 8 n]
  let b4 := fun n : Nat => b2 (n / 65536) ++ b2 n
  let yes := fun b : Bool => if b = true then [1#8] else [0#8]
  (∀ (s : State) (tag : Tag), s.turnOf (.afHistory tag (.args ())) →
    exec (.afHistory tag (.args ())) s = .next (s.replied tag 16 ⟨.done, [], historyPackets tag s.afc⟩) ∧
    (historyPackets tag s.afc).length = max 1 ((s.afc.history.length + 7) / 8)) ∧
  (∀ (tag : Tag) (a : Afc) (k : Nat) (p : Packet), (historyPackets tag a)[k]? = some p →
    let entries := (a.history.drop (8 * k)).take 8
    let range := a.range.getD (0, 0)
    let failure := match a.failure with
      | none => 0 | some .lowContrast => 1 | some .unstable => 2 | some .disturbed => 3 | some .historyFull => 4
      | some .lost => 5 | some .settleTimeout => 6
    let reported := match a.scan with
      | some sc => sc.primary
      | none => a.primary
    p.kind = 0x15 ∧ p.tag = tag ∧
    p.payload = b1 k ++ b1 (max 1 ((a.history.length + 7) / 8)) ++ b1 entries.length ++ [0] ++
      (if k = 0 then b1 a.state.code ++ b1 a.mode.code ++ b1 failure ++ b1 (reported.getD 255) ++ b2 range.1 ++
        b2 range.2 ++ yes a.lock.isSome ++ b1 a.restarts ++ b2 ((a.lock.map (·.pos)).getD 0) ++
        b2 ((a.lock.map (·.d)).getD 0) ++ b1 a.history.length ++
        [BitVec.ofNat 8 (((List.range 8).map fun j => if a.historyMade = true ∧ j ∈ a.windowSet then 2 ^ j else 0).sum)] ++
        [0, 0] else []) ++
      entries.flatMap fun e => b2 e.pos ++ b2 e.fn ++ yes e.fine ++ yes e.blurred ++
        e.figures.flatMap fun f => b4 f.f ++ yes f.sat ++ [0] ++ b2 f.mean) ∧
  ([Status.done, .doneClamped, .accepted, .refusedBusy, .refusedState, .refusedArg, .refusedTable, .refusedUnreferenced,
      .unknownCommand].map Status.code = [0x00, 0x01, 0x02, 0x10, 0x11, 0x12, 0x13, 0x14, 0x1F] ∧
    [AeState.off, .run, .held, .locked, .fault].map AeState.code = List.range 5 ∧
    [Program.live, .capture].map Program.code = List.range 2 ∧
    [AfMode.off, .single, .continuous, .manual].map AfMode.code = List.range 4 ∧
    [AfState.idle, .coarse, .fine, .locked, .monitor, .settle, .failed].map AfState.code = List.range 7 ∧
    [ShakeClass.still, .normal, .shaky, .panning].map ShakeClass.code = List.range 4 ∧
    [StabMode.off, .optical, .electronic].map StabMode.code = List.range 3 ∧
    [SlotState.free, .filling, .ready, .held, .sending].map SlotState.code = List.range 5 ∧
    [Part.stream, .pre, .post].map Part.code = List.range 3) ∧
  (∀ (s : State) (tag : Tag), s.turnOf (.statusQuery tag (.args ())) →
    exec (.statusQuery tag (.args ())) s =
      .next (s.replied tag 41 ⟨.done, [], [statusPacket tag (s.setLnk (lnkTake s.lnk tag))]⟩)) ∧
  (∀ (tag : Tag) (s : State),
    let g := s.intake.geometry
    let mode := match s.intake.mode with | .stopped => 0 | .waiting => 1 | .inFrame => 2
    let condition := fun k =>
      let x := s.cnd.condition k
      yes x.latch ++ b1 x.count ++ b1 (match x.mode with | .latched => 0 | .timed => 1 | .level => 2) ++ yes x.notice
    let levels := fun k => yes (s.cnd.condition k).latchedLevel ++ yes (s.cnd.condition k).current
    (statusPacket tag s).kind = 0x13 ∧ (statusPacket tag s).tag = tag ∧ ∃ sections : List (List Byte), sections.length = 10 ∧
      (statusPacket tag s).payload = (sections.zipIdx.flatMap fun x => b1 (x.2 + 1) ++ b2 x.1.length ++ x.1) ∧
      sections[0]? = some (b1 mode ++ b2 s.intake.fn ++ b2 g.w ++ b2 g.h ++ b2 g.outW ++ b2 g.outH ++ b2 s.intake.timeout) ∧
      sections[1]? = some (b2 s.stats.replaced) ∧
      sections[8]? = some (((List.range 25).flatMap condition) ++ levels condAeSettled ++ levels condPan ++
        levels condShiftFault ++ levels condStoreFull)) ∧
  ∀ (s : State) (tag : Tag) (code : Byte), s.turnOf (.unknownCommand tag code) →
    exec (.unknownCommand tag code) s = .next (s.replied tag code (answer .unknownCommand))

/-- SETTLE_TIMEOUT (R100, R82): in SETTLE with SETTLED false and the settle counter about to reach settle_timeout, the
scan fails SETTLE_TIMEOUT, its AF move is cancelled and AF_FAILED latches; that the primary window goes at once, with the
lock data, is the model's choice (log entry 57). GATE_EXPIRY (R152): in GATING, at a frame the
gate fails with the gate count at gate_timeout, the timeout action decides, CANCEL passing on a withheld S1 release
(R161). Both happen at an SOF, within FRAME_START; that each is a command of its own as well, acting under the same
conditions while INTAKE is not STOPPED and otherwise not at all, is the model's choice (log entry 8). -/
def Obligations.TimeoutsExpire : Prop :=
  let passes := fun s : State =>
    let g := s.cst.params.gate
    s.aec.frame.mark = some s.cst.trigger ∧ (g.aeSettled = true → s.aec.frame.settled = true) ∧
      (g.afLocked = true → s.afc.state = .locked ∨ s.afc.state = .monitor) ∧
      (g.shakeOk = true → s.mou.shake = .still ∨ s.mou.shake = .normal)
  (∀ s : State, s.intake.mode = .stopped ∨ s.afc.state ≠ .settle ∨ s.aec.settled = true ∨
      s.afc.settleCount + 1 < s.afc.settleTimeout →
    exec .settleTimeout s = .next s) ∧
  (∀ s : State, s.intake.mode ≠ .stopped → s.afc.state = .settle → s.aec.settled = false →
    s.afc.settleTimeout ≤ s.afc.settleCount + 1 → s.aec.state ≠ .held →
    s.lds.running.isSome = true ∨ s.lds.reference.isSome = true ∨ s.lds.noMoves = true →
    ∃ t, exec .settleTimeout s = .next t ∧ t.afc = { s.afc with
        state := .failed, failure := some .settleTimeout, scan := none, settleCount := s.afc.settleCount + 1
        primary := none, lock := none, primaryFigure := none, frame := none } ∧
      t.lds = { s.lds with
        slots := { s.lds.slots with af := none }, stack := s.lds.stack.filter fun x => decide (x.source ≠ .af)
        running := s.lds.running.map fun m => if m.source = .af then { m with stop := true } else m } ∧
      t.cnd = cndRaise s.cnd condAfFailed ∧ (s.cnd.conditions.length = 25 → (t.cnd.condition condAfFailed).latch = true) ∧
      ((t.setAfc s.afc).setLds s.lds).setCnd s.cnd = s) ∧
  (∀ s : State, s.intake.mode = .stopped ∨ s.cst.state ≠ .gating ∨ passes s ∨
      s.cst.gateCount ≠ s.cst.params.gateTimeout →
    exec .gateExpiry s = .next s) ∧
  (∀ s : State, s.intake.mode ≠ .stopped → s.cst.state = .gating → ¬ passes s →
    s.cst.gateCount = s.cst.params.gateTimeout → s.cst.params.timeoutAction = .proceed →
    exec .gateExpiry s = .next (s.setCst { s.cst with state := .capturing, forced := true })) ∧
  ∀ s : State, s.intake.mode ≠ .stopped → s.cst.state = .gating → ¬ passes s →
    s.cst.gateCount = s.cst.params.gateTimeout → s.cst.params.timeoutAction = .cancel →
    let u := ((s.raise condTriggerTimeout).setAec { s.aec with program := .live, markDue := false }).setCst { s.cst with
      state := if s.cst.params.mode = .pretrigger then .armed else .idle, forced := false, withheldRelease := false }
    exec .gateExpiry s =
      .next (if s.cst.withheldRelease = true ∧ s.cst.s1.debounced = false then afcS1Release u else u)

/-! ### Zoom (chapter 6) -/

/-- ZOOM_TO, ZOOM_BY (R108 to R111, R116), ZOOM_SETUP (R107), ZOOM_STOP (R113), and the outcomes of a segment (R98, R101,
R106, R112 to R114, R117, R118). A zoom command clamps its target. In IDLE, at the target already, ZOOM_DONE latches, and
ZOOM_END for a clamped one; otherwise ZMC is MOVING and its first segment starts, aborting a scan in hand, or waits in the
slot of a busy drive. In MOVING the segment end is formed afresh and, with the class, replaces the target of the segment
wherever it stands. A completed segment makes the tracking request and gives way to the next or ends the zoom; a stopped
one ends it, a lost one without ZOOM_DONE; in IDLE AFC takes up a rescan. The model's choices: a new target at the
position itself keeps the direction (log entry 23); ON is 0 and OFF 1 (24); a clamped target at the position in IDLE
leaves the end-clamp flag clear (59). -/
def Obligations.ZoomCommandsRunSegments : Prop :=
  let settles := fun l : Lds => l.running.isSome = true ∨ l.reference.isSome = true ∨ l.noMoves = true
  let elsewhere := fun l : Lds => (l.running.isSome = true ∨ l.reference.isSome = true) ∧
    ∀ m, l.running = some m → m.source ≠ .zoom
  (∀ (s : State) (tag : Tag) (i : Instr) (code : Byte) (wish : Int) (inRange : Bool) (speed : Nat), s.turnOf i →
    ((∃ t : Nat, i = .zoomTo tag (.args ⟨t, speed⟩) ∧ code = 18 ∧ wish = t ∧ inRange = true) ∨
      (∃ d : Int, i = .zoomBy tag (.args ⟨d, speed⟩) ∧ code = 19 ∧
        wish = (match s.zmc.zoom with | some z => z.target | none => s.lds.zoom.pos) + max (-2048) (min 2048 d) ∧
        inRange = decide (-2048 ≤ d ∧ d ≤ 2048))) →
    let target := (max 0 (min 2048 wish)).toNat
    let clamped := decide (wish < 0 ∨ 2048 < wish)
    let p := s.lds.zoom.pos
    let e := segmentEnd p target
    let status := answer (if inRange = true ∧ clamped = false then .accepted else .doneClamped)
    (3 < speed → exec i s = .next (s.replied tag code (answer .refusedArg))) ∧
    (speed ≤ 3 → s.zmc.mode = .stopping → exec i s = .next (s.replied tag code (answer .refusedBusy))) ∧
    (speed ≤ 3 → s.zmc.mode ≠ .stopping → s.lds.zoom.valid = false →
      exec i s = .next (s.replied tag code (answer .refusedUnreferenced))) ∧
    (speed ≤ 3 → s.zmc.mode = .idle → s.zmc.zoom = none → s.lds.zoom.valid = true → p = target → settles s.lds →
      exec i s = .next ((if clamped then (s.raise condZoomDone).raise condZoomEnd
        else s.raise condZoomDone).replied tag code status)) ∧
    (speed ≤ 3 → s.zmc.mode = .idle → s.zmc.zoom = none → s.lds.zoom.valid = true → p ≠ target → p ≤ 2048 →
      let u := s.setZmc { s.zmc with
        mode := .moving, zoom := some ⟨target, clamped, e⟩, travel := some ⟨decide (p < target), speed⟩ }
      let v := u.setLds { s.lds with
        running := some
          { source := .zoom, motor := .zoom, level := s.lds.params.levels.zoom, target := e, speed := speed, phase := .main
            dest := if target < p then e - s.lds.params.zoomBacklash else e, stop := false, mute := false, retarget := false }
        timer := some (stepPeriod .zoom speed) }
      (elsewhere s.lds → (∀ x ∈ s.lds.stack, x.source ≠ .zoom) → exec i s = .next ((u.setLds { s.lds with
        slots := { s.lds.slots with zoom := some ⟨.zoom, e, speed⟩ } }).replied tag code status)) ∧
      (s.lds.noMoves = true → s.lds.reference = none →
        exec i s = .next ((afcZoomGranted v).replied tag code status))) ∧
    (∀ z, speed ≤ 3 → s.zmc.mode = .moving → s.zmc.zoom = some z → s.lds.zoom.valid = true → p ≤ 2048 →
      let up := if target = p then (s.zmc.travel.map (·.up)).getD true else decide (p < target)
      let same := e = z.segmentEnd ∧ speed = (s.zmc.travel.map (·.speed)).getD 0
      let u := s.setZmc { s.zmc with zoom := some ⟨target, clamped, e⟩, travel := some ⟨up, speed⟩ }
      let leaves := fun l => exec i s = .next ((u.setLds l).replied tag code status)
      (same → settles s.lds → leaves s.lds) ∧
      (∀ m, ¬ same → s.lds.running = some m → m.source = .zoom → m.stop = false →
        leaves { s.lds with running := some { m with target := e, speed := speed, retarget := true } }) ∧
      (¬ same → elsewhere s.lds → (∃ x ∈ s.lds.stack, x.source = .zoom) → leaves { s.lds with
        stack := s.lds.stack.map fun x => if x.source = .zoom then { x with target := e, speed := speed, retarget := true } else x }) ∧
      (¬ same → elsewhere s.lds → (∀ x ∈ s.lds.stack, x.source ≠ .zoom) → leaves { s.lds with
        slots := { s.lds.slots with zoom := some ⟨.zoom, e, speed⟩ } }))) ∧
  (∀ (s : State) (tag : Tag) (n : Nat), s.turnOf (.zoomSetup tag (.args n)) →
    (n = 0 → exec (.zoomSetup tag (.args n)) s =
      .next ((s.setZmc { s.zmc with tracking := true }).replied tag 17 (answer .done))) ∧
    (n = 1 → exec (.zoomSetup tag (.args n)) s =
      .next ((s.setZmc { s.zmc with tracking := false }).replied tag 17 (answer .done))) ∧
    (1 < n → exec (.zoomSetup tag (.args n)) s = .next (s.replied tag 17 (answer .refusedArg)))) ∧
  (∀ (s : State) (tag : Tag), s.turnOf (.zoomStop tag (.args ())) →
    (s.zmc.mode ≠ .moving → settles s.lds → exec (.zoomStop tag (.args ())) s = .next (s.replied tag 20 (answer .done))) ∧
    (s.zmc.mode = .moving →
      let u := (s.setZmc { s.zmc with mode := .stopping }).setLds { s.lds with
        slots := { s.lds.slots with zoom := none }, stack := s.lds.stack.filter fun x => decide (x.source ≠ .zoom)
        running := s.lds.running.map fun m => if m.source = .zoom then { m with stop := true } else m }
      (s.lds.slots.zoom = none → (∀ x ∈ s.lds.stack, x.source ≠ .zoom) → s.lds.running.isSome = true →
        exec (.zoomStop tag (.args ())) s = .next (u.replied tag 20 (answer .done))) ∧
      (s.lds.slots.zoom.isSome = true ∨ (∃ x ∈ s.lds.stack, x.source = .zoom) →
        exec (.zoomStop tag (.args ())) s = .next ((moveStopped u .zoom).grant.replied tag 20 (answer .done))))) ∧
  (∀ u : State,
    let tracked := if u.zmc.tracking = true ∧ (u.afc.state = .locked ∨ u.afc.state = .monitor) ∧ u.tableValid zoomId = true ∧
        u.lds.focus.valid = true ∧ u.lds.zoom.valid = true
      then
        let wish := (u.afc.lock.map (·.d)).getD 0 + u.infAt u.lds.zoom.pos
        let limited := decide (u.nearAt u.lds.zoom.pos < wish)
        ((u.setZmc { u.zmc with trackLimit := limited }).setAfc { u.afc with
          rescanAfterZoom := u.afc.rescanAfterZoom ||
            (limited && decide (u.afc.state = .monitor ∧ u.afc.mode = .continuous)) }).setLds
          (ldsPlace u.lds .track ⟨.focus, min wish (u.nearAt u.lds.zoom.pos), u.lds.params.trackClass⟩)
      else u
    let idled := fun v : State => afcZoomIdle (v.setZmc { v.zmc with mode := .idle, zoom := none })
    let ended := fun (v : State) (atEnd : Bool) =>
      idled (if atEnd then (v.raise condZoomDone).raise condZoomEnd else v.raise condZoomDone)
    (u.zmc.mode = .idle → moveComplete u .zoom = u ∧ moveStopped u .zoom = u ∧ moveLost u .zoom = u) ∧
    (u.zmc.mode ≠ .idle → moveStopped u .zoom = ended tracked false ∧ moveLost u .zoom = idled u) ∧
    (∀ z, u.zmc.zoom = some z →
      let e := segmentEnd u.lds.zoom.pos z.target
      (u.zmc.mode = .moving → u.lds.zoom.pos = z.target → moveComplete u .zoom = ended tracked z.endClamp) ∧
      (u.zmc.mode = .moving → u.lds.zoom.pos ≠ z.target → moveComplete u .zoom =
        (tracked.setZmc { tracked.zmc with zoom := some { z with segmentEnd := e } }).setLds
          (ldsPlace tracked.lds .zoom ⟨.zoom, e, (u.zmc.travel.map (·.speed)).getD 0⟩)) ∧
      (u.zmc.mode = .stopping → moveComplete u .zoom =
        ended tracked (decide (u.lds.zoom.pos = z.target) && z.endClamp)))) ∧
  ∀ u : State,
    (u.afc.rescanAfterZoom = false → afcZoomIdle u = u) ∧
    (u.afc.rescanAfterZoom = true →
      let v := u.setAfc { u.afc with rescanAfterZoom := false }
      let scans := u.afc.mode = .continuous ∧ (u.afc.state = .idle ∨ u.afc.state = .locked ∨ u.afc.state = .monitor) ∧
        u.tableValid zoomId = true ∧ u.lds.focus.valid = true ∧ u.lds.zoom.valid = true ∧ enabledWindows u.afc.windows ≠ []
      (scans → afcZoomIdle u = afcScanStart v) ∧ (¬ scans → afcZoomIdle u = v)) ∧
    (u.afc.state.inScan = false → afcZoomGranted u = u) ∧
    (u.afc.state.inScan = true → ∃ t, afcZoomGranted u = t ∧
      t.afc = { u.afc with
        state := .idle, scan := none
        rescanAfterZoom := u.afc.rescanAfterZoom || decide (u.afc.mode = .continuous) } ∧
      t.lds = { u.lds with
        slots := { u.lds.slots with af := none }, stack := u.lds.stack.filter fun x => decide (x.source ≠ .af)
        running := u.lds.running.map fun m => if m.source = .af then { m with stop := true } else m } ∧
      t.cnd.condition condAfAborted = (cndRaise u.cnd condAfAborted).condition condAfAborted ∧
      (u.aec.state = .held → t.aec.state = .run) ∧
      (u.aec.state ≠ .held → t.aec = u.aec ∧ t.cnd = cndRaise u.cnd condAfAborted) ∧
      (((t.setAfc u.afc).setLds u.lds).setAec u.aec).setCnd u.cnd = u)

/-! ### Motion (chapter 7) -/

/-- STAB_MODE (R128, R129, R134), STAB_CENTER (R129) and STAB_SETUP (R138): a mode sets the angles to 0 and recentres the
shift, and ends a shift fault, which SHIFT_FAULT follows; OPTICAL and ELECTRONIC need a valid ZOOM table; STAB_CENTER
recentres and clears the fault counter; STAB_SETUP writes the clamped parameters. That a recentre sets the total shift and
the optical target of both axes to 0 at once, with the residual, is the model's choice (log entry 42). -/
def Obligations.StabCommandsRecentreAndSet : Prop :=
  let centred := fun x : Axis => { x with angle := 0, total := 0, optical := 0, residual := 0 }
  (∀ (s : State) (tag : Tag) (n : Nat) (mode : StabMode), s.turnOf (.stabMode tag (.args n)) →
    (n = 0 ∧ mode = .off) ∨ (n = 1 ∧ mode = .optical) ∨ (n = 2 ∧ mode = .electronic) →
    (n ≠ 0 → s.tableValid zoomId = false →
      exec (.stabMode tag (.args n)) s = .next (s.replied tag 21 (answer .refusedTable))) ∧
    (n = 0 ∨ s.tableValid zoomId = true →
      exec (.stabMode tag (.args n)) s = .next (((s.setMou { s.mou with
        mode := mode, fault := false, faultCount := 0, yaw := centred s.mou.yaw, pitch := centred s.mou.pitch
        target := ⟨0, 0⟩, targetBefore := none }).setCnd (cndSetLevel s.cnd condShiftFault false)).replied
          tag 21 (answer .done)))) ∧
  (∀ (s : State) (tag : Tag) (n : Nat), s.turnOf (.stabMode tag (.args n)) → 2 < n →
    exec (.stabMode tag (.args n)) s = .next (s.replied tag 21 (answer .refusedArg))) ∧
  (∀ (s : State) (tag : Tag), s.turnOf (.stabCenter tag (.args ())) →
    exec (.stabCenter tag (.args ())) s = .next ((s.setMou { s.mou with
      faultCount := 0, yaw := centred s.mou.yaw, pitch := centred s.mou.pitch, target := ⟨0, 0⟩
      targetBefore := none }).replied tag 22 (answer .done))) ∧
  ∀ (s : State) (tag : Tag) (a : StabSetupArgs), s.turnOf (.stabSetup tag (.args a)) →
    (1 < a.combination ∨ 1 < a.yawEnable ∨ 1 < a.pitchEnable →
      exec (.stabSetup tag (.args a)) s = .next (s.replied tag 23 (answer .refusedArg))) ∧
    (a.combination ≤ 1 → a.yawEnable ≤ 1 → a.pitchEnable ≤ 1 →
      let p : StabParams :=
        ⟨max 100 (min 2000 a.dt), max 6 (min 12 a.biasShift), max 6 (min 14 a.leakShift), min 32767 a.panRef,
          max 1 (min 255 a.panDeb), if a.combination = 0 then .or else .and, decide (a.yawEnable = 1),
          decide (a.pitchEnable = 1), min 32767 a.stillRef, min 32767 a.shakyRef, min 1023 a.ppu, min 4095 a.shiftTol,
          max 1 (min 15 a.shiftFaultCount), min 65535 a.blurLimit⟩
      exec (.stabSetup tag (.args a)) s = .next ((s.setMou { s.mou with params := p }).replied tag 23
        (answer (if p.dt = a.dt ∧ p.biasShift = a.biasShift ∧ p.leakShift = a.leakShift ∧ p.panRef = a.panRef ∧
            p.panDeb = a.panDeb ∧ p.stillRef = a.stillRef ∧ p.shakyRef = a.shakyRef ∧ p.ppu = a.ppu ∧
            p.shiftTol = a.shiftTol ∧ p.shiftFaultCount = a.shiftFaultCount ∧ p.blurLimit = a.blurLimit
          then .done else .doneClamped))))

/-- RATE_SAMPLE (R120 to R127, R129 to R131, R135). A repeated sequence number latches MOTION_GAP and the sample is not
used. After a short gap of 1 to 8 samples MOTION_GAP latches, the last corrected rate is integrated once for each missing
sample, and the sample goes on as one in order; after a long gap the angles, the shift, the pan counters and the previous
signs are set to 0 first. One in order gives each axis its bias, corrected rate, pan counter, angle, total shift, optical
target and residual by the rules, pan from the enabled axes by OR or AND, and the interval's peak and flags; an open blur
window takes the errors in; PAN follows pan, and SHIFT_LIMIT latches when the optical clamp acts, and is set in the record
of the frame being stored (R142), nothing else of the store changing. That the recentre of a long gap sets the total shift
and the optical target to 0 at once is the model's choice (log entry 42); the sample that follows sets them anew. -/
def Obligations.RateSampleUpdatesAxes : Prop :=
  (∀ (i : Int) (d : Nat), 0 < d → (2 * (d * divRoundAway i d - i)).natAbs ≤ d ∧
    ((2 * (d * divRoundAway i d - i)).natAbs = d → i.natAbs < (d * divRoundAway i d).natAbs)) ∧
  (∀ (s : State) (yaw pitch : Int) (last : Nat), s.mou.lastSeq = some last → last < 256 →
    exec (.rateSample last yaw pitch) s = .next (s.raise condMotionGap)) ∧
  (∀ (s : State) (yaw pitch : Int) (last seq g : Nat), s.mou.lastSeq = some last → last < 256 →
    seq = (last + 1 + g) % 256 → 1 ≤ g → g ≤ 254 →
    let leak := fun x : Axis => if s.mou.params.panDeb ≤ x.panCount then s.mou.params.leakShift - 3 else s.mou.params.leakShift
    let once := fun x : Axis => { x with
      angle := max (-2147483647) (min 2147483647 (x.angle + x.rate * s.mou.params.dt - Int.tdiv x.angle (2 ^ leak x))) }
    let filled := fun x : Axis => (List.range g).foldl (fun y _ => once y) x
    let cleared := fun x : Axis =>
      { x with angle := 0, total := 0, optical := 0, residual := 0, panCount := 0, prevSign := .cleared }
    let gap := s.raise condMotionGap
    (g ≤ 8 → exec (.rateSample seq yaw pitch) s = exec (.rateSample seq yaw pitch) (gap.setMou { s.mou with
      yaw := filled s.mou.yaw, pitch := filled s.mou.pitch, lastSeq := none })) ∧
    (8 < g → exec (.rateSample seq yaw pitch) s = exec (.rateSample seq yaw pitch) (gap.setMou { s.mou with
      yaw := cleared s.mou.yaw, pitch := cleared s.mou.pitch, target := ⟨0, 0⟩, targetBefore := none, lastSeq := none }))) ∧
  ∀ (s : State) (seq : Nat) (yaw pitch : Int),
    (s.mou.lastSeq = none ∨ ∃ last, s.mou.lastSeq = some last ∧ seq = (last + 1) % 256) → seq < 256 →
    let p := s.mou.params
    let row := if s.lds.zoom.valid = true then min 32 (s.lds.zoom.pos / 64) else 32
    let k := if s.tableValid zoomId = true then tbl16 (s.working zoomId) (8 * row + 2) else 0
    let rule := fun (x y : Axis) (r : Int) =>
      let candidate := p.panRef ≤ y.rate.natAbs ∧
        ((0 < y.rate ∧ x.prevSign = .positive) ∨ (y.rate < 0 ∧ x.prevSign = .negative))
      let leak := if p.panDeb ≤ y.panCount then p.leakShift - 3 else p.leakShift
      y.bias = (if s.mou.pan then x.bias else x.bias + Int.tdiv (256 * r - x.bias) (2 ^ p.biasShift)) ∧
      y.rate = max (-32767) (min 32767 (r - divRoundAway y.bias 256)) ∧
      (candidate → y.panCount = min 255 (x.panCount + 1)) ∧ (¬ candidate → y.panCount = 0) ∧
      y.prevSign = (if 0 < y.rate then .positive else if y.rate < 0 then .negative else .cleared) ∧
      y.angle = max (-2147483647) (min 2147483647 (x.angle + y.rate * p.dt - Int.tdiv x.angle (2 ^ leak))) ∧
      y.total = -divRoundAway (y.angle * k) 16777216 ∧
      y.optical = (if s.mou.mode = .optical then max (-2047) (min 2047 y.total) else 0) ∧
      y.residual = (if s.mou.mode = .off then 0 else y.total - y.optical)
    ∃ t, exec (.rateSample seq yaw pitch) s = .next t ∧ rule s.mou.yaw t.mou.yaw yaw ∧ rule s.mou.pitch t.mou.pitch pitch ∧
      (let y := p.panDeb ≤ t.mou.yaw.panCount
       let x := p.panDeb ≤ t.mou.pitch.panCount
       t.mou.pan = true ↔ if p.combination = .or then (p.yawEnable = true ∧ y) ∨ (p.pitchEnable = true ∧ x)
         else (p.yawEnable = true ∨ p.pitchEnable = true) ∧ (p.yawEnable = true → y) ∧ (p.pitchEnable = true → x)) ∧
      (let error := fun (y : Axis) (r : Int) => if s.mou.mode = .optical then y.total - r else y.total
       let a := error t.mou.yaw s.mou.readback.yaw
       let b := error t.mou.pitch s.mou.readback.pitch
       t.mou.window = s.mou.window.map fun w =>
         ⟨max w.yawMax a, min w.yawMin a, max w.pitchMax b, min w.pitchMin b, w.count + 1⟩) ∧
      t.mou.target = ⟨t.mou.yaw.optical, t.mou.pitch.optical⟩ ∧
      t.mou.targetBefore = some s.mou.target ∧
      t.mou.peak = max s.mou.peak (max t.mou.yaw.rate.natAbs t.mou.pitch.rate.natAbs) ∧
      t.mou.panSeen = (s.mou.panSeen || t.mou.pan) ∧ t.mou.sampleSeen = true ∧ t.mou.lastSeq = some seq ∧
      { t.mou with
        yaw := s.mou.yaw, pitch := s.mou.pitch, pan := s.mou.pan, target := s.mou.target, peak := s.mou.peak
        targetBefore := s.mou.targetBefore, panSeen := s.mou.panSeen, sampleSeen := s.mou.sampleSeen
        lastSeq := s.mou.lastSeq, window := s.mou.window } = s.mou ∧
      (let clamps := s.mou.mode = .optical ∧
          (t.mou.yaw.optical ≠ t.mou.yaw.total ∨ t.mou.pitch.optical ≠ t.mou.pitch.total)
       (clamps → t.cnd = cndRaise (cndSetLevel s.cnd condPan t.mou.pan) condShiftLimit ∧
         t.cst = { s.cst with slots := s.cst.slots.map fun x => if x.state = .filling
           then { x with record := x.record.map fun r => { r with shiftLimit := true } } else x }) ∧
       (¬ clamps → t.cnd = cndSetLevel s.cnd condPan t.mou.pan ∧ t.cst = s.cst)) ∧
      ((t.setMou s.mou).setCnd s.cnd).setCst s.cst = s

/-- READBACK (R133, R134), STROBE_RISE and STROBE_FALL (R135, R136). A readback is held; in OPTICAL one off the target of
the sample before by more than the tolerance counts, and at shift_fault_count the unit enters ELECTRONIC in fault, which
SHIFT_FAULT follows; one within it clears the count. A rise opens a blur window on the errors of the moment; a fall makes
its record, which joins the queue, the oldest of a full queue being lost. That an edge to the level the line has already
does nothing is the model's choice (log entry 2). -/
def Obligations.ReadbackAndStrobe : Prop :=
  (∀ (s : State) (y p : Int), (∀ a, s.mou.mode = .optical → s.mou.targetBefore ≠ some a) →
    exec (.readback y p) s = .next (s.setMou { s.mou with readback := ⟨y, p⟩ })) ∧
  (∀ (s : State) (y p : Int) (a : AxisPair), s.mou.mode = .optical → s.mou.targetBefore = some a →
    let fails := s.mou.params.shiftTol < (y - a.yaw).natAbs ∨ s.mou.params.shiftTol < (p - a.pitch).natAbs
    let n := min 15 (s.mou.faultCount + 1)
    (¬ fails → exec (.readback y p) s = .next (s.setMou { s.mou with readback := ⟨y, p⟩, faultCount := 0 })) ∧
    (fails → n < s.mou.params.shiftFaultCount →
      exec (.readback y p) s = .next (s.setMou { s.mou with readback := ⟨y, p⟩, faultCount := n })) ∧
    (fails → s.mou.params.shiftFaultCount ≤ n →
      exec (.readback y p) s = .next ((s.setMou { s.mou with
        readback := ⟨y, p⟩, faultCount := 0, fault := true, mode := .electronic }).setCnd
          (cndSetLevel s.cnd condShiftFault true)))) ∧
  (∀ s : State, s.mou.strobe = true → exec .strobeRise s = .next s) ∧
  (∀ s : State, s.mou.strobe = false → exec .strobeFall s = .next s) ∧
  (∀ s : State, s.mou.strobe = false →
    let error := fun (x : Axis) (r : Int) => if s.mou.mode = .optical then x.total - r else x.total
    let y := error s.mou.yaw s.mou.readback.yaw
    let p := error s.mou.pitch s.mou.readback.pitch
    exec .strobeRise s = .next (s.setMou { s.mou with strobe := true, window := some ⟨y, y, p, p, 0⟩ })) ∧
  (∀ s : State, s.mou.strobe = true → s.mou.window = none →
    exec .strobeFall s = .next (s.setMou { s.mou with strobe := false })) ∧
  ∀ (s : State) (w : BlurWindow), s.mou.strobe = true → s.mou.window = some w →
    let r : BlurRecord :=
      ⟨min 65535 (w.yawMax - w.yawMin).toNat, min 65535 (w.pitchMax - w.pitchMin).toNat, min 65535 w.count⟩
    exec .strobeFall s = .next (s.setMou { s.mou with
      strobe := false, window := none
      queue := (if 4 ≤ s.mou.queue.length then s.mou.queue.tail else s.mou.queue) ++ [r] })

/-! ### Capture store (chapter 8) -/

/-- STORE_SETUP (R145) and SHUTTER_SETUP (R160): STORE_SETUP in IDLE only, and refused where an enumeration or a mask is
out of its range, before any other check of its arguments, and each is read by its listing; a new slot count divides the
memory anew when every slot is FREE; at the same count the slots stay, but those whose frame has been sent whole are freed
under AUTO release (R155). That a freed slot keeps its storing order, the rest of its record being cleared, is the model's
choice (log entries 41, 72), and so is the storing order 0 of the slots that a new slot count makes (78). -/
def Obligations.StoreAndShutterSetup : Prop :=
  (∀ (s : State) (tag : Tag) (a : StoreSetupArgs), s.turnOf (.storeSetup tag (.args a)) →
    (storeChoice? a = none ↔ 3 < a.mode ∨ 1 < a.policy ∨ 2 ^ 3 ≤ a.gateMask ∨ 1 < a.timeoutAction ∨ 2 ^ 5 ≤ a.filterMask ∨
      2 ^ 6 ≤ a.holdMask ∨ 1 < a.releaseMode ∨ 3 < a.noticeMode) ∧
    (∀ c, storeChoice? a = some c → c =
      { mode := if a.mode = 0 then .off else if a.mode = 1 then .stream else if a.mode = 2 then .burst else .pretrigger
        overflow := if a.policy = 0 then .stop else .overwrite
        gate := ⟨a.gateMask.testBit 0, a.gateMask.testBit 1, a.gateMask.testBit 2⟩
        timeoutAction := if a.timeoutAction = 0 then .proceed else .cancel
        filter := { blurred := a.filterMask.testBit 0, irisMoving := a.filterMask.testBit 1
                    zoomMoving := a.filterMask.testBit 2, focusMoving := a.filterMask.testBit 3
                    aeUnsettled := a.filterMask.testBit 4 }
        hold := { forced := a.holdMask.testBit 0, blurred := a.holdMask.testBit 1
                  clippedSubject := a.holdMask.testBit 2, shiftLimit := a.holdMask.testBit 3
                  trackLimit := a.holdMask.testBit 4, aeUnsettled := a.holdMask.testBit 5 }
        release := if a.releaseMode = 0 then .auto else .explicit
        notice := if a.noticeMode = 0 then .none else if a.noticeMode = 1 then .first
          else if a.noticeMode = 2 then .every else .heldOnly }) ∧
    (storeChoice? a = none → s.cst.state = .idle →
      exec (.storeSetup tag (.args a)) s = .next (s.replied tag 24 (answer .refusedArg))) ∧
    (storeChoice? a = none → s.cst.state ≠ .idle →
      exec (.storeSetup tag (.args a)) s = .next (s.replied tag 24 (answer .refusedState)))) ∧
  (∀ (s : State) (tag : Tag) (a : StoreSetupArgs) (c : StoreChoice), s.turnOf (.storeSetup tag (.args a)) →
    storeChoice? a = some c →
    let bytes := s.intake.geometry.outW * s.intake.geometry.outH * 3 / 2
    let refused := a.slots < 2 ∨ 24 < a.slots ∨ 268435456 / a.slots < bytes ∨ (c.mode = .pretrigger ∧ a.slots = 2)
    let p : StoreParams :=
      { mode := c.mode, overflow := c.overflow, nAfter := max 1 (min 255 a.nAfter)
        nPre := max 1 (min (max 1 (min 16 (a.slots - 2))) a.nPre), gate := c.gate, gateTimeout := min 255 a.gateTimeout
        timeoutAction := c.timeoutAction, filter := c.filter, skipMax := min 15 a.skipMax, hold := c.hold
        release := c.release, notice := c.notice }
    let status := answer (if p.nAfter = a.nAfter ∧ p.nPre = a.nPre ∧ p.gateTimeout = a.gateTimeout ∧ p.skipMax = a.skipMax
      then .done else .doneClamped)
    (s.cst.state ≠ .idle → exec (.storeSetup tag (.args a)) s = .next (s.replied tag 24 (answer .refusedState))) ∧
    (s.cst.state = .idle → refused →
      exec (.storeSetup tag (.args a)) s = .next (s.replied tag 24 (answer .refusedArg))) ∧
    (s.cst.state = .idle → ¬ refused → a.slots ≠ s.cst.slots.length →
      ((∃ x ∈ s.cst.slots, x.state ≠ .free) →
        exec (.storeSetup tag (.args a)) s = .next (s.replied tag 24 (answer .refusedState))) ∧
      ((∀ x ∈ s.cst.slots, x.state = .free) → exec (.storeSetup tag (.args a)) s = .next ((s.setCst { s.cst with
        params := p, slots := List.replicate a.slots freeSlot }).replied tag 24 status))) ∧
    (s.cst.state = .idle → ¬ refused → a.slots = s.cst.slots.length →
      ∃ t, exec (.storeSetup tag (.args a)) s = .next t ∧
        t.cst = { s.cst with
          params := p
          slots := s.cst.slots.map fun x =>
            if c.release = .auto ∧ x.state = .ready ∧ x.recordSent = true ∧ x.imageSent = true
            then { freeSlot with order := x.order } else x } ∧
        t.lnk = (s.replied tag 24 status).lnk ∧ ((t.setCst s.cst).setCnd s.cnd).setLnk s.lnk = s)) ∧
  ∀ (s : State) (tag : Tag) (a : ShutterSetupArgs), s.turnOf (.shutterSetup tag (.args a)) →
    (1 < a.s1Enable ∨ 1 < a.s2Enable →
      exec (.shutterSetup tag (.args a)) s = .next (s.replied tag 34 (answer .refusedArg))) ∧
    (a.s1Enable ≤ 1 → a.s2Enable ≤ 1 → exec (.shutterSetup tag (.args a)) s = .next ((s.setCst { s.cst with
      debounce := min 50 a.debounce, s1 := { s.cst.s1 with enable := decide (a.s1Enable = 1) }
      s2 := { s.cst.s2 with enable := decide (a.s2Enable = 1) } }).replied tag 34
        (answer (if a.debounce ≤ 50 then .done else .doneClamped))))

/-- STORE_START (R143), STORE_STOP (R144, R54) and NOTICE_ARM (R159): a STREAM capture is CAPTURING and a PRETRIGGER one
ARMED at once, with a new capture id and counters 0; BURST only arms the notice. STORE_STOP ends any capture: no slot is
FILLING, AEC is told when it had been triggered, and an S1 release that was withheld goes to AFC when S1 is still released
(R161): it ends a scan as AF_CANCEL does, and LOCKED in IDLE (R87). TRIGGER (R150, R53): taken in IDLE with mode BURST and
in ARMED with mode PRETRIGGER; the gate opens on a new trigger number, whose mark only records issued from now on can
carry; a BURST also begins a new capture. That the slot which STORE_STOP frees keeps its storing order, the rest of its
record being cleared (log entries 41, 72), and that a PRETRIGGER start sets the skip counter to 0 as a STREAM start does
(62), are the model's choice. -/
def Obligations.CapturesStartTriggerStop : Prop :=
  (∀ (s : State) (tag : Tag), s.turnOf (.trigger tag (.args ())) →
    let n := (s.aec.trigger + 1) % 256
    let unmarked := fun x : Issue => { x with mark := none }
    let t := (s.setAec { s.aec with
      program := .capture, trigger := n, markDue := true
      inFlight := s.aec.inFlight.map fun r => { r with issue := unmarked r.issue }
      awaiting := s.aec.awaiting.map unmarked, retry := s.aec.retry.map unmarked
      sequence := s.aec.sequence.map fun w => { w with issue := unmarked w.issue } }).setCst { s.cst with
        gateCount := 0, skips := 0, state := .gating, forced := false, trigger := n }
    (s.cst.state = .idle → s.cst.params.mode = .burst →
      exec (.trigger tag (.args ())) s = .next ((t.setCst { t.cst with
        captureId := (s.cst.captureId + 1) % 65536, counters := ⟨0, 0, 0, 0, 0, 0, 0⟩ }).replied tag 27 (answer .accepted))) ∧
    (s.cst.state = .armed → s.cst.params.mode = .pretrigger →
      exec (.trigger tag (.args ())) s = .next (t.replied tag 27 (answer .accepted))) ∧
    ((s.cst.state = .idle ∧ s.cst.params.mode ≠ .burst) ∨ (s.cst.state = .armed ∧ s.cst.params.mode ≠ .pretrigger) →
      exec (.trigger tag (.args ())) s = .next (s.replied tag 27 (answer .refusedState))) ∧
    (s.cst.state = .gating ∨ s.cst.state = .capturing →
      exec (.trigger tag (.args ())) s = .next (s.replied tag 27 (answer .refusedBusy)))) ∧
  (∀ (s : State) (tag : Tag), s.turnOf (.storeStart tag (.args ())) →
    let begun := fun st : CaptureState => { s.cst with
      captureId := (s.cst.captureId + 1) % 65536, counters := ⟨0, 0, 0, 0, 0, 0, 0⟩, state := st, skips := 0
      forced := false, noticeArmed := true }
    (s.cst.params.mode = .off →
      exec (.storeStart tag (.args ())) s = .next (s.replied tag 25 (answer .refusedState))) ∧
    (s.cst.params.mode ≠ .off → s.cst.state ≠ .idle →
      exec (.storeStart tag (.args ())) s = .next (s.replied tag 25 (answer .refusedBusy))) ∧
    (s.cst.state = .idle → s.cst.params.mode = .stream →
      exec (.storeStart tag (.args ())) s = .next ((s.setCst (begun .capturing)).replied tag 25 (answer .done))) ∧
    (s.cst.state = .idle → s.cst.params.mode = .pretrigger →
      exec (.storeStart tag (.args ())) s = .next ((s.setCst (begun .armed)).replied tag 25 (answer .done))) ∧
    (s.cst.state = .idle → s.cst.params.mode = .burst →
      exec (.storeStart tag (.args ())) s =
        .next ((s.setCst { s.cst with noticeArmed := true }).replied tag 25 (answer .done)))) ∧
  (∀ (s : State) (tag : Tag), s.turnOf (.storeStop tag (.args ())) → s.cst.state = .idle →
    exec (.storeStop tag (.args ())) s = .next (s.replied tag 26 (answer .done))) ∧
  (∀ (s : State) (tag : Tag), s.turnOf (.storeStop tag (.args ())) → s.cst.state ≠ .idle →
    let told := s.cst.state = .gating ∨ (s.cst.state = .capturing ∧ s.cst.params.mode ≠ .stream)
    let a := if told then { s.aec with program := .live, markDue := false } else s.aec
    let c := if ∃ x ∈ s.cst.slots, x.state = .filling then cndSetLevel s.cnd condStoreFull false else s.cnd
    let u := ((s.setAec a).setCnd c).setCst { s.cst with
      state := .idle, forced := false, withheldRelease := false
      slots := s.cst.slots.map fun x => if x.state = .filling then { freeSlot with order := x.order } else x }
    let passes := s.cst.withheldRelease = true ∧ s.cst.s1.debounced = false
    let settled := decide (a.params.settleCount ≤ a.settledCount)
    let runsOn := fun v : State => if a.state = .held
      then (v.setAec { a with state := .run, settled := settled }).setCnd (cndSetLevel c condAeSettled settled) else v
    (¬ passes ∨ s.afc.state = .idle ∨ s.afc.state = .monitor ∨ s.afc.state = .failed →
      exec (.storeStop tag (.args ())) s = .next (u.replied tag 26 (answer .done))) ∧
    (passes → s.afc.state = .locked → exec (.storeStop tag (.args ())) s =
      .next ((runsOn (u.setAfc { s.afc with
        state := .idle, primary := none, lock := none, primaryFigure := none, frame := none })).replied tag 26
          (answer .done))) ∧
    (passes → s.afc.state = .coarse ∨ s.afc.state = .fine ∨ s.afc.state = .settle →
      exec (.storeStop tag (.args ())) s =
        .next ((runsOn ((u.setAfc { s.afc with state := .idle, scan := none, rescanAfterZoom := false }).setLds { s.lds with
          slots := { s.lds.slots with af := none }, stack := s.lds.stack.filter fun x => decide (x.source ≠ .af)
          running := s.lds.running.map fun m => if m.source = .af then { m with stop := true } else m })).replied tag 26
            (answer .done)))) ∧
  ∀ (s : State) (tag : Tag), s.turnOf (.noticeArm tag (.args ())) →
    exec (.noticeArm tag (.args ())) s =
      .next ((s.setCst { s.cst with noticeArmed := true }).replied tag 33 (answer .done))

/-- ACCEPT, DISCARD and RELEASE (R155, R141): a HELD slot becomes READY in its place, or FREE at once where AUTO release
finds its frame sent whole; DISCARD frees a HELD slot and RELEASE a READY one; STORE_FULL follows. Any other slot is
refused. That a freed slot keeps its storing order, the rest of its record being cleared, is the model's choice (log
entries 41, 72). -/
def Obligations.HostJudgesSlots : Prop :=
  ∀ (s : State) (tag : Tag) (n : Nat) (i : Instr) (code : Byte), s.turnOf i →
    (i = .accept tag (.args n) ∧ code = 28) ∨ (i = .discard tag (.args n) ∧ code = 29) ∨
      (i = .release tag (.args n) ∧ code = 30) →
    let need := if i = .release tag (.args n) then SlotState.ready else .held
    (s.cst.slots.length ≤ n → exec i s = .next (s.replied tag code (answer .refusedArg))) ∧
    ∀ x, s.cst.slots[n]? = some x →
      (x.state ≠ need → exec i s = .next (s.replied tag code (answer .refusedState))) ∧
      (x.state = need →
        let frees := ¬ i = .accept tag (.args n) ∨
          (s.cst.params.release = .auto ∧ x.recordSent = true ∧ x.imageSent = true)
        let y := if frees then { freeSlot with order := x.order } else { x with state := .ready }
        s.ConditionsFollow →
        exec i s = .next (((s.setCst { s.cst with slots := s.cst.slots.set n y }).setCnd
          (if frees then cndSetLevel s.cnd condStoreFull false else s.cnd)).replied tag code (answer .done)))

/-- FETCH (R156, R157): OLDEST takes the head of the ready list, NEWEST its tail, SLOT a READY or HELD slot by number. The
record asked for is fixed at once; a slot whose image is asked is SENDING; an OLDEST that finds a HELD head sends its
record alone, marked. SEND_ABORT (R158): a fetch of the record alone ends; one of an image is aborted unless its final
line is being sent, and its slot returns to the state it had, or under AUTO release is freed where it returns to READY
with both sent flags true (R155); STORE_FULL follows. That the freed slot keeps its storing order, the rest of its record
being cleared, is the model's choice (log entries 41, 72). -/
def Obligations.FetchAndAbort : Prop :=
  (∀ (s : State) (tag : Tag) (a : FetchArgs), s.turnOf (.fetch tag (.args a)) →
    (2 < a.selector ∨ 2 < a.parts ∨ (a.selector = 2 ∧ s.cst.slots.length ≤ a.slot) →
      exec (.fetch tag (.args a)) s = .next (s.replied tag 31 (answer .refusedArg))) ∧
    (a.selector ≤ 2 → a.parts ≤ 2 → (a.selector = 2 → a.slot < s.cst.slots.length) →
      (s.cst.fetch.isSome = true → exec (.fetch tag (.args a)) s = .next (s.replied tag 31 (answer .refusedBusy))) ∧
      (s.cst.fetch = none →
        let ready := fun n => ∃ x, s.cst.slots[n]? = some x ∧ (x.state = .ready ∨ x.state = .held)
        ((a.selector ≤ 1 ∧ readyList s.cst.slots = []) ∨ (a.selector = 2 ∧ ¬ ready a.slot) →
          exec (.fetch tag (.args a)) s = .next (s.replied tag 31 (answer .refusedState))) ∧
        ∀ (n : Nat) (x : Slot) (r : FrameRecord),
          (a.selector = 0 ∧ (readyList s.cst.slots).head? = some n) ∨
            (a.selector = 1 ∧ (readyList s.cst.slots).getLast? = some n) ∨ (a.selector = 2 ∧ a.slot = n ∧ ready n) →
          s.cst.slots[n]? = some x → x.record = some r →
          let held := decide (a.selector = 0 ∧ x.state = .held)
          let record := decide (a.parts ≠ 1) || held
          let image := decide (a.parts ≠ 0) && !held
          let slots := if image then s.cst.slots.set n { x with state := .sending, before := x.state } else s.cst.slots
          exec (.fetch tag (.args a)) s = .next (((s.setCst { s.cst with
            slots := slots
            fetch := some ⟨tag, n, x.order, if record then some ⟨n, x.state, held, r⟩ else none, image, 0, false, false⟩ }).setCnd
              (if image then cndSetLevel s.cnd condStoreFull (storeFull slots) else s.cnd)).replied tag 31
                (answer .accepted))))) ∧
  ∀ (s : State) (tag : Tag), s.turnOf (.sendAbort tag (.args ())) →
    (s.cst.fetch = none → exec (.sendAbort tag (.args ())) s = .next (s.replied tag 32 (answer .done))) ∧
    ∀ f, s.cst.fetch = some f →
      (sendingFinal s.lnk = true → exec (.sendAbort tag (.args ())) s = .next (s.replied tag 32 (answer .done))) ∧
      (sendingFinal s.lnk = false → f.image = false →
        exec (.sendAbort tag (.args ())) s =
          .next ((s.setCst { s.cst with fetch := none }).replied tag 32 (answer .done))) ∧
      (sendingFinal s.lnk = false → f.image = true → ∀ x, s.cst.slots[f.slot]? = some x → x.state = .sending →
        let frees := s.cst.params.release = .auto ∧ x.before = .ready ∧ x.recordSent = true ∧ x.imageSent = true
        ∃ t, exec (.sendAbort tag (.args ())) s = .next t ∧
          t.cst = { s.cst with
            fetch := some { f with aborted := true, record := none }
            slots := s.cst.slots.set f.slot
              (if frees then { freeSlot with order := x.order } else { x with state := x.before }) } ∧
          (s.ConditionsFollow → x.before = .ready ∨ x.before = .held →
            t.cnd = if frees then cndSetLevel s.cnd condStoreFull false else s.cnd) ∧
          t.lnk = (s.replied tag 32 (answer .done)).lnk ∧ ((t.setCst s.cst).setCnd s.cnd).setLnk s.lnk = s)

/-- SHUTTER_LEVEL_CHANGE and DEBOUNCE_EXPIRY (R160, R161): a new raw level restarts the timer with the debounce time, 0
taking effect at once; at its expiry the debounced level takes the raw one. On an enabled line an S2 assertion is a
trigger, ignored where one would be refused (R150). An S1 assertion drops a withheld release and, in SINGLE or CONTINUOUS
with AFC in IDLE or FAILED, acts as AF_START does where its checks pass (R85, R87). An S1 release in GATING or CAPTURING
is withheld; elsewhere it reaches AFC (R87), ending a scan as AF_CANCEL does, and LOCKED in IDLE. What AFC is told is
followed by the drive's grant (R65). That a change to the raw level held, and an expiry with no timer running, do nothing
is the model's choice (log entry 2). -/
def Obligations.ShutterLineDebounced : Prop :=
  (∀ (s : State) (w : ShutterLine) (b : Bool), (s.cst.shutter w).raw = b →
    exec (.shutterLevelChange w b) s = .next s) ∧
  (∀ (s : State) (w : ShutterLine) (b : Bool), (s.cst.shutter w).raw ≠ b → s.cst.debounce ≠ 0 →
    exec (.shutterLevelChange w b) s = .next (s.setCst (s.cst.setShutter w { s.cst.shutter w with
      raw := b, timer := some s.cst.debounce }))) ∧
  (∀ (s : State) (w : ShutterLine) (b : Bool), (s.cst.shutter w).raw ≠ b → s.cst.debounce = 0 →
    exec (.shutterLevelChange w b) s =
      exec (.debounceExpiry w) (s.setCst (s.cst.setShutter w { s.cst.shutter w with raw := b, timer := some 0 }))) ∧
  (∀ (s : State) (w : ShutterLine), (s.cst.shutter w).timer = none → exec (.debounceExpiry w) s = .next s) ∧
  ∀ (s : State) (w : ShutterLine), (s.cst.shutter w).timer.isSome = true →
    let x := s.cst.shutter w
    let c := s.cst.setShutter w { x with timer := none, debounced := x.raw }
    (x.raw = x.debounced ∨ x.enable = false ∨ (w = .s2 ∧ x.raw = false) ∨
        (w = .s2 ∧ (triggerRefusal s.cst).isSome = true) →
      exec (.debounceExpiry w) s = .next (s.setCst c)) ∧
    (x.raw ≠ x.debounced → x.enable = true → w = .s1 → x.raw = false → s.cst.state = .gating ∨ s.cst.state = .capturing →
      exec (.debounceExpiry w) s = .next (s.setCst { c with withheldRelease := true })) ∧
    (x.raw ≠ x.debounced → x.enable = true → w = .s1 → x.raw = false → s.cst.state ≠ .gating → s.cst.state ≠ .capturing →
      let u := s.setCst c
      (s.afc.state = .coarse ∨ s.afc.state = .fine ∨ s.afc.state = .settle → ∀ tag, u.turnOf (.afCancel tag (.args ())) →
        ∃ v, exec (.afCancel tag (.args ())) u = .next v ∧ exec (.debounceExpiry w) s = .next (v.setLnk s.lnk).grant) ∧
      (s.afc.state = .locked → s.aec.state ≠ .held → exec (.debounceExpiry w) s = .next (u.setAfc { s.afc with
        state := .idle, primary := none, lock := none, primaryFigure := none, frame := none }).grant) ∧
      (s.afc.state = .idle ∨ s.afc.state = .monitor ∨ s.afc.state = .failed →
        exec (.debounceExpiry w) s = .next u.grant)) ∧
    (x.raw ≠ x.debounced → x.enable = true → w = .s1 → x.raw = true →
      let u := s.setCst { c with withheldRelease := false }
      let passed := (s.afc.mode = .single ∨ s.afc.mode = .continuous) ∧ (s.afc.state = .idle ∨ s.afc.state = .failed)
      let taken := s.zmc.mode = .idle ∧ s.tableValid zoomId = true ∧ s.lds.focus.valid = true ∧ s.lds.zoom.valid = true ∧
        ∃ y ∈ s.afc.windows.take 8, y.enabled = true
      (¬ passed → exec (.debounceExpiry w) s = .next u) ∧
      (passed → ¬ taken → exec (.debounceExpiry w) s = .next u.grant) ∧
      (passed → taken → ∀ tag, u.turnOf (.afStart tag (.args ())) →
        ∃ v, exec (.afStart tag (.args ())) u = .next v ∧ v.afc.state = .coarse ∧
          exec (.debounceExpiry w) s = .next (v.setLnk s.lnk))) ∧
    (x.raw ≠ x.debounced → x.enable = true → w = .s2 → x.raw = true → triggerRefusal s.cst = none →
      ∃ t, exec (.debounceExpiry w) s = .next t ∧ t.cst.state = .gating ∧ t.aec.program = .capture ∧
        t.aec.markDue = true ∧ t.aec.trigger = (s.aec.trigger + 1) % 256 ∧ t.cst.trigger = t.aec.trigger ∧
        t.cst.s2 = c.s2 ∧ (t.setCst s.cst).setAec s.aec = s)

/-! ### Conditions (chapter 9) -/

/-- How a condition follows its events and its level (R163 to R169), its commands (R168, R171), and what an SOF and the
timed expiry do to it (R166). Raising or changing latches a clear condition with count 1 and queues a NOTICE where
enabled, and counts up to 255 on a set one; in LEVEL the latch is the level. CONDITIONS_SETUP writes enable, mode and
frame count, LEVEL taking the level over; LEVEL on an event condition is refused. CONDITIONS_CLEAR reports and clears,
latching anew a state condition whose level stands elsewhere than it was latched; an SOF counts a TIMED latch down, which
is cleared so at its last frame, and with INTAKE STOPPED it holds. That the expiry is an event of its own, which acts only
on a counter about to reach 0, is the model's choice (log entry 8), and so is the 0 that a frame counter holds once it is
stopped (74). -/
def Obligations.ConditionsLatchClearAndSetUp : Prop :=
  let latched := fun (x : Condition) => { x with latch := true, count := 1, frames := if x.mode = .timed then x.n else x.frames }
  let again := fun (x : Condition) =>
    { x with count := min 255 (x.count + 1), frames := if x.mode = .timed then x.n else x.frames }
  let relatch := fun (k : Nat) (x : Condition) =>
    (k = condAeSettled ∨ k = condPan ∨ k = condShiftFault ∨ k = condStoreFull) ∧ x.current ≠ x.latchedLevel
  let cleared := fun (k : Nat) (x : Condition) => if x.mode = .level ∨ x.latch = false then x
    else if relatch k x then
      { x with latchedLevel := x.current, count := 1, frames := if x.mode = .timed then x.n else 0 }
    else { x with latch := false, count := 0, frames := 0 }
  (∀ (s : State) (k j : Nat), s.cnd.conditions.length = 25 → k < 25 →
    let x := s.cnd.condition k
    (s.raise k).cnd.condition j = (if j = k then (if x.latch then again x else latched x) else s.cnd.condition j) ∧
    (s.raise k).cnd.waiting = (s.cnd.waiting || (!x.latch && x.notice))) ∧
  (∀ (s : State) (k j : Nat) (b : Bool), s.cnd.conditions.length = 25 → k < 25 →
    let x := s.cnd.condition k
    (x.current = b → (s.level k b).cnd = s.cnd) ∧
    (x.current ≠ b →
      (s.level k b).cnd.condition j = (if j = k then
        (if x.mode = .level then { x with current := b, latch := b, latchedLevel := b, count := if b then 1 else 0 }
         else if x.latch then again { x with current := b } else latched { x with current := b, latchedLevel := b })
        else s.cnd.condition j) ∧
      (s.level k b).cnd.waiting = (s.cnd.waiting || ((decide (x.mode = .level) || !x.latch) && x.notice)))) ∧
  (∀ (s : State) (tag : Tag) (a : ConditionsSetupArgs), s.turnOf (.conditionsSetup tag (.args a)) →
    (1 < a.enable ∨ 2 < a.mode ∨ 2 ^ 25 ≤ a.set ∨
        (a.mode = 2 ∧ ∃ k < 25, a.set.testBit k = true ∧ k ≠ condAeSettled ∧ k ≠ condPan ∧ k ≠ condShiftFault ∧
          k ≠ condStoreFull) →
      exec (.conditionsSetup tag (.args a)) s = .next (s.replied tag 35 (answer .refusedArg)))) ∧
  (∀ (s : State) (tag : Tag) (a : ConditionsSetupArgs), s.turnOf (.conditionsSetup tag (.args a)) →
    s.cnd.conditions.length = 25 → a.enable ≤ 1 → a.mode ≤ 2 → a.set < 2 ^ 25 →
    (a.mode = 2 → ∀ k < 25, a.set.testBit k = true → k = condAeSettled ∨ k = condPan ∨ k = condShiftFault ∨
      k = condStoreFull) →
    let n := max 1 (min 255 a.n)
    ∃ t, exec (.conditionsSetup tag (.args a)) s = .next t ∧ t.cnd.waiting = s.cnd.waiting ∧
      t.lnk = (s.replied tag 35 (answer (if n = a.n then .done else .doneClamped))).lnk ∧
      (t.setCnd s.cnd).setLnk s.lnk = s ∧
      ∀ k, let x := s.cnd.condition k
        let y := t.cnd.condition k
        (a.set.testBit k = false → y = x) ∧
        (a.set.testBit k = true →
          y.notice = decide (a.enable = 1) ∧ y.n = n ∧ y.current = x.current ∧
          (y.mode = if a.mode = 0 then .latched else if a.mode = 1 then .timed else .level) ∧
          (a.mode = 2 → x.mode ≠ .level →
            y.latch = x.current ∧ y.latchedLevel = x.current ∧ y.count = (if x.current then 1 else 0) ∧ y.frames = 0) ∧
          (a.mode ≠ 2 ∨ x.mode = .level → y.latch = x.latch ∧ y.latchedLevel = x.latchedLevel ∧ y.count = x.count) ∧
          (a.mode = 1 → y.frames = if x.latch then n else 0) ∧ (a.mode = 0 → y.frames = 0))) ∧
  (∀ (s : State) (tag : Tag) (set : Nat), s.turnOf (.conditionsClear tag (.args set)) →
    s.cnd.conditions.length = 25 →
    (2 ^ 25 ≤ set → exec (.conditionsClear tag (.args set)) s = .next (s.replied tag 36 (answer .refusedArg))) ∧
    (set < 2 ^ 25 → ∃ t, exec (.conditionsClear tag (.args set)) s = .next t ∧
      (∀ k, t.cnd.condition k = if set.testBit k then cleared k (s.cnd.condition k) else s.cnd.condition k) ∧
      (t.cnd.waiting = true ↔ s.cnd.waiting = true ∨ ∃ k < 25, set.testBit k = true ∧
        (s.cnd.condition k).mode ≠ .level ∧ (s.cnd.condition k).latch = true ∧ relatch k (s.cnd.condition k) ∧
        (s.cnd.condition k).notice = true) ∧
      t.lnk = (s.replied tag 36 ⟨.done, ((List.range 25).filter set.testBit).flatMap fun k =>
        [BitVec.ofNat 8 k, if (s.cnd.condition k).latch then 1 else 0, BitVec.ofNat 8 (s.cnd.condition k).count], []⟩).lnk ∧
      (t.setCnd s.cnd).setLnk s.lnk = s)) ∧
  (∀ c : Cnd, c.conditions.length = 25 →
    (∀ k < 25, let x := c.condition k
      (cndSof c).condition k = (if x.mode = .timed ∧ x.latch = true
        then (if 1 < x.frames then { x with frames := x.frames - 1 } else cleared k { x with frames := 0 }) else x)) ∧
    ((cndSof c).waiting = true ↔ c.waiting = true ∨ ∃ k < 25, let x := c.condition k
      x.mode = .timed ∧ x.latch = true ∧ x.frames ≤ 1 ∧ relatch k x ∧ x.notice = true)) ∧
  ∀ (s : State) (k : Nat), s.cnd.conditions.length = 25 →
    let x := s.cnd.condition k
    (s.intake.mode = .stopped ∨ x.mode ≠ .timed ∨ x.latch = false ∨ 1 < x.frames →
      exec (.timedLatchExpiry k) s = .next s) ∧
    (s.intake.mode ≠ .stopped → x.mode = .timed → x.latch = true → x.frames ≤ 1 → ∃ t, exec (.timedLatchExpiry k) s = .next t ∧
      t.cnd.condition k = cleared k { x with frames := 0 } ∧
      (∀ j, j ≠ k → t.cnd.condition j = s.cnd.condition j) ∧ t.setCnd s.cnd = s)

/-! ### Host link and tables (chapter 10) -/

/-- The cyclic check (R174) takes each byte most significant bit first from all ones. UPSTREAM_PACKET (R173 to R175,
R187): of the bytes of a packet, kind, tag, two bytes of length, payload, check, one whose last two bytes are the cyclic
check of all before them, high byte first, of its stated length and at most 264 bytes, and of kind COMMAND or TABLE_DATA,
joins the buffer at the tail; any other is dropped, sets the link-error mark and is counted up to 65,535. With four
packets in the buffer the flow control holds the host, and the model leaves the state as it is (log entry 34, the model's
choice). -/
def Obligations.UpstreamPacketJoinsBuffer : Prop :=
  let shifted := fun (c : BitVec 16) (bit : Bool) => if c.getMsbD 0 != bit then c <<< 1 ^^^ 0x1021#16 else c <<< 1
  (crc16 [] = 0xFFFF#16 ∧ (∀ (bytes : List Byte) (b : Byte),
      crc16 (bytes ++ [b]) = (List.range 8).foldl (fun c i => shifted c (b.getMsbD i)) (crc16 bytes)) ∧
    crc16 [49, 50, 51, 52, 53, 54, 55, 56, 57] = 10673#16) ∧
  ∀ (s : State) (p : List Byte),
    let n := p.length - 6
    let crc := (crc16 (p.take (4 + n))).toNat
    let passes := 6 ≤ p.length ∧ p.drop (4 + n) = [BitVec.ofNat 8 (crc / 256), BitVec.ofNat 8 crc] ∧
      256 * (p.getD 2 0).toNat + (p.getD 3 0).toNat = n ∧ n ≤ 264 ∧ (p.getD 0 0 = 0x01#8 ∨ p.getD 0 0 = 0x02#8)
    (4 ≤ s.lnk.buffer.length → exec (.upstreamPacket p) s = .next s) ∧
    (s.lnk.buffer.length < 4 → passes → exec (.upstreamPacket p) s = .next (s.setLnk { s.lnk with
      buffer := s.lnk.buffer ++ [.waiting ⟨decide (p.getD 0 0 = 0x02#8), p.getD 1 0, (p.drop 4).take n⟩] })) ∧
    (s.lnk.buffer.length < 4 → ¬ passes → exec (.upstreamPacket p) s = .next (s.setLnk { s.lnk with
      errorMark := true, errorCount := min 65535 (s.lnk.errorCount + 1) }))

/-- PACKET_BOUNDARY (R155, R157, R158, R162, R170, R172, R174, R175, R178, R187, R189, R190): the packet being sent ends,
and with it, for a RECORD, the record_sent of its frame and a fetch of the record alone, for a final line, its image_sent
and the fetch, whose slot returns, and for an ABORT, the fetch, whose slot is freed after a RESET FULL; under AUTO release
a slot that is READY with both flags true is freed. Then the first class with a packet ready sends one, whole with its
check: what follows the last REPLY, the reply queue, the waiting NOTICE unless a waiting RESET PIPELINE has kept it, the
fetch, the waiting STATS. A REPLY takes its place out of the buffer, carries the link-error mark and clears it. NOTICE,
STATS and RECORD carry the fields of R170, R189 and R190 at their offsets. The address at which a line of the image is
read is the model's choice (log entry 14), and so is what a freed slot keeps: its storing order alone (log entries 41,
72). -/
def Obligations.PacketBoundarySendsByClass : Prop :=
  let b1 := fun n : Nat => [BitVec.ofNat 8 n]
  let b2 := fun n : Nat => [BitVec.ofNat 8 (n / 256), BitVec.ofNat 8 n]
  let b4 := fun n : Nat => b2 (n / 65536) ++ b2 n
  let yes := fun b : Bool => if b = true then [1#8] else [0#8]
  (∀ (c : Cnd) (last : Option Nat),
    let flag := fun b : Bool => if b = true then 1#8 else 0#8
    let p := noticePacket c last
    p.kind = 0x12 ∧ p.tag = 0 ∧ p.payload.length = 60 ∧ p.payload.take 2 = b2 (last.getD 0) ∧
    (∀ k < 25, p.payload[2 + 2 * k]? = some (flag (c.condition k).latch) ∧
      p.payload[3 + 2 * k]? = some (BitVec.ofNat 8 (c.condition k).count)) ∧
    ∀ j < 4, let k := [condAeSettled, condPan, condShiftFault, condStoreFull].getD j 0
      p.payload[52 + 2 * j]? = some (flag (c.condition k).latchedLevel) ∧
      p.payload[53 + 2 * j]? = some (flag (c.condition k).current)) ∧
  (∀ p : StatsPacket, p.means.length = 192 → p.clipped.length = 192 → p.windows.length = 8 →
    let q := statsBytes p
    let from_ := fun a n => (q.payload.drop a).take n
    q.kind = 0x14 ∧ q.tag = 0 ∧ q.payload.length = 884 ∧
    from_ 0 12 = b2 p.fn ++ b2 p.zw ++ b2 p.zh ++ b2 p.clip ++ b1 p.noise ++ [0] ++ b2 p.replaced ∧
    (∀ i < 192, from_ (12 + 2 * i) 2 = b2 (p.means.getD i 0) ∧ from_ (396 + 2 * i) 2 = b2 (p.clipped.getD i 0) ∧
      ∀ b, q.payload[803 - i / 8]? = some b → b.getLsbD (i % 8) = decide (i ∈ p.mask)) ∧
    ∀ k < 8, ∀ w, p.windows[k]? = some w → from_ (804 + 10 * k) 10 = if w.enabled = true
      then [1] ++ yes w.sat ++ b4 w.f ++ b2 w.mean ++ b1 w.columns ++ b1 w.rows else List.replicate 10 0) ∧
  (∀ (tag : Tag) (p : RecordPacket),
    let r := p.record
    let x := r.exposure
    let bit := fun (b : Bool) (n : Nat) => if b = true then 2 ^ n else 0
    let valid := bit r.zoom.valid 0 + bit r.focus.valid 1 + bit r.iris.valid 2
    let moving := bit r.moving.zoom 0 + bit r.moving.focus 1 + bit r.moving.iris 2
    let blur := r.blur.getD ⟨0, 0, 0⟩
    let q := recordPacket tag p
    q.kind = 0x16 ∧ q.tag = tag ∧ q.payload.length = 64 ∧
    q.payload = b1 p.slot ++ b1 p.state.code ++ yes p.heldMark ++ [0] ++ (b2 r.fn ++ b2 r.captureId ++ b1 r.part.code ++
      b1 r.skippedBefore ++ b2 (min 65535 r.index) ++ b2 r.outW ++ b2 r.outH ++ b4 r.length) ++
      (b1 x.tI ++ b1 x.aE ++ b1 x.gA ++ b1 x.gD ++ b2 x.x ++ b1 x.program.code ++ yes x.mark.isSome ++ b1 (x.mark.getD 0) ++
      b1 x.state.code ++ yes x.settled) ++
      (b1 valid ++ b2 r.zoom.pos ++ b2 r.focus.pos ++ b1 r.iris.pos ++ b1 moving) ++
      (b1 r.afState.code ++ b1 (r.primary.getD 255) ++ yes r.primaryFigure.isSome ++ [0] ++ b4 (r.primaryFigure.getD 0)) ++
      (b1 r.shake.code ++ b1 r.stab.code ++ yes r.blur.isSome ++ [0] ++ b2 blur.yaw ++ b2 blur.pitch ++ b2 blur.count ++
      b2 r.cropX ++ b2 r.cropY) ++
      b1 (bit r.forced 0 + bit r.blurred 1 + bit r.clippedSubject 2 + bit r.shiftLimit 3 + bit r.trackLimit 4 +
        bit (!x.settled) 5) ++ [0, 0, 0]) ∧
  let sent := fun (p : Packet) (e : SendEnd) =>
    let bytes := [p.kind, p.tag, BitVec.ofNat 8 (p.payload.length / 256), BitVec.ofNat 8 p.payload.length] ++ p.payload
    let crc := (crc16 bytes).toNat
    some (⟨bytes ++ [BitVec.ofNat 8 (crc / 256), BitVec.ofNat 8 crc], e⟩ : Sending)
  let quiet := fun s : State => s.lnk.sending = none ∧ s.lnk.following = [] ∧ s.lnk.replies = []
  let notice := fun s : State => s.cnd.waiting = true ∧ ∀ w, s.lnk.resetWait = some w → w.noticeKept = false
  let cleared := fun s : State => s.setLnk { s.lnk with sending := none }
  let ended := fun (s : State) (fetch : Option Fetch) (i : Nat) (y : Slot) =>
    let frees := s.cst.params.release = .auto ∧ y.state = .ready ∧ y.recordSent = true ∧ y.imageSent = true
    ((cleared s).setCst { s.cst with
      fetch := fetch, slots := s.cst.slots.set i (if frees then { freeSlot with order := y.order } else y) }).setCnd
        (if frees then cndSetLevel s.cnd condStoreFull false else s.cnd)
  (∀ (s : State) (x : Sending), s.lnk.sending = some x → x.atEnd = .nothing ∨ x.atEnd = .line false →
    exec .packetBoundary s = exec .packetBoundary (cleared s)) ∧
  (∀ (s : State) (x : Sending) (f : Fetch), s.lnk.sending = some x → x.atEnd = .abort → s.cst.fetch = some f →
    (f.freeAtEnd = false → exec .packetBoundary s = exec .packetBoundary ((cleared s).setCst { s.cst with fetch := none })) ∧
    ∀ y, f.freeAtEnd = true → s.cst.slots[f.slot]? = some y → exec .packetBoundary s =
      exec .packetBoundary (((cleared s).setCst { s.cst with
        fetch := none, slots := s.cst.slots.set f.slot { freeSlot with order := y.order } }).setCnd
          (cndSetLevel s.cnd condStoreFull false))) ∧
  (∀ (s : State) (x : Sending) (f : Fetch) (y : Slot), s.ConditionsFollow → s.lnk.sending = some x →
    x.atEnd = .line true → s.cst.fetch = some f → s.cst.slots[f.slot]? = some y → y.state = .sending →
    y.before = .ready ∨ y.before = .held →
    exec .packetBoundary s =
      exec .packetBoundary (ended s none f.slot { y with state := y.before, imageSent := true })) ∧
  (∀ (s : State) (x : Sending) (i order : Nat), s.ConditionsFollow → s.lnk.sending = some x → x.atEnd = .record i order →
    let fetch := s.cst.fetch.bind fun f => if f.image = true ∨ f.record.isSome = true then some f else none
    ((∀ y, s.cst.slots[i]? = some y → y.state = .free ∨ y.order ≠ order) → exec .packetBoundary s =
      exec .packetBoundary ((cleared s).setCst { s.cst with fetch := fetch })) ∧
    ∀ y, s.cst.slots[i]? = some y → y.state ≠ .free → y.order = order → exec .packetBoundary s =
      exec .packetBoundary (ended s fetch i { y with recordSent := true })) ∧
  (∀ (s : State) (p : Packet) (rest : List Packet), s.lnk.sending = none → s.lnk.following = p :: rest →
    exec .packetBoundary s = .next (s.setLnk { s.lnk with following := rest, sending := sent p .nothing })) ∧
  (∀ (s : State) (r : Reply) (rest : List Reply), s.lnk.sending = none → s.lnk.following = [] → s.lnk.replies = r :: rest →
    exec .packetBoundary s = .next (s.setLnk { s.lnk with
      replies := rest, following := r.follow, errorMark := false, buffer := s.lnk.buffer.eraseP fun x => match x with | .answered _ => true | _ => false
      sending := sent ⟨0x11, r.tag, [r.code, r.status.code, if s.lnk.errorMark then 1 else 0, 0] ++ r.data⟩ .nothing })) ∧
  (∀ s : State, quiet s → notice s →
    exec .packetBoundary s = .next ((s.setCnd { s.cnd with waiting := false }).setLnk { s.lnk with
      sending := sent (noticePacket s.cnd s.intake.lastSof) .nothing })) ∧
  (∀ (s : State) (f : Fetch), quiet s → ¬ notice s → s.cst.fetch = some f →
    (f.aborted = true →
      exec .packetBoundary s = .next (s.setLnk { s.lnk with sending := sent ⟨0xD7, f.tag, []⟩ .abort })) ∧
    (∀ p, f.aborted = false → f.record = some p → exec .packetBoundary s = .next ((s.setCst { s.cst with
      fetch := some { f with record := none } }).setLnk { s.lnk with
        sending := sent (recordPacket f.tag p) (.record f.slot f.order) })) ∧
    (∀ (x : Slot) (r : FrameRecord), s.FramesFit → f.aborted = false → f.record = none → f.image = true →
      s.cst.slots[f.slot]? = some x → x.record = some r → f.nextLine < r.outH →
      let final := decide (f.nextLine + 1 = r.outH)
      let first := f.slot * (268435456 / s.cst.slots.length) + f.nextLine * (r.outW * 3 / 2)
      exec .packetBoundary s = .next ((s.setCst { s.cst with fetch := some { f with nextLine := f.nextLine + 1 } }).setLnk
        { s.lnk with
          sending := sent ⟨if final then 0x97 else 0x17, f.tag,
            (List.range (r.outW * 3 / 2)).map fun j => memRead s.cst.dram (first + j)⟩ (.line final) }))) ∧
  (∀ (s : State) (p : StatsPacket), quiet s → ¬ notice s → s.cst.fetch = none → s.stats.waiting = some p →
    exec .packetBoundary s = .next ((s.setStats { s.stats with waiting := none }).setLnk { s.lnk with
      sending := sent (statsBytes p) .nothing })) ∧
  ∀ s : State, quiet s → ¬ notice s → s.cst.fetch = none → s.stats.waiting = none → exec .packetBoundary s = .next s

/-- R180, R183: the fourteen tables have the sizes of R191; TABLE_LOAD writes its bytes into the pending copy of its table
alone, and TABLE_READ gives bytes of the working copy; each is refused in its order of checks; a commit leaves the pending
copy as it is. -/
def Obligations.TableLoadAndRead : Prop :=
  (List.range 14).map tableSize = [6144, 6144, 6144, 6144, 192, 192, 192, 192, 18, 18, 514, 196, 34, 264] ∧
  (∀ (s : State) (tag : Tag) (a : TableLoadArgs), s.turnOf (.tableLoad tag (.args a)) → s.MemoriesCanonical →
    (14 ≤ a.table ∨ tableSize a.table < a.offset + a.data.length →
      exec (.tableLoad tag (.args a)) s = .next (s.replied tag 37 (answer .refusedArg))) ∧
    (a.table < 14 → a.offset + a.data.length ≤ tableSize a.table →
      ((s.table a.table).commitPending = true →
        exec (.tableLoad tag (.args a)) s = .next (s.replied tag 37 (answer .refusedBusy))) ∧
      ((s.table a.table).commitPending = false → ∃ t, exec (.tableLoad tag (.args a)) s = .next t ∧
        (∀ j, memRead (t.table a.table).pending j = if a.offset ≤ j ∧ j < a.offset + a.data.length
          then a.data.getD (j - a.offset) 0 else memRead (s.table a.table).pending j) ∧
        { t.table a.table with pending := (s.table a.table).pending } = s.table a.table ∧
        (∀ k, k ≠ a.table → t.table k = s.table k) ∧
        t.lnk = { (s.replied tag 37 (answer .done)).lnk with tables := t.lnk.tables } ∧ t.setLnk s.lnk = s ∧
        (a.data = [] → t = s.replied tag 37 (answer .done))))) ∧
  (∀ (s : State) (tag : Tag) (n k : Nat) (t : State), exec (.tableCommit tag (.args n)) s = .next t →
    (t.table k).pending = (s.table k).pending) ∧
  ∀ (s : State) (tag : Tag) (a : TableReadArgs), s.turnOf (.tableRead tag (.args a)) →
    (14 ≤ a.table ∨ a.length = 0 ∨ 256 < a.length ∨ tableSize a.table < a.offset + a.length →
      exec (.tableRead tag (.args a)) s = .next (s.replied tag 39 (answer .refusedArg))) ∧
    (a.table < 14 → 1 ≤ a.length → a.length ≤ 256 → a.offset + a.length ≤ tableSize a.table →
      ((s.table a.table).valid = false →
        exec (.tableRead tag (.args a)) s = .next (s.replied tag 39 (answer .refusedTable))) ∧
      ((s.table a.table).valid = true → exec (.tableRead tag (.args a)) s = .next (s.replied tag 39
        ⟨.done, (List.range a.length).map fun j => memRead (s.table a.table).working (a.offset + j), []⟩)))

/-- TABLE_COMMIT (R181, R182, R35): a pending copy with a bad entry is refused with the first one's index. A good one is
pending while INTAKE runs; in STOPPED, where none other is pending, it works at once, TABLE_APPLIED latches, and new TIME
and AGAIN tables bring AEC's held settings within them. The check of every table is as R181 lists it, a bad count, or a
device address above 127, being reported as index 65,535. -/
def Obligations.TableCommitChecksAndApplies : Prop :=
  (∀ (s : State) (tag : Tag) (n : Nat), s.turnOf (.tableCommit tag (.args n)) →
    (14 ≤ n → exec (.tableCommit tag (.args n)) s = .next (s.replied tag 38 (answer .refusedArg))) ∧
    (n < 14 → (s.table n).commitPending = true →
      exec (.tableCommit tag (.args n)) s = .next (s.replied tag 38 (answer .refusedBusy))) ∧
    (∀ i, n < 14 → (s.table n).commitPending = false → commitCheck n (s.table n).pending = some i →
      exec (.tableCommit tag (.args n)) s =
        .next (s.replied tag 38 ⟨.refusedTable, [BitVec.ofNat 8 (i / 256), BitVec.ofNat 8 i], []⟩)) ∧
    (n < 14 → s.lnk.tables.length = 14 → (s.table n).commitPending = false → commitCheck n (s.table n).pending = none →
      (s.intake.mode ≠ .stopped → exec (.tableCommit tag (.args n)) s = .next ((s.setLnk { s.lnk with
        tables := s.lnk.tables.set n { s.table n with commitPending := true } }).replied tag 38 (answer .accepted))) ∧
      (s.intake.mode = .stopped → (∀ k, (s.table k).commitPending = false) →
        let u := (s.setLnk { s.lnk with
          tables := s.lnk.tables.set n { s.table n with working := (s.table n).pending, valid := true } }).raise condTableApplied
        let within := fun x : Setting =>
          { x with tI := min x.tI (tbl16 (u.working timeId) 0 - 1), gA := min x.gA (tbl16 (u.working againId) 0 - 1) }
        let issue := fun x : Issue => { x with setting := within x.setting }
        exec (.tableCommit tag (.args n)) s = .next ((if n = timeId ∨ n = againId
          then u.setAec { s.aec with
            inFlight := s.aec.inFlight.map fun r => { r with issue := issue r.issue }, latest := s.aec.latest.map within
            awaiting := s.aec.awaiting.map issue, retry := s.aec.retry.map issue, manual := s.aec.manual.map within
            sequence := s.aec.sequence.map fun w => { w with issue := issue w.issue } } else u).replied tag 38 (answer .accepted))))) ∧
  (∀ (n i : Nat) (m : Memory), n ≤ 3 → (commitCheck n m = some i ↔ i < 3072 ∧
    (tbl16 m (2 * i) < 1024 ∨ 4095 < tbl16 m (2 * i)) ∧ ∀ j < i, 1024 ≤ tbl16 m (2 * j) ∧ tbl16 m (2 * j) ≤ 4095)) ∧
  (∀ (n i : Nat) (m : Memory), 4 ≤ n → n ≤ 7 →
    (commitCheck n m = some i ↔ i < 192 ∧ 15 < tbl8 m i ∧ ∀ j < i, tbl8 m j ≤ 15)) ∧
  (∀ (n i : Nat) (m : Memory), n = 8 ∨ n = 9 →
    let c := tbl8 m 0
    let good := fun j =>
      let control := tbl8 m (2 + 2 * j) / 16
      let limit := tbl8 m (2 + 2 * j) % 16
      (limit = 0 ∧ control ≤ 2) ∨ (limit = 1 ∧ control = 1) ∨ (limit = 2 ∧ control = 0) ∨ (limit = 3 ∧ control = 2)
    commitCheck n m = some i ↔ ((c = 0 ∨ 8 < c) ∧ i = 65535) ∨ (1 ≤ c ∧ c ≤ 8 ∧ i < c ∧ ¬ good i ∧ ∀ j < i, good j)) ∧
  (∀ (i : Nat) (m : Memory),
    let c := tbl16 m 0
    let good := fun j => 1 ≤ tbl16 m (2 + 2 * j) ∧ (j ≠ 0 → tbl16 m (2 * j) ≤ tbl16 m (2 + 2 * j))
    commitCheck timeId m = some i ↔
      ((c = 0 ∨ 256 < c) ∧ i = 65535) ∨ (1 ≤ c ∧ c ≤ 256 ∧ i < c ∧ ¬ good i ∧ ∀ j < i, good j)) ∧
  (∀ (i : Nat) (m : Memory), commitCheck againId m = some i ↔ (tbl16 m 0 = 0 ∨ 97 < tbl16 m 0) ∧ i = 65535) ∧
  (∀ (i : Nat) (m : Memory),
    let c := tbl8 m 1
    let good := fun j => tbl8 m (4 + 4 * j) ≤ 4
    commitCheck sensorWriteId m = some i ↔ ((127 < tbl8 m 0 ∨ c = 0 ∨ 8 < c) ∧ i = 65535) ∨
      (tbl8 m 0 ≤ 127 ∧ 1 ≤ c ∧ c ≤ 8 ∧ i < c ∧ ¬ good i ∧ ∀ j < i, good j)) ∧
  ∀ (i : Nat) (m : Memory),
    let good := fun k => (zoomRowOf m k).aW ≤ 47 ∧ (zoomRowOf m k).near ≤ 4095 ∧ (zoomRowOf m k).inf ≤ (zoomRowOf m k).near
    commitCheck zoomId m = some i ↔ i < 33 ∧ ¬ good i ∧ ∀ j < i, good j

/-- RESET (R184 and each chapter's reset rule) and RESET_COMPLETION, whatever the part is doing. FULL leaves every block
as power-on reset does, but for the tables, the frame memory, the positions and the valid flags that stand (R80), the
strobe and shutter lines as they stand, the shift readback, the FN of the latest SOF, an item on the sensor control port,
and the slot of a fetch whose ABORT packet is still to be sent. PIPELINE keeps what its tables keep, block by block; the
running move is marked for stop and delivers no outcome, a reference ends at its next boundary (R81), and a fetch is
aborted unless its final line is being sent (R158). The REPLY is built at once where no item is on the port, no fetch is
left and, under PIPELINE, no move or reference runs; otherwise it waits until RESET_COMPLETION finds everything ended, and
a NOTICE that waits over a PIPELINE waits for that REPLY (R172). The model's choices: the answer is DONE, at once where
nothing is waited for (log entry 27); the slot kept for the ABORT packet (28), its sent flags as they stood (77), and a
slot whose final line is being sent FREE at once (64); the debounced levels take those the lines hold (31); the FN of the
latest SOF is kept (38); a freed slot keeps its storing order (41) and the rest of its record is cleared (72); a RECORD
packet being sent at FULL marks no slot (45); the conditions follow from those before the reset (46), and a frame counter
stopped by it holds 0 (74); PIPELINE sets the awaited trigger number to 0 and the forced mark to false (63); a completion
with no RESET waiting, or too early, does nothing (2). -/
def Obligations.ResetsLeaveTheirValues : Prop :=
  let aborts := fun s : State => s.cst.fetch.isSome = true ∧ sendingFinal s.lnk = false
  let fetch := fun s : State => if aborts s
    then s.cst.fetch.bind fun f => if f.image then some { f with aborted := true, record := none } else none else s.cst.fetch
  let returned := fun (s : State) (x : Slot) => if x.state = .sending ∧ aborts s
    then if s.cst.params.release = .auto ∧ x.before = .ready ∧ x.recordSent = true ∧ x.imageSent = true
      then { freeSlot with order := x.order } else { x with state := x.before }
    else x
  let bus := fun s : State => s.aec.bus.map fun b => { b with owned := false }
  (∀ (s : State) (tag : Tag) (n : Nat), s.turnOf (.reset tag (.args n)) → 1 < n →
    exec (.reset tag (.args n)) s = .next (s.replied tag 40 (answer .refusedArg))) ∧
  (∀ (s : State) (tag : Tag), s.turnOf (.reset tag (.args 1)) → s.SlotsPartitioned →
    ∃ t, exec (.reset tag (.args 1)) s = .next t ∧
      t.intake = { State.reset.intake with lastSof := s.intake.lastSof } ∧ t.pxp = State.reset.pxp ∧
      t.stats = State.reset.stats ∧ t.aec = { State.reset.aec with bus := bus s } ∧ t.afc = State.reset.afc ∧
      t.zmc = State.reset.zmc ∧ t.mou = { State.reset.mou with strobe := s.mou.strobe, readback := s.mou.readback } ∧
      (∀ m, (t.lds.motor m).pos = (s.lds.motor m).pos ∧ ((t.lds.motor m).valid = true ↔ (s.lds.motor m).valid = true ∧
        (∀ x ∈ s.lds.running, x.motor ≠ m) ∧ (∀ x ∈ s.lds.stack, x.motor ≠ m) ∧ (m = .focus → s.lds.params.homePos = 256))) ∧
      { t.lds with zoom := ⟨0, false⟩, focus := ⟨0, false⟩, iris := ⟨0, false⟩ } =
        { State.reset.lds with latched := s.lds.latched } ∧
      t.cst = { State.reset.cst with
        slots := (List.range 12).map fun i =>
          let x := returned s (s.cst.slots.getD i freeSlot)
          if ((fetch s).any fun f => f.aborted && decide (f.slot = i ∧ f.order = x.order)) = true ∧
              (x.state = .ready ∨ x.state = .held)
          then x else freeSlot
        fetch := (fetch s).map fun f => { f with freeAtEnd := f.aborted }
        dram := s.cst.dram, s1 := ⟨s.cst.s1.raw, s.cst.s1.raw, none, false⟩
        s2 := ⟨s.cst.s2.raw, s.cst.s2.raw, none, false⟩ } ∧
      t.cnd = State.reset.cnd ∧ t.choices = s.choices ∧ t.pending = s.pending ∧
      (∀ k, t.table k = { s.table k with commitPending := false }) ∧
      t.lnk.sending = (s.lnk.sending.map fun p => { p with atEnd := match p.atEnd with | .record _ _ => .nothing | e => e }) ∧
      t.lnk = (if s.aec.bus = none ∧ fetch s = none
        then { (s.replied tag 40 (answer .done)).lnk with
          errorMark := false, errorCount := 0, tables := t.lnk.tables, sending := t.lnk.sending, resetWait := none }
        else { s.lnk with
          buffer := takePlace tag s.lnk.buffer, errorMark := false, errorCount := 0, tables := t.lnk.tables
          sending := t.lnk.sending, resetWait := some ⟨tag, false⟩ })) ∧
  (∀ (s : State) (tag : Tag), s.turnOf (.reset tag (.args 0)) → s.SlotsPartitioned →
    let slots := s.cst.slots.map fun x => if x.state = .filling then { freeSlot with order := x.order } else returned s x
    let conditions := (List.range 25).map fun k =>
      let x := s.cnd.condition k
      let level := (decide (k = condShiftFault) && s.mou.fault) ||
        (decide (k = condStoreFull) && slots.all fun y => decide (y.state ≠ .free))
      let latch := decide (x.mode = .level) && level
      if k = condMoveDone ∨ k = condLensLost ∨ k = condLensFault ∨ k = condTableApplied then x
      else { x with latch := latch, count := if latch then 1 else 0, frames := 0, current := level, latchedLevel := level }
    let applies := fun k => decide (s.intake.mode = .stopped) && (s.table k).commitPending
    ∃ t, exec (.reset tag (.args 0)) s = .next t ∧
      t.intake = { s.intake with
        mode := if s.intake.mode = .stopped then .stopped else .waiting, lineCounter := 0
        timer := if s.intake.mode = .stopped then none else some s.intake.timeout } ∧
      t.pxp = ⟨none, none, 256, (s.intake.geometry.w - s.intake.geometry.outW) / 2,
        (s.intake.geometry.h - s.intake.geometry.outH) / 2⟩ ∧
      t.stats = { s.stats with divider := 0, waiting := none, measure := none } ∧
      t.aec = { State.reset.aec with params := s.aec.params, bus := bus s } ∧
      t.lds = { s.lds with
        slots := ⟨none, none, none, none, none, none⟩, stack := [], park := none
        running := s.lds.running.map fun m => { m with stop := true, mute := true }
        reference := s.lds.reference.map fun r => { r with stop := true } } ∧
      t.afc = { State.reset.afc with
        mode := s.afc.mode, selection := s.afc.selection, selected := s.afc.selected, windows := s.afc.windows
        coarseStep := s.afc.coarseStep, fineStep := s.afc.fineStep, minFigure := s.afc.minFigure
        monitorFrames := s.afc.monitorFrames, monitorRatio := s.afc.monitorRatio, settleTimeout := s.afc.settleTimeout
        failure := s.afc.failure, history := s.afc.history, historyMade := !s.afc.history.isEmpty
        windowSet := s.afc.windowSet } ∧
      t.zmc = { State.reset.zmc with tracking := s.zmc.tracking } ∧
      t.mou = { State.reset.mou with
        mode := s.mou.mode, fault := s.mou.fault, params := s.mou.params, readback := s.mou.readback
        strobe := s.mou.strobe, yaw := { State.reset.mou.yaw with bias := s.mou.yaw.bias }
        pitch := { State.reset.mou.pitch with bias := s.mou.pitch.bias } } ∧
      t.cst = { s.cst with
        slots := slots, state := .idle, counters := ⟨0, 0, 0, 0, 0, 0, 0⟩, gateCount := 0, trigger := 0, forced := false
        skips := 0, fetch := fetch s, noticeArmed := false, withheldRelease := false } ∧
      t.cnd = (List.range 14).foldl (fun c k => if applies k then cndRaise c condTableApplied else c)
        ⟨conditions, s.cnd.waiting⟩ ∧
      (∀ k < 14, t.table k = if applies k
        then { s.table k with working := (s.table k).pending, valid := true, commitPending := false } else s.table k) ∧
      (s.intake.mode ≠ .stopped → t.lnk.tables = s.lnk.tables) ∧ t.choices = s.choices ∧ t.pending = s.pending ∧
      t.lnk = (if s.aec.bus = none ∧ fetch s = none ∧ s.lds.running = none ∧ s.lds.reference = none
        then { (s.replied tag 40 (answer .done)).lnk with tables := t.lnk.tables, resetWait := none }
        else { s.lnk with
          buffer := takePlace tag s.lnk.buffer, tables := t.lnk.tables, resetWait := some ⟨tag, s.cnd.waiting⟩ })) ∧
  (∀ s : State, s.lnk.resetWait = none → exec .resetCompletion s = .next s) ∧
  (∀ s : State, s.aec.bus.isSome = true ∨ s.cst.fetch.isSome = true ∨ s.lds.reference.isSome = true ∨
      (∃ m, s.lds.running = some m ∧ m.mute = true) →
    exec .resetCompletion s = .next s) ∧
  ∀ (s : State) (w : ResetWait), s.lnk.resetWait = some w → s.aec.bus = none → s.cst.fetch = none →
    s.lds.reference = none → (∀ m, s.lds.running = some m → m.mute = false) →
    exec .resetCompletion s = .next (s.setLnk { s.lnk with
      buffer := answerPlace s.lnk.buffer, replies := s.lnk.replies ++ [⟨w.tag, 40, .done, [], []⟩], resetWait := none })
end

