-- ==== Sys2Proof/Laws/State.lean ====
section
/-! SUPPORT. What each update of one block of State leaves: one lemma per field per update, true by rfl, so that no later
proof unfolds a record update; the same for the updates by which conditions are raised and followed. -/

namespace Sys2Proof.Machine


/-! ### setIntake -/

@[simp] theorem State.setIntake_intake (s : State) (x : Intake) : (s.setIntake x).intake = x := rfl
@[simp] theorem State.setIntake_pxp (s : State) (x : Intake) : (s.setIntake x).pxp = s.pxp := rfl
@[simp] theorem State.setIntake_stats (s : State) (x : Intake) : (s.setIntake x).stats = s.stats := rfl
@[simp] theorem State.setIntake_aec (s : State) (x : Intake) : (s.setIntake x).aec = s.aec := rfl
@[simp] theorem State.setIntake_lds (s : State) (x : Intake) : (s.setIntake x).lds = s.lds := rfl
@[simp] theorem State.setIntake_afc (s : State) (x : Intake) : (s.setIntake x).afc = s.afc := rfl
@[simp] theorem State.setIntake_zmc (s : State) (x : Intake) : (s.setIntake x).zmc = s.zmc := rfl
@[simp] theorem State.setIntake_mou (s : State) (x : Intake) : (s.setIntake x).mou = s.mou := rfl
@[simp] theorem State.setIntake_cst (s : State) (x : Intake) : (s.setIntake x).cst = s.cst := rfl
@[simp] theorem State.setIntake_cnd (s : State) (x : Intake) : (s.setIntake x).cnd = s.cnd := rfl
@[simp] theorem State.setIntake_lnk (s : State) (x : Intake) : (s.setIntake x).lnk = s.lnk := rfl
@[simp] theorem State.setIntake_choices (s : State) (x : Intake) : (s.setIntake x).choices = s.choices := rfl
@[simp] theorem State.setIntake_pending (s : State) (x : Intake) : (s.setIntake x).pending = s.pending := rfl
@[simp] theorem State.setIntake_setIntake (s : State) (x y : Intake) : (s.setIntake x).setIntake y = s.setIntake y := rfl
@[simp] theorem State.setIntake_self (s : State) : s.setIntake s.intake = s := rfl

/-! ### setPxp -/

@[simp] theorem State.setPxp_intake (s : State) (x : Pxp) : (s.setPxp x).intake = s.intake := rfl
@[simp] theorem State.setPxp_pxp (s : State) (x : Pxp) : (s.setPxp x).pxp = x := rfl
@[simp] theorem State.setPxp_stats (s : State) (x : Pxp) : (s.setPxp x).stats = s.stats := rfl
@[simp] theorem State.setPxp_aec (s : State) (x : Pxp) : (s.setPxp x).aec = s.aec := rfl
@[simp] theorem State.setPxp_lds (s : State) (x : Pxp) : (s.setPxp x).lds = s.lds := rfl
@[simp] theorem State.setPxp_afc (s : State) (x : Pxp) : (s.setPxp x).afc = s.afc := rfl
@[simp] theorem State.setPxp_zmc (s : State) (x : Pxp) : (s.setPxp x).zmc = s.zmc := rfl
@[simp] theorem State.setPxp_mou (s : State) (x : Pxp) : (s.setPxp x).mou = s.mou := rfl
@[simp] theorem State.setPxp_cst (s : State) (x : Pxp) : (s.setPxp x).cst = s.cst := rfl
@[simp] theorem State.setPxp_cnd (s : State) (x : Pxp) : (s.setPxp x).cnd = s.cnd := rfl
@[simp] theorem State.setPxp_lnk (s : State) (x : Pxp) : (s.setPxp x).lnk = s.lnk := rfl
@[simp] theorem State.setPxp_choices (s : State) (x : Pxp) : (s.setPxp x).choices = s.choices := rfl
@[simp] theorem State.setPxp_pending (s : State) (x : Pxp) : (s.setPxp x).pending = s.pending := rfl
@[simp] theorem State.setPxp_setPxp (s : State) (x y : Pxp) : (s.setPxp x).setPxp y = s.setPxp y := rfl
@[simp] theorem State.setPxp_self (s : State) : s.setPxp s.pxp = s := rfl

/-! ### setStats -/

@[simp] theorem State.setStats_intake (s : State) (x : Stats) : (s.setStats x).intake = s.intake := rfl
@[simp] theorem State.setStats_pxp (s : State) (x : Stats) : (s.setStats x).pxp = s.pxp := rfl
@[simp] theorem State.setStats_stats (s : State) (x : Stats) : (s.setStats x).stats = x := rfl
@[simp] theorem State.setStats_aec (s : State) (x : Stats) : (s.setStats x).aec = s.aec := rfl
@[simp] theorem State.setStats_lds (s : State) (x : Stats) : (s.setStats x).lds = s.lds := rfl
@[simp] theorem State.setStats_afc (s : State) (x : Stats) : (s.setStats x).afc = s.afc := rfl
@[simp] theorem State.setStats_zmc (s : State) (x : Stats) : (s.setStats x).zmc = s.zmc := rfl
@[simp] theorem State.setStats_mou (s : State) (x : Stats) : (s.setStats x).mou = s.mou := rfl
@[simp] theorem State.setStats_cst (s : State) (x : Stats) : (s.setStats x).cst = s.cst := rfl
@[simp] theorem State.setStats_cnd (s : State) (x : Stats) : (s.setStats x).cnd = s.cnd := rfl
@[simp] theorem State.setStats_lnk (s : State) (x : Stats) : (s.setStats x).lnk = s.lnk := rfl
@[simp] theorem State.setStats_choices (s : State) (x : Stats) : (s.setStats x).choices = s.choices := rfl
@[simp] theorem State.setStats_pending (s : State) (x : Stats) : (s.setStats x).pending = s.pending := rfl
@[simp] theorem State.setStats_setStats (s : State) (x y : Stats) : (s.setStats x).setStats y = s.setStats y := rfl
@[simp] theorem State.setStats_self (s : State) : s.setStats s.stats = s := rfl

/-! ### setAec -/

@[simp] theorem State.setAec_intake (s : State) (x : Aec) : (s.setAec x).intake = s.intake := rfl
@[simp] theorem State.setAec_pxp (s : State) (x : Aec) : (s.setAec x).pxp = s.pxp := rfl
@[simp] theorem State.setAec_stats (s : State) (x : Aec) : (s.setAec x).stats = s.stats := rfl
@[simp] theorem State.setAec_aec (s : State) (x : Aec) : (s.setAec x).aec = x := rfl
@[simp] theorem State.setAec_lds (s : State) (x : Aec) : (s.setAec x).lds = s.lds := rfl
@[simp] theorem State.setAec_afc (s : State) (x : Aec) : (s.setAec x).afc = s.afc := rfl
@[simp] theorem State.setAec_zmc (s : State) (x : Aec) : (s.setAec x).zmc = s.zmc := rfl
@[simp] theorem State.setAec_mou (s : State) (x : Aec) : (s.setAec x).mou = s.mou := rfl
@[simp] theorem State.setAec_cst (s : State) (x : Aec) : (s.setAec x).cst = s.cst := rfl
@[simp] theorem State.setAec_cnd (s : State) (x : Aec) : (s.setAec x).cnd = s.cnd := rfl
@[simp] theorem State.setAec_lnk (s : State) (x : Aec) : (s.setAec x).lnk = s.lnk := rfl
@[simp] theorem State.setAec_choices (s : State) (x : Aec) : (s.setAec x).choices = s.choices := rfl
@[simp] theorem State.setAec_pending (s : State) (x : Aec) : (s.setAec x).pending = s.pending := rfl
@[simp] theorem State.setAec_setAec (s : State) (x y : Aec) : (s.setAec x).setAec y = s.setAec y := rfl
@[simp] theorem State.setAec_self (s : State) : s.setAec s.aec = s := rfl

/-! ### setLds -/

@[simp] theorem State.setLds_intake (s : State) (x : Lds) : (s.setLds x).intake = s.intake := rfl
@[simp] theorem State.setLds_pxp (s : State) (x : Lds) : (s.setLds x).pxp = s.pxp := rfl
@[simp] theorem State.setLds_stats (s : State) (x : Lds) : (s.setLds x).stats = s.stats := rfl
@[simp] theorem State.setLds_aec (s : State) (x : Lds) : (s.setLds x).aec = s.aec := rfl
@[simp] theorem State.setLds_lds (s : State) (x : Lds) : (s.setLds x).lds = x := rfl
@[simp] theorem State.setLds_afc (s : State) (x : Lds) : (s.setLds x).afc = s.afc := rfl
@[simp] theorem State.setLds_zmc (s : State) (x : Lds) : (s.setLds x).zmc = s.zmc := rfl
@[simp] theorem State.setLds_mou (s : State) (x : Lds) : (s.setLds x).mou = s.mou := rfl
@[simp] theorem State.setLds_cst (s : State) (x : Lds) : (s.setLds x).cst = s.cst := rfl
@[simp] theorem State.setLds_cnd (s : State) (x : Lds) : (s.setLds x).cnd = s.cnd := rfl
@[simp] theorem State.setLds_lnk (s : State) (x : Lds) : (s.setLds x).lnk = s.lnk := rfl
@[simp] theorem State.setLds_choices (s : State) (x : Lds) : (s.setLds x).choices = s.choices := rfl
@[simp] theorem State.setLds_pending (s : State) (x : Lds) : (s.setLds x).pending = s.pending := rfl
@[simp] theorem State.setLds_setLds (s : State) (x y : Lds) : (s.setLds x).setLds y = s.setLds y := rfl
@[simp] theorem State.setLds_self (s : State) : s.setLds s.lds = s := rfl

/-! ### setAfc -/

@[simp] theorem State.setAfc_intake (s : State) (x : Afc) : (s.setAfc x).intake = s.intake := rfl
@[simp] theorem State.setAfc_pxp (s : State) (x : Afc) : (s.setAfc x).pxp = s.pxp := rfl
@[simp] theorem State.setAfc_stats (s : State) (x : Afc) : (s.setAfc x).stats = s.stats := rfl
@[simp] theorem State.setAfc_aec (s : State) (x : Afc) : (s.setAfc x).aec = s.aec := rfl
@[simp] theorem State.setAfc_lds (s : State) (x : Afc) : (s.setAfc x).lds = s.lds := rfl
@[simp] theorem State.setAfc_afc (s : State) (x : Afc) : (s.setAfc x).afc = x := rfl
@[simp] theorem State.setAfc_zmc (s : State) (x : Afc) : (s.setAfc x).zmc = s.zmc := rfl
@[simp] theorem State.setAfc_mou (s : State) (x : Afc) : (s.setAfc x).mou = s.mou := rfl
@[simp] theorem State.setAfc_cst (s : State) (x : Afc) : (s.setAfc x).cst = s.cst := rfl
@[simp] theorem State.setAfc_cnd (s : State) (x : Afc) : (s.setAfc x).cnd = s.cnd := rfl
@[simp] theorem State.setAfc_lnk (s : State) (x : Afc) : (s.setAfc x).lnk = s.lnk := rfl
@[simp] theorem State.setAfc_choices (s : State) (x : Afc) : (s.setAfc x).choices = s.choices := rfl
@[simp] theorem State.setAfc_pending (s : State) (x : Afc) : (s.setAfc x).pending = s.pending := rfl
@[simp] theorem State.setAfc_setAfc (s : State) (x y : Afc) : (s.setAfc x).setAfc y = s.setAfc y := rfl
@[simp] theorem State.setAfc_self (s : State) : s.setAfc s.afc = s := rfl

/-! ### setZmc -/

@[simp] theorem State.setZmc_intake (s : State) (x : Zmc) : (s.setZmc x).intake = s.intake := rfl
@[simp] theorem State.setZmc_pxp (s : State) (x : Zmc) : (s.setZmc x).pxp = s.pxp := rfl
@[simp] theorem State.setZmc_stats (s : State) (x : Zmc) : (s.setZmc x).stats = s.stats := rfl
@[simp] theorem State.setZmc_aec (s : State) (x : Zmc) : (s.setZmc x).aec = s.aec := rfl
@[simp] theorem State.setZmc_lds (s : State) (x : Zmc) : (s.setZmc x).lds = s.lds := rfl
@[simp] theorem State.setZmc_afc (s : State) (x : Zmc) : (s.setZmc x).afc = s.afc := rfl
@[simp] theorem State.setZmc_zmc (s : State) (x : Zmc) : (s.setZmc x).zmc = x := rfl
@[simp] theorem State.setZmc_mou (s : State) (x : Zmc) : (s.setZmc x).mou = s.mou := rfl
@[simp] theorem State.setZmc_cst (s : State) (x : Zmc) : (s.setZmc x).cst = s.cst := rfl
@[simp] theorem State.setZmc_cnd (s : State) (x : Zmc) : (s.setZmc x).cnd = s.cnd := rfl
@[simp] theorem State.setZmc_lnk (s : State) (x : Zmc) : (s.setZmc x).lnk = s.lnk := rfl
@[simp] theorem State.setZmc_choices (s : State) (x : Zmc) : (s.setZmc x).choices = s.choices := rfl
@[simp] theorem State.setZmc_pending (s : State) (x : Zmc) : (s.setZmc x).pending = s.pending := rfl
@[simp] theorem State.setZmc_setZmc (s : State) (x y : Zmc) : (s.setZmc x).setZmc y = s.setZmc y := rfl
@[simp] theorem State.setZmc_self (s : State) : s.setZmc s.zmc = s := rfl

/-! ### setMou -/

@[simp] theorem State.setMou_intake (s : State) (x : Mou) : (s.setMou x).intake = s.intake := rfl
@[simp] theorem State.setMou_pxp (s : State) (x : Mou) : (s.setMou x).pxp = s.pxp := rfl
@[simp] theorem State.setMou_stats (s : State) (x : Mou) : (s.setMou x).stats = s.stats := rfl
@[simp] theorem State.setMou_aec (s : State) (x : Mou) : (s.setMou x).aec = s.aec := rfl
@[simp] theorem State.setMou_lds (s : State) (x : Mou) : (s.setMou x).lds = s.lds := rfl
@[simp] theorem State.setMou_afc (s : State) (x : Mou) : (s.setMou x).afc = s.afc := rfl
@[simp] theorem State.setMou_zmc (s : State) (x : Mou) : (s.setMou x).zmc = s.zmc := rfl
@[simp] theorem State.setMou_mou (s : State) (x : Mou) : (s.setMou x).mou = x := rfl
@[simp] theorem State.setMou_cst (s : State) (x : Mou) : (s.setMou x).cst = s.cst := rfl
@[simp] theorem State.setMou_cnd (s : State) (x : Mou) : (s.setMou x).cnd = s.cnd := rfl
@[simp] theorem State.setMou_lnk (s : State) (x : Mou) : (s.setMou x).lnk = s.lnk := rfl
@[simp] theorem State.setMou_choices (s : State) (x : Mou) : (s.setMou x).choices = s.choices := rfl
@[simp] theorem State.setMou_pending (s : State) (x : Mou) : (s.setMou x).pending = s.pending := rfl
@[simp] theorem State.setMou_setMou (s : State) (x y : Mou) : (s.setMou x).setMou y = s.setMou y := rfl
@[simp] theorem State.setMou_self (s : State) : s.setMou s.mou = s := rfl

/-! ### setCst -/

@[simp] theorem State.setCst_intake (s : State) (x : Cst) : (s.setCst x).intake = s.intake := rfl
@[simp] theorem State.setCst_pxp (s : State) (x : Cst) : (s.setCst x).pxp = s.pxp := rfl
@[simp] theorem State.setCst_stats (s : State) (x : Cst) : (s.setCst x).stats = s.stats := rfl
@[simp] theorem State.setCst_aec (s : State) (x : Cst) : (s.setCst x).aec = s.aec := rfl
@[simp] theorem State.setCst_lds (s : State) (x : Cst) : (s.setCst x).lds = s.lds := rfl
@[simp] theorem State.setCst_afc (s : State) (x : Cst) : (s.setCst x).afc = s.afc := rfl
@[simp] theorem State.setCst_zmc (s : State) (x : Cst) : (s.setCst x).zmc = s.zmc := rfl
@[simp] theorem State.setCst_mou (s : State) (x : Cst) : (s.setCst x).mou = s.mou := rfl
@[simp] theorem State.setCst_cst (s : State) (x : Cst) : (s.setCst x).cst = x := rfl
@[simp] theorem State.setCst_cnd (s : State) (x : Cst) : (s.setCst x).cnd = s.cnd := rfl
@[simp] theorem State.setCst_lnk (s : State) (x : Cst) : (s.setCst x).lnk = s.lnk := rfl
@[simp] theorem State.setCst_choices (s : State) (x : Cst) : (s.setCst x).choices = s.choices := rfl
@[simp] theorem State.setCst_pending (s : State) (x : Cst) : (s.setCst x).pending = s.pending := rfl
@[simp] theorem State.setCst_setCst (s : State) (x y : Cst) : (s.setCst x).setCst y = s.setCst y := rfl
@[simp] theorem State.setCst_self (s : State) : s.setCst s.cst = s := rfl

/-! ### setCnd -/

@[simp] theorem State.setCnd_intake (s : State) (x : Cnd) : (s.setCnd x).intake = s.intake := rfl
@[simp] theorem State.setCnd_pxp (s : State) (x : Cnd) : (s.setCnd x).pxp = s.pxp := rfl
@[simp] theorem State.setCnd_stats (s : State) (x : Cnd) : (s.setCnd x).stats = s.stats := rfl
@[simp] theorem State.setCnd_aec (s : State) (x : Cnd) : (s.setCnd x).aec = s.aec := rfl
@[simp] theorem State.setCnd_lds (s : State) (x : Cnd) : (s.setCnd x).lds = s.lds := rfl
@[simp] theorem State.setCnd_afc (s : State) (x : Cnd) : (s.setCnd x).afc = s.afc := rfl
@[simp] theorem State.setCnd_zmc (s : State) (x : Cnd) : (s.setCnd x).zmc = s.zmc := rfl
@[simp] theorem State.setCnd_mou (s : State) (x : Cnd) : (s.setCnd x).mou = s.mou := rfl
@[simp] theorem State.setCnd_cst (s : State) (x : Cnd) : (s.setCnd x).cst = s.cst := rfl
@[simp] theorem State.setCnd_cnd (s : State) (x : Cnd) : (s.setCnd x).cnd = x := rfl
@[simp] theorem State.setCnd_lnk (s : State) (x : Cnd) : (s.setCnd x).lnk = s.lnk := rfl
@[simp] theorem State.setCnd_choices (s : State) (x : Cnd) : (s.setCnd x).choices = s.choices := rfl
@[simp] theorem State.setCnd_pending (s : State) (x : Cnd) : (s.setCnd x).pending = s.pending := rfl
@[simp] theorem State.setCnd_setCnd (s : State) (x y : Cnd) : (s.setCnd x).setCnd y = s.setCnd y := rfl
@[simp] theorem State.setCnd_self (s : State) : s.setCnd s.cnd = s := rfl

/-! ### setLnk -/

@[simp] theorem State.setLnk_intake (s : State) (x : Lnk) : (s.setLnk x).intake = s.intake := rfl
@[simp] theorem State.setLnk_pxp (s : State) (x : Lnk) : (s.setLnk x).pxp = s.pxp := rfl
@[simp] theorem State.setLnk_stats (s : State) (x : Lnk) : (s.setLnk x).stats = s.stats := rfl
@[simp] theorem State.setLnk_aec (s : State) (x : Lnk) : (s.setLnk x).aec = s.aec := rfl
@[simp] theorem State.setLnk_lds (s : State) (x : Lnk) : (s.setLnk x).lds = s.lds := rfl
@[simp] theorem State.setLnk_afc (s : State) (x : Lnk) : (s.setLnk x).afc = s.afc := rfl
@[simp] theorem State.setLnk_zmc (s : State) (x : Lnk) : (s.setLnk x).zmc = s.zmc := rfl
@[simp] theorem State.setLnk_mou (s : State) (x : Lnk) : (s.setLnk x).mou = s.mou := rfl
@[simp] theorem State.setLnk_cst (s : State) (x : Lnk) : (s.setLnk x).cst = s.cst := rfl
@[simp] theorem State.setLnk_cnd (s : State) (x : Lnk) : (s.setLnk x).cnd = s.cnd := rfl
@[simp] theorem State.setLnk_lnk (s : State) (x : Lnk) : (s.setLnk x).lnk = x := rfl
@[simp] theorem State.setLnk_choices (s : State) (x : Lnk) : (s.setLnk x).choices = s.choices := rfl
@[simp] theorem State.setLnk_pending (s : State) (x : Lnk) : (s.setLnk x).pending = s.pending := rfl
@[simp] theorem State.setLnk_setLnk (s : State) (x y : Lnk) : (s.setLnk x).setLnk y = s.setLnk y := rfl
@[simp] theorem State.setLnk_self (s : State) : s.setLnk s.lnk = s := rfl

/-! ### setChoices -/

@[simp] theorem State.setChoices_intake (s : State) (x : Nat) : (s.setChoices x).intake = s.intake := rfl
@[simp] theorem State.setChoices_pxp (s : State) (x : Nat) : (s.setChoices x).pxp = s.pxp := rfl
@[simp] theorem State.setChoices_stats (s : State) (x : Nat) : (s.setChoices x).stats = s.stats := rfl
@[simp] theorem State.setChoices_aec (s : State) (x : Nat) : (s.setChoices x).aec = s.aec := rfl
@[simp] theorem State.setChoices_lds (s : State) (x : Nat) : (s.setChoices x).lds = s.lds := rfl
@[simp] theorem State.setChoices_afc (s : State) (x : Nat) : (s.setChoices x).afc = s.afc := rfl
@[simp] theorem State.setChoices_zmc (s : State) (x : Nat) : (s.setChoices x).zmc = s.zmc := rfl
@[simp] theorem State.setChoices_mou (s : State) (x : Nat) : (s.setChoices x).mou = s.mou := rfl
@[simp] theorem State.setChoices_cst (s : State) (x : Nat) : (s.setChoices x).cst = s.cst := rfl
@[simp] theorem State.setChoices_cnd (s : State) (x : Nat) : (s.setChoices x).cnd = s.cnd := rfl
@[simp] theorem State.setChoices_lnk (s : State) (x : Nat) : (s.setChoices x).lnk = s.lnk := rfl
@[simp] theorem State.setChoices_choices (s : State) (x : Nat) : (s.setChoices x).choices = x := rfl
@[simp] theorem State.setChoices_pending (s : State) (x : Nat) : (s.setChoices x).pending = s.pending := rfl
@[simp] theorem State.setChoices_setChoices (s : State) (x y : Nat) : (s.setChoices x).setChoices y = s.setChoices y := rfl
@[simp] theorem State.setChoices_self (s : State) : s.setChoices s.choices = s := rfl

/-! ### setPending -/

@[simp] theorem State.setPending_intake (s : State) (x : List Instr) : (s.setPending x).intake = s.intake := rfl
@[simp] theorem State.setPending_pxp (s : State) (x : List Instr) : (s.setPending x).pxp = s.pxp := rfl
@[simp] theorem State.setPending_stats (s : State) (x : List Instr) : (s.setPending x).stats = s.stats := rfl
@[simp] theorem State.setPending_aec (s : State) (x : List Instr) : (s.setPending x).aec = s.aec := rfl
@[simp] theorem State.setPending_lds (s : State) (x : List Instr) : (s.setPending x).lds = s.lds := rfl
@[simp] theorem State.setPending_afc (s : State) (x : List Instr) : (s.setPending x).afc = s.afc := rfl
@[simp] theorem State.setPending_zmc (s : State) (x : List Instr) : (s.setPending x).zmc = s.zmc := rfl
@[simp] theorem State.setPending_mou (s : State) (x : List Instr) : (s.setPending x).mou = s.mou := rfl
@[simp] theorem State.setPending_cst (s : State) (x : List Instr) : (s.setPending x).cst = s.cst := rfl
@[simp] theorem State.setPending_cnd (s : State) (x : List Instr) : (s.setPending x).cnd = s.cnd := rfl
@[simp] theorem State.setPending_lnk (s : State) (x : List Instr) : (s.setPending x).lnk = s.lnk := rfl
@[simp] theorem State.setPending_choices (s : State) (x : List Instr) : (s.setPending x).choices = s.choices := rfl
@[simp] theorem State.setPending_pending (s : State) (x : List Instr) : (s.setPending x).pending = x := rfl
@[simp] theorem State.setPending_setPending (s : State) (x y : List Instr) : (s.setPending x).setPending y = s.setPending y := rfl
@[simp] theorem State.setPending_self (s : State) : s.setPending s.pending = s := rfl

/-! ### Raising and following conditions (R164, R165) -/

@[simp] theorem State.raise_intake (s : State) (k : Nat) : (s.raise k).intake = s.intake := rfl
@[simp] theorem State.level_intake (s : State) (k : Nat) (b : Bool) : (s.level k b).intake = s.intake := rfl
@[simp] theorem State.raise_pxp (s : State) (k : Nat) : (s.raise k).pxp = s.pxp := rfl
@[simp] theorem State.level_pxp (s : State) (k : Nat) (b : Bool) : (s.level k b).pxp = s.pxp := rfl
@[simp] theorem State.raise_stats (s : State) (k : Nat) : (s.raise k).stats = s.stats := rfl
@[simp] theorem State.level_stats (s : State) (k : Nat) (b : Bool) : (s.level k b).stats = s.stats := rfl
@[simp] theorem State.raise_aec (s : State) (k : Nat) : (s.raise k).aec = s.aec := rfl
@[simp] theorem State.level_aec (s : State) (k : Nat) (b : Bool) : (s.level k b).aec = s.aec := rfl
@[simp] theorem State.raise_lds (s : State) (k : Nat) : (s.raise k).lds = s.lds := rfl
@[simp] theorem State.level_lds (s : State) (k : Nat) (b : Bool) : (s.level k b).lds = s.lds := rfl
@[simp] theorem State.raise_afc (s : State) (k : Nat) : (s.raise k).afc = s.afc := rfl
@[simp] theorem State.level_afc (s : State) (k : Nat) (b : Bool) : (s.level k b).afc = s.afc := rfl
@[simp] theorem State.raise_zmc (s : State) (k : Nat) : (s.raise k).zmc = s.zmc := rfl
@[simp] theorem State.level_zmc (s : State) (k : Nat) (b : Bool) : (s.level k b).zmc = s.zmc := rfl
@[simp] theorem State.raise_mou (s : State) (k : Nat) : (s.raise k).mou = s.mou := rfl
@[simp] theorem State.level_mou (s : State) (k : Nat) (b : Bool) : (s.level k b).mou = s.mou := rfl
@[simp] theorem State.raise_cst (s : State) (k : Nat) : (s.raise k).cst = s.cst := rfl
@[simp] theorem State.level_cst (s : State) (k : Nat) (b : Bool) : (s.level k b).cst = s.cst := rfl
@[simp] theorem State.raise_cnd (s : State) (k : Nat) : (s.raise k).cnd = cndRaise s.cnd k := rfl
@[simp] theorem State.level_cnd (s : State) (k : Nat) (b : Bool) : (s.level k b).cnd = cndSetLevel s.cnd k b := rfl
@[simp] theorem State.raise_lnk (s : State) (k : Nat) : (s.raise k).lnk = s.lnk := rfl
@[simp] theorem State.level_lnk (s : State) (k : Nat) (b : Bool) : (s.level k b).lnk = s.lnk := rfl
@[simp] theorem State.raise_choices (s : State) (k : Nat) : (s.raise k).choices = s.choices := rfl
@[simp] theorem State.level_choices (s : State) (k : Nat) (b : Bool) : (s.level k b).choices = s.choices := rfl
@[simp] theorem State.raise_pending (s : State) (k : Nat) : (s.raise k).pending = s.pending := rfl
@[simp] theorem State.level_pending (s : State) (k : Nat) (b : Bool) : (s.level k b).pending = s.pending := rfl

end Sys2Proof.Machine
end

