-- ==== Sys2Proof/Laws/Commands.lean ====
section
/-! SUPPORT. What handing a command to its block and answering it does (R175 to R177): the one lemma from which every
host command's effect follows, and its forms for a refusal and for a block that leaves the link alone. -/

namespace Sys2Proof.Machine

@[simp] theorem lnkTake_following (l : Lnk) (tag : Tag) : (lnkTake l tag).following = l.following := rfl
@[simp] theorem lnkTake_replies (l : Lnk) (tag : Tag) : (lnkTake l tag).replies = l.replies := rfl
@[simp] theorem lnkTake_tables (l : Lnk) (tag : Tag) : (lnkTake l tag).tables = l.tables := rfl
@[simp] theorem lnkTake_sending (l : Lnk) (tag : Tag) : (lnkTake l tag).sending = l.sending := rfl
@[simp] theorem lnkTake_resetWait (l : Lnk) (tag : Tag) : (lnkTake l tag).resetWait = l.resetWait := rfl

@[simp] theorem sendingFinal_lnkTake (l : Lnk) (tag : Tag) : sendingFinal (lnkTake l tag) = sendingFinal l := rfl

/-- A table is read through an update of the Link Interface that keeps the tables. -/
theorem State.table_congr {s t : State} (h : t.lnk.tables = s.lnk.tables) (k : Nat) : t.table k = s.table k := by
  unfold State.table; rw [h]

@[simp] theorem State.table_take (s : State) (tag : Tag) (k : Nat) :
    (s.setLnk (lnkTake s.lnk tag)).table k = s.table k := rfl
@[simp] theorem State.tableValid_take (s : State) (tag : Tag) (k : Nat) :
    (s.setLnk (lnkTake s.lnk tag)).tableValid k = s.tableValid k := rfl
@[simp] theorem State.working_take (s : State) (tag : Tag) (k : Nat) :
    (s.setLnk (lnkTake s.lnk tag)).working k = s.working k := rfl

@[simp] theorem State.replied_intake (s : State) (tag : Tag) (code : Byte) (a : Answer) :
    (s.replied tag code a).intake = s.intake := rfl
@[simp] theorem State.replied_pxp (s : State) (tag : Tag) (code : Byte) (a : Answer) :
    (s.replied tag code a).pxp = s.pxp := rfl
@[simp] theorem State.replied_stats (s : State) (tag : Tag) (code : Byte) (a : Answer) :
    (s.replied tag code a).stats = s.stats := rfl
@[simp] theorem State.replied_aec (s : State) (tag : Tag) (code : Byte) (a : Answer) :
    (s.replied tag code a).aec = s.aec := rfl
@[simp] theorem State.replied_lds (s : State) (tag : Tag) (code : Byte) (a : Answer) :
    (s.replied tag code a).lds = s.lds := rfl
@[simp] theorem State.replied_afc (s : State) (tag : Tag) (code : Byte) (a : Answer) :
    (s.replied tag code a).afc = s.afc := rfl
@[simp] theorem State.replied_zmc (s : State) (tag : Tag) (code : Byte) (a : Answer) :
    (s.replied tag code a).zmc = s.zmc := rfl
@[simp] theorem State.replied_mou (s : State) (tag : Tag) (code : Byte) (a : Answer) :
    (s.replied tag code a).mou = s.mou := rfl
@[simp] theorem State.replied_cst (s : State) (tag : Tag) (code : Byte) (a : Answer) :
    (s.replied tag code a).cst = s.cst := rfl
@[simp] theorem State.replied_cnd (s : State) (tag : Tag) (code : Byte) (a : Answer) :
    (s.replied tag code a).cnd = s.cnd := rfl
@[simp] theorem State.replied_choices (s : State) (tag : Tag) (code : Byte) (a : Answer) :
    (s.replied tag code a).choices = s.choices := rfl
@[simp] theorem State.replied_pending (s : State) (tag : Tag) (code : Byte) (a : Answer) :
    (s.replied tag code a).pending = s.pending := rfl

/-- Out of its turn a command does nothing (R176). -/
theorem hostCommand_of_not_turn {α : Type} {i : Instr} {s : State} (tag : Tag) (code : Byte) (p : Payload α)
    (block : α → State → State × Answer) (h : ¬ s.turnOf i) : hostCommand i tag code p block s = s := by
  unfold hostCommand takeCommand
  exact if_neg h

/-- At its turn a command is handed to its block, and what the block answers is replied (R176, R177). -/
theorem hostCommand_of_turn {α : Type} {i : Instr} {s : State} (tag : Tag) (code : Byte) (a : α)
    (block : α → State → State × Answer) (h : s.turnOf i) :
    hostCommand i tag code (.args a) block s =
      (block a (s.setLnk (lnkTake s.lnk tag))).1.setLnk
        (lnkAnswer (block a (s.setLnk (lnkTake s.lnk tag))).1.lnk tag code (block a (s.setLnk (lnkTake s.lnk tag))).2) := by
  unfold hostCommand takeCommand
  exact if_pos h

/-- A block that leaves the state as handed: the command is only replied to. -/
theorem hostCommand_unchanged {α : Type} {i : Instr} {s : State} {tag : Tag} {code : Byte} {a : α}
    {block : α → State → State × Answer} {x : Answer} (h : s.turnOf i)
    (hb : block a (s.setLnk (lnkTake s.lnk tag)) = (s.setLnk (lnkTake s.lnk tag), x)) :
    hostCommand i tag code (.args a) block s = s.replied tag code x := by
  rw [hostCommand_of_turn tag code a block h, hb]
  rfl

/-- A block whose effect is an update t of s beside the Link Interface: t is replied to. -/
theorem hostCommand_replied {α : Type} {i : Instr} {s t : State} {tag : Tag} {code : Byte} {a : α}
    {block : α → State → State × Answer} {x : Answer} (h : s.turnOf i) (ht : t.lnk = s.lnk)
    (hb : block a (s.setLnk (lnkTake s.lnk tag)) = (t.setLnk (lnkTake s.lnk tag), x)) :
    hostCommand i tag code (.args a) block s = t.replied tag code x := by
  rw [hostCommand_of_turn tag code a block h, hb]
  simp only [State.replied, ht]
  rfl

/-- A payload of the wrong length is refused whatever the block (R176). -/
theorem hostCommand_wrongLength {α : Type} {i : Instr} {s : State} (tag : Tag) (code : Byte)
    (block : α → State → State × Answer) (h : s.turnOf i) :
    hostCommand i tag code .wrongLength block s = s.replied tag code (answer .refusedArg) := by
  unfold hostCommand takeCommand
  exact if_pos h

end Sys2Proof.Machine
end

