-- ==== Sys2Proof/Laws/Controllers.lean ====
section
/-! SUPPORT. What the operations of the controllers (exposure state, lens slots, focus, zoom, grant) leave alone: intake,
pixel path, statistics, motion, store, link, and the position and valid flag of every motor. -/

namespace Sys2Proof.Machine

/-- t differs from s at most in the exposure, lens, focus and zoom controllers and in the conditions, and no motor's
position or valid flag differs. -/
structure State.ControlsOnly (t s : State) : Prop where
  intake : t.intake = s.intake
  pxp : t.pxp = s.pxp
  stats : t.stats = s.stats
  mou : t.mou = s.mou
  cst : t.cst = s.cst
  lnk : t.lnk = s.lnk
  choices : t.choices = s.choices
  pending : t.pending = s.pending
  zoom : t.lds.zoom = s.lds.zoom
  focus : t.lds.focus = s.lds.focus
  iris : t.lds.iris = s.lds.iris
  params : t.lds.params = s.lds.params
  latched : t.lds.latched = s.lds.latched
  reference : t.lds.reference = s.lds.reference

theorem State.ControlsOnly.refl (s : State) : s.ControlsOnly s := by constructor <;> rfl

theorem State.ControlsOnly.trans {s t u : State} (h : u.ControlsOnly t) (g : t.ControlsOnly s) : u.ControlsOnly s := by
  obtain ⟨h1, h2, h3, h4, h5, h6, h7, h8, h9, h10, h11, h12, h13, h14⟩ := h
  obtain ⟨g1, g2, g3, g4, g5, g6, g7, g8, g9, g10, g11, g12, g13, g14⟩ := g
  constructor <;> simp_all

theorem ldsPlace_keeps (l : Lds) (src : Source) (r : Request) :
    (ldsPlace l src r).zoom = l.zoom ∧ (ldsPlace l src r).focus = l.focus ∧ (ldsPlace l src r).iris = l.iris ∧
    (ldsPlace l src r).params = l.params ∧ (ldsPlace l src r).latched = l.latched ∧
    (ldsPlace l src r).reference = l.reference ∧ (ldsPlace l src r).park = l.park := by
  unfold ldsPlace
  dsimp only
  repeat' split
  all_goals simp

@[simp] theorem ldsPlace_zoom (l : Lds) (src : Source) (r : Request) : (ldsPlace l src r).zoom = l.zoom :=
  (ldsPlace_keeps l src r).1
@[simp] theorem ldsPlace_focus (l : Lds) (src : Source) (r : Request) : (ldsPlace l src r).focus = l.focus :=
  (ldsPlace_keeps l src r).2.1
@[simp] theorem ldsPlace_iris (l : Lds) (src : Source) (r : Request) : (ldsPlace l src r).iris = l.iris :=
  (ldsPlace_keeps l src r).2.2.1
@[simp] theorem ldsPlace_params (l : Lds) (src : Source) (r : Request) : (ldsPlace l src r).params = l.params :=
  (ldsPlace_keeps l src r).2.2.2.1
@[simp] theorem ldsPlace_latched (l : Lds) (src : Source) (r : Request) : (ldsPlace l src r).latched = l.latched :=
  (ldsPlace_keeps l src r).2.2.2.2.1
@[simp] theorem ldsPlace_reference (l : Lds) (src : Source) (r : Request) : (ldsPlace l src r).reference = l.reference :=
  (ldsPlace_keeps l src r).2.2.2.2.2.1
@[simp] theorem ldsPlace_park (l : Lds) (src : Source) (r : Request) : (ldsPlace l src r).park = l.park :=
  (ldsPlace_keeps l src r).2.2.2.2.2.2

@[simp] theorem ldsCancel_zoom (l : Lds) (src : Source) : (ldsCancel l src).zoom = l.zoom := rfl
@[simp] theorem ldsCancel_focus (l : Lds) (src : Source) : (ldsCancel l src).focus = l.focus := rfl
@[simp] theorem ldsCancel_iris (l : Lds) (src : Source) : (ldsCancel l src).iris = l.iris := rfl
@[simp] theorem ldsCancel_params (l : Lds) (src : Source) : (ldsCancel l src).params = l.params := rfl
@[simp] theorem ldsCancel_latched (l : Lds) (src : Source) : (ldsCancel l src).latched = l.latched := rfl
@[simp] theorem ldsCancel_reference (l : Lds) (src : Source) : (ldsCancel l src).reference = l.reference := rfl
@[simp] theorem ldsCancel_park (l : Lds) (src : Source) : (ldsCancel l src).park = l.park := rfl
@[simp] theorem ldsCancel_timer (l : Lds) (src : Source) : (ldsCancel l src).timer = l.timer := rfl

theorem aecJudge_controls (s : State) : State.ControlsOnly (aecJudge s) s := by
  unfold aecJudge
  try dsimp only
  try (repeat' split)
  all_goals constructor <;> simp
@[simp] theorem aecJudge_intake (s : State) : (aecJudge s).intake = s.intake := (aecJudge_controls s).intake
@[simp] theorem aecJudge_pxp (s : State) : (aecJudge s).pxp = s.pxp := (aecJudge_controls s).pxp
@[simp] theorem aecJudge_stats (s : State) : (aecJudge s).stats = s.stats := (aecJudge_controls s).stats
@[simp] theorem aecJudge_mou (s : State) : (aecJudge s).mou = s.mou := (aecJudge_controls s).mou
@[simp] theorem aecJudge_cst (s : State) : (aecJudge s).cst = s.cst := (aecJudge_controls s).cst
@[simp] theorem aecJudge_lnk (s : State) : (aecJudge s).lnk = s.lnk := (aecJudge_controls s).lnk
@[simp] theorem aecJudge_choices (s : State) : (aecJudge s).choices = s.choices := (aecJudge_controls s).choices
@[simp] theorem aecJudge_pending (s : State) : (aecJudge s).pending = s.pending := (aecJudge_controls s).pending
@[simp] theorem aecJudge_lds_zoom (s : State) : (aecJudge s).lds.zoom = s.lds.zoom := (aecJudge_controls s).zoom
@[simp] theorem aecJudge_lds_focus (s : State) : (aecJudge s).lds.focus = s.lds.focus := (aecJudge_controls s).focus
@[simp] theorem aecJudge_lds_iris (s : State) : (aecJudge s).lds.iris = s.lds.iris := (aecJudge_controls s).iris
@[simp] theorem aecJudge_lds_params (s : State) : (aecJudge s).lds.params = s.lds.params := (aecJudge_controls s).params
@[simp] theorem aecJudge_lds_latched (s : State) : (aecJudge s).lds.latched = s.lds.latched := (aecJudge_controls s).latched
@[simp] theorem aecJudge_lds_reference (s : State) : (aecJudge s).lds.reference = s.lds.reference := (aecJudge_controls s).reference

theorem aecJudgeRecords_controls (s : State) : State.ControlsOnly (aecJudgeRecords s) s := by
  unfold aecJudgeRecords
  try dsimp only
  try (repeat' split)
  all_goals constructor <;> simp
@[simp] theorem aecJudgeRecords_intake (s : State) : (aecJudgeRecords s).intake = s.intake := (aecJudgeRecords_controls s).intake
@[simp] theorem aecJudgeRecords_pxp (s : State) : (aecJudgeRecords s).pxp = s.pxp := (aecJudgeRecords_controls s).pxp
@[simp] theorem aecJudgeRecords_stats (s : State) : (aecJudgeRecords s).stats = s.stats := (aecJudgeRecords_controls s).stats
@[simp] theorem aecJudgeRecords_mou (s : State) : (aecJudgeRecords s).mou = s.mou := (aecJudgeRecords_controls s).mou
@[simp] theorem aecJudgeRecords_cst (s : State) : (aecJudgeRecords s).cst = s.cst := (aecJudgeRecords_controls s).cst
@[simp] theorem aecJudgeRecords_lnk (s : State) : (aecJudgeRecords s).lnk = s.lnk := (aecJudgeRecords_controls s).lnk
@[simp] theorem aecJudgeRecords_choices (s : State) : (aecJudgeRecords s).choices = s.choices := (aecJudgeRecords_controls s).choices
@[simp] theorem aecJudgeRecords_pending (s : State) : (aecJudgeRecords s).pending = s.pending := (aecJudgeRecords_controls s).pending
@[simp] theorem aecJudgeRecords_lds_zoom (s : State) : (aecJudgeRecords s).lds.zoom = s.lds.zoom := (aecJudgeRecords_controls s).zoom
@[simp] theorem aecJudgeRecords_lds_focus (s : State) : (aecJudgeRecords s).lds.focus = s.lds.focus := (aecJudgeRecords_controls s).focus
@[simp] theorem aecJudgeRecords_lds_iris (s : State) : (aecJudgeRecords s).lds.iris = s.lds.iris := (aecJudgeRecords_controls s).iris
@[simp] theorem aecJudgeRecords_lds_params (s : State) : (aecJudgeRecords s).lds.params = s.lds.params := (aecJudgeRecords_controls s).params
@[simp] theorem aecJudgeRecords_lds_latched (s : State) : (aecJudgeRecords s).lds.latched = s.lds.latched := (aecJudgeRecords_controls s).latched
@[simp] theorem aecJudgeRecords_lds_reference (s : State) : (aecJudgeRecords s).lds.reference = s.lds.reference := (aecJudgeRecords_controls s).reference

theorem aecEnter_controls (s : State) (st : AeState) : State.ControlsOnly (aecEnter s st) s := by
  unfold aecEnter
  try dsimp only
  try (repeat' split)
  all_goals constructor <;> simp
@[simp] theorem aecEnter_intake (s : State) (st : AeState) : (aecEnter s st).intake = s.intake := (aecEnter_controls s st).intake
@[simp] theorem aecEnter_pxp (s : State) (st : AeState) : (aecEnter s st).pxp = s.pxp := (aecEnter_controls s st).pxp
@[simp] theorem aecEnter_stats (s : State) (st : AeState) : (aecEnter s st).stats = s.stats := (aecEnter_controls s st).stats
@[simp] theorem aecEnter_mou (s : State) (st : AeState) : (aecEnter s st).mou = s.mou := (aecEnter_controls s st).mou
@[simp] theorem aecEnter_cst (s : State) (st : AeState) : (aecEnter s st).cst = s.cst := (aecEnter_controls s st).cst
@[simp] theorem aecEnter_lnk (s : State) (st : AeState) : (aecEnter s st).lnk = s.lnk := (aecEnter_controls s st).lnk
@[simp] theorem aecEnter_choices (s : State) (st : AeState) : (aecEnter s st).choices = s.choices := (aecEnter_controls s st).choices
@[simp] theorem aecEnter_pending (s : State) (st : AeState) : (aecEnter s st).pending = s.pending := (aecEnter_controls s st).pending
@[simp] theorem aecEnter_lds_zoom (s : State) (st : AeState) : (aecEnter s st).lds.zoom = s.lds.zoom := (aecEnter_controls s st).zoom
@[simp] theorem aecEnter_lds_focus (s : State) (st : AeState) : (aecEnter s st).lds.focus = s.lds.focus := (aecEnter_controls s st).focus
@[simp] theorem aecEnter_lds_iris (s : State) (st : AeState) : (aecEnter s st).lds.iris = s.lds.iris := (aecEnter_controls s st).iris
@[simp] theorem aecEnter_lds_params (s : State) (st : AeState) : (aecEnter s st).lds.params = s.lds.params := (aecEnter_controls s st).params
@[simp] theorem aecEnter_lds_latched (s : State) (st : AeState) : (aecEnter s st).lds.latched = s.lds.latched := (aecEnter_controls s st).latched
@[simp] theorem aecEnter_lds_reference (s : State) (st : AeState) : (aecEnter s st).lds.reference = s.lds.reference := (aecEnter_controls s st).reference

theorem aecFollowFocus_controls (s : State) (b : Bool) : State.ControlsOnly (aecFollowFocus s b) s := by
  unfold aecFollowFocus
  try dsimp only
  try (repeat' split)
  all_goals constructor <;> simp
@[simp] theorem aecFollowFocus_intake (s : State) (b : Bool) : (aecFollowFocus s b).intake = s.intake := (aecFollowFocus_controls s b).intake
@[simp] theorem aecFollowFocus_pxp (s : State) (b : Bool) : (aecFollowFocus s b).pxp = s.pxp := (aecFollowFocus_controls s b).pxp
@[simp] theorem aecFollowFocus_stats (s : State) (b : Bool) : (aecFollowFocus s b).stats = s.stats := (aecFollowFocus_controls s b).stats
@[simp] theorem aecFollowFocus_mou (s : State) (b : Bool) : (aecFollowFocus s b).mou = s.mou := (aecFollowFocus_controls s b).mou
@[simp] theorem aecFollowFocus_cst (s : State) (b : Bool) : (aecFollowFocus s b).cst = s.cst := (aecFollowFocus_controls s b).cst
@[simp] theorem aecFollowFocus_lnk (s : State) (b : Bool) : (aecFollowFocus s b).lnk = s.lnk := (aecFollowFocus_controls s b).lnk
@[simp] theorem aecFollowFocus_choices (s : State) (b : Bool) : (aecFollowFocus s b).choices = s.choices := (aecFollowFocus_controls s b).choices
@[simp] theorem aecFollowFocus_pending (s : State) (b : Bool) : (aecFollowFocus s b).pending = s.pending := (aecFollowFocus_controls s b).pending
@[simp] theorem aecFollowFocus_lds_zoom (s : State) (b : Bool) : (aecFollowFocus s b).lds.zoom = s.lds.zoom := (aecFollowFocus_controls s b).zoom
@[simp] theorem aecFollowFocus_lds_focus (s : State) (b : Bool) : (aecFollowFocus s b).lds.focus = s.lds.focus := (aecFollowFocus_controls s b).focus
@[simp] theorem aecFollowFocus_lds_iris (s : State) (b : Bool) : (aecFollowFocus s b).lds.iris = s.lds.iris := (aecFollowFocus_controls s b).iris
@[simp] theorem aecFollowFocus_lds_params (s : State) (b : Bool) : (aecFollowFocus s b).lds.params = s.lds.params := (aecFollowFocus_controls s b).params
@[simp] theorem aecFollowFocus_lds_latched (s : State) (b : Bool) : (aecFollowFocus s b).lds.latched = s.lds.latched := (aecFollowFocus_controls s b).latched
@[simp] theorem aecFollowFocus_lds_reference (s : State) (b : Bool) : (aecFollowFocus s b).lds.reference = s.lds.reference := (aecFollowFocus_controls s b).reference

theorem State.place_controls (s : State) (src : Source) (r : Request) : State.ControlsOnly (State.place s src r) s := by
  unfold State.place
  try dsimp only
  try (repeat' split)
  all_goals constructor <;> simp
@[simp] theorem State.place_intake (s : State) (src : Source) (r : Request) : (State.place s src r).intake = s.intake := (State.place_controls s src r).intake
@[simp] theorem State.place_pxp (s : State) (src : Source) (r : Request) : (State.place s src r).pxp = s.pxp := (State.place_controls s src r).pxp
@[simp] theorem State.place_stats (s : State) (src : Source) (r : Request) : (State.place s src r).stats = s.stats := (State.place_controls s src r).stats
@[simp] theorem State.place_mou (s : State) (src : Source) (r : Request) : (State.place s src r).mou = s.mou := (State.place_controls s src r).mou
@[simp] theorem State.place_cst (s : State) (src : Source) (r : Request) : (State.place s src r).cst = s.cst := (State.place_controls s src r).cst
@[simp] theorem State.place_lnk (s : State) (src : Source) (r : Request) : (State.place s src r).lnk = s.lnk := (State.place_controls s src r).lnk
@[simp] theorem State.place_choices (s : State) (src : Source) (r : Request) : (State.place s src r).choices = s.choices := (State.place_controls s src r).choices
@[simp] theorem State.place_pending (s : State) (src : Source) (r : Request) : (State.place s src r).pending = s.pending := (State.place_controls s src r).pending
@[simp] theorem State.place_lds_zoom (s : State) (src : Source) (r : Request) : (State.place s src r).lds.zoom = s.lds.zoom := (State.place_controls s src r).zoom
@[simp] theorem State.place_lds_focus (s : State) (src : Source) (r : Request) : (State.place s src r).lds.focus = s.lds.focus := (State.place_controls s src r).focus
@[simp] theorem State.place_lds_iris (s : State) (src : Source) (r : Request) : (State.place s src r).lds.iris = s.lds.iris := (State.place_controls s src r).iris
@[simp] theorem State.place_lds_params (s : State) (src : Source) (r : Request) : (State.place s src r).lds.params = s.lds.params := (State.place_controls s src r).params
@[simp] theorem State.place_lds_latched (s : State) (src : Source) (r : Request) : (State.place s src r).lds.latched = s.lds.latched := (State.place_controls s src r).latched
@[simp] theorem State.place_lds_reference (s : State) (src : Source) (r : Request) : (State.place s src r).lds.reference = s.lds.reference := (State.place_controls s src r).reference

theorem State.cancelMove_controls (s : State) (src : Source) : State.ControlsOnly (State.cancelMove s src) s := by
  unfold State.cancelMove
  try dsimp only
  try (repeat' split)
  all_goals constructor <;> simp
@[simp] theorem State.cancelMove_intake (s : State) (src : Source) : (State.cancelMove s src).intake = s.intake := (State.cancelMove_controls s src).intake
@[simp] theorem State.cancelMove_pxp (s : State) (src : Source) : (State.cancelMove s src).pxp = s.pxp := (State.cancelMove_controls s src).pxp
@[simp] theorem State.cancelMove_stats (s : State) (src : Source) : (State.cancelMove s src).stats = s.stats := (State.cancelMove_controls s src).stats
@[simp] theorem State.cancelMove_mou (s : State) (src : Source) : (State.cancelMove s src).mou = s.mou := (State.cancelMove_controls s src).mou
@[simp] theorem State.cancelMove_cst (s : State) (src : Source) : (State.cancelMove s src).cst = s.cst := (State.cancelMove_controls s src).cst
@[simp] theorem State.cancelMove_lnk (s : State) (src : Source) : (State.cancelMove s src).lnk = s.lnk := (State.cancelMove_controls s src).lnk
@[simp] theorem State.cancelMove_choices (s : State) (src : Source) : (State.cancelMove s src).choices = s.choices := (State.cancelMove_controls s src).choices
@[simp] theorem State.cancelMove_pending (s : State) (src : Source) : (State.cancelMove s src).pending = s.pending := (State.cancelMove_controls s src).pending
@[simp] theorem State.cancelMove_lds_zoom (s : State) (src : Source) : (State.cancelMove s src).lds.zoom = s.lds.zoom := (State.cancelMove_controls s src).zoom
@[simp] theorem State.cancelMove_lds_focus (s : State) (src : Source) : (State.cancelMove s src).lds.focus = s.lds.focus := (State.cancelMove_controls s src).focus
@[simp] theorem State.cancelMove_lds_iris (s : State) (src : Source) : (State.cancelMove s src).lds.iris = s.lds.iris := (State.cancelMove_controls s src).iris
@[simp] theorem State.cancelMove_lds_params (s : State) (src : Source) : (State.cancelMove s src).lds.params = s.lds.params := (State.cancelMove_controls s src).params
@[simp] theorem State.cancelMove_lds_latched (s : State) (src : Source) : (State.cancelMove s src).lds.latched = s.lds.latched := (State.cancelMove_controls s src).latched
@[simp] theorem State.cancelMove_lds_reference (s : State) (src : Source) : (State.cancelMove s src).lds.reference = s.lds.reference := (State.cancelMove_controls s src).reference

theorem afcEnter_controls (s : State) (st : AfState) : State.ControlsOnly (afcEnter s st) s := by
  unfold afcEnter
  try dsimp only
  try (repeat' split)
  all_goals constructor <;> simp
@[simp] theorem afcEnter_intake (s : State) (st : AfState) : (afcEnter s st).intake = s.intake := (afcEnter_controls s st).intake
@[simp] theorem afcEnter_pxp (s : State) (st : AfState) : (afcEnter s st).pxp = s.pxp := (afcEnter_controls s st).pxp
@[simp] theorem afcEnter_stats (s : State) (st : AfState) : (afcEnter s st).stats = s.stats := (afcEnter_controls s st).stats
@[simp] theorem afcEnter_mou (s : State) (st : AfState) : (afcEnter s st).mou = s.mou := (afcEnter_controls s st).mou
@[simp] theorem afcEnter_cst (s : State) (st : AfState) : (afcEnter s st).cst = s.cst := (afcEnter_controls s st).cst
@[simp] theorem afcEnter_lnk (s : State) (st : AfState) : (afcEnter s st).lnk = s.lnk := (afcEnter_controls s st).lnk
@[simp] theorem afcEnter_choices (s : State) (st : AfState) : (afcEnter s st).choices = s.choices := (afcEnter_controls s st).choices
@[simp] theorem afcEnter_pending (s : State) (st : AfState) : (afcEnter s st).pending = s.pending := (afcEnter_controls s st).pending
@[simp] theorem afcEnter_lds_zoom (s : State) (st : AfState) : (afcEnter s st).lds.zoom = s.lds.zoom := (afcEnter_controls s st).zoom
@[simp] theorem afcEnter_lds_focus (s : State) (st : AfState) : (afcEnter s st).lds.focus = s.lds.focus := (afcEnter_controls s st).focus
@[simp] theorem afcEnter_lds_iris (s : State) (st : AfState) : (afcEnter s st).lds.iris = s.lds.iris := (afcEnter_controls s st).iris
@[simp] theorem afcEnter_lds_params (s : State) (st : AfState) : (afcEnter s st).lds.params = s.lds.params := (afcEnter_controls s st).params
@[simp] theorem afcEnter_lds_latched (s : State) (st : AfState) : (afcEnter s st).lds.latched = s.lds.latched := (afcEnter_controls s st).latched
@[simp] theorem afcEnter_lds_reference (s : State) (st : AfState) : (afcEnter s st).lds.reference = s.lds.reference := (afcEnter_controls s st).reference

theorem afcFail_controls (s : State) (r : FailReason) : State.ControlsOnly (afcFail s r) s := by
  unfold afcFail
  try dsimp only
  try (repeat' split)
  all_goals constructor <;> simp
@[simp] theorem afcFail_intake (s : State) (r : FailReason) : (afcFail s r).intake = s.intake := (afcFail_controls s r).intake
@[simp] theorem afcFail_pxp (s : State) (r : FailReason) : (afcFail s r).pxp = s.pxp := (afcFail_controls s r).pxp
@[simp] theorem afcFail_stats (s : State) (r : FailReason) : (afcFail s r).stats = s.stats := (afcFail_controls s r).stats
@[simp] theorem afcFail_mou (s : State) (r : FailReason) : (afcFail s r).mou = s.mou := (afcFail_controls s r).mou
@[simp] theorem afcFail_cst (s : State) (r : FailReason) : (afcFail s r).cst = s.cst := (afcFail_controls s r).cst
@[simp] theorem afcFail_lnk (s : State) (r : FailReason) : (afcFail s r).lnk = s.lnk := (afcFail_controls s r).lnk
@[simp] theorem afcFail_choices (s : State) (r : FailReason) : (afcFail s r).choices = s.choices := (afcFail_controls s r).choices
@[simp] theorem afcFail_pending (s : State) (r : FailReason) : (afcFail s r).pending = s.pending := (afcFail_controls s r).pending
@[simp] theorem afcFail_lds_zoom (s : State) (r : FailReason) : (afcFail s r).lds.zoom = s.lds.zoom := (afcFail_controls s r).zoom
@[simp] theorem afcFail_lds_focus (s : State) (r : FailReason) : (afcFail s r).lds.focus = s.lds.focus := (afcFail_controls s r).focus
@[simp] theorem afcFail_lds_iris (s : State) (r : FailReason) : (afcFail s r).lds.iris = s.lds.iris := (afcFail_controls s r).iris
@[simp] theorem afcFail_lds_params (s : State) (r : FailReason) : (afcFail s r).lds.params = s.lds.params := (afcFail_controls s r).params
@[simp] theorem afcFail_lds_latched (s : State) (r : FailReason) : (afcFail s r).lds.latched = s.lds.latched := (afcFail_controls s r).latched
@[simp] theorem afcFail_lds_reference (s : State) (r : FailReason) : (afcFail s r).lds.reference = s.lds.reference := (afcFail_controls s r).reference

theorem afcRequest_controls (s : State) (pos : Nat) : State.ControlsOnly (afcRequest s pos) s := by
  unfold afcRequest
  try dsimp only
  try (repeat' split)
  all_goals constructor <;> simp
@[simp] theorem afcRequest_intake (s : State) (pos : Nat) : (afcRequest s pos).intake = s.intake := (afcRequest_controls s pos).intake
@[simp] theorem afcRequest_pxp (s : State) (pos : Nat) : (afcRequest s pos).pxp = s.pxp := (afcRequest_controls s pos).pxp
@[simp] theorem afcRequest_stats (s : State) (pos : Nat) : (afcRequest s pos).stats = s.stats := (afcRequest_controls s pos).stats
@[simp] theorem afcRequest_mou (s : State) (pos : Nat) : (afcRequest s pos).mou = s.mou := (afcRequest_controls s pos).mou
@[simp] theorem afcRequest_cst (s : State) (pos : Nat) : (afcRequest s pos).cst = s.cst := (afcRequest_controls s pos).cst
@[simp] theorem afcRequest_lnk (s : State) (pos : Nat) : (afcRequest s pos).lnk = s.lnk := (afcRequest_controls s pos).lnk
@[simp] theorem afcRequest_choices (s : State) (pos : Nat) : (afcRequest s pos).choices = s.choices := (afcRequest_controls s pos).choices
@[simp] theorem afcRequest_pending (s : State) (pos : Nat) : (afcRequest s pos).pending = s.pending := (afcRequest_controls s pos).pending
@[simp] theorem afcRequest_lds_zoom (s : State) (pos : Nat) : (afcRequest s pos).lds.zoom = s.lds.zoom := (afcRequest_controls s pos).zoom
@[simp] theorem afcRequest_lds_focus (s : State) (pos : Nat) : (afcRequest s pos).lds.focus = s.lds.focus := (afcRequest_controls s pos).focus
@[simp] theorem afcRequest_lds_iris (s : State) (pos : Nat) : (afcRequest s pos).lds.iris = s.lds.iris := (afcRequest_controls s pos).iris
@[simp] theorem afcRequest_lds_params (s : State) (pos : Nat) : (afcRequest s pos).lds.params = s.lds.params := (afcRequest_controls s pos).params
@[simp] theorem afcRequest_lds_latched (s : State) (pos : Nat) : (afcRequest s pos).lds.latched = s.lds.latched := (afcRequest_controls s pos).latched
@[simp] theorem afcRequest_lds_reference (s : State) (pos : Nat) : (afcRequest s pos).lds.reference = s.lds.reference := (afcRequest_controls s pos).reference

theorem afcBeginCoarse_controls (s : State) (inf near : Nat) : State.ControlsOnly (afcBeginCoarse s inf near) s := by
  unfold afcBeginCoarse
  try dsimp only
  try (repeat' split)
  all_goals constructor <;> simp
@[simp] theorem afcBeginCoarse_intake (s : State) (inf near : Nat) : (afcBeginCoarse s inf near).intake = s.intake := (afcBeginCoarse_controls s inf near).intake
@[simp] theorem afcBeginCoarse_pxp (s : State) (inf near : Nat) : (afcBeginCoarse s inf near).pxp = s.pxp := (afcBeginCoarse_controls s inf near).pxp
@[simp] theorem afcBeginCoarse_stats (s : State) (inf near : Nat) : (afcBeginCoarse s inf near).stats = s.stats := (afcBeginCoarse_controls s inf near).stats
@[simp] theorem afcBeginCoarse_mou (s : State) (inf near : Nat) : (afcBeginCoarse s inf near).mou = s.mou := (afcBeginCoarse_controls s inf near).mou
@[simp] theorem afcBeginCoarse_cst (s : State) (inf near : Nat) : (afcBeginCoarse s inf near).cst = s.cst := (afcBeginCoarse_controls s inf near).cst
@[simp] theorem afcBeginCoarse_lnk (s : State) (inf near : Nat) : (afcBeginCoarse s inf near).lnk = s.lnk := (afcBeginCoarse_controls s inf near).lnk
@[simp] theorem afcBeginCoarse_choices (s : State) (inf near : Nat) : (afcBeginCoarse s inf near).choices = s.choices := (afcBeginCoarse_controls s inf near).choices
@[simp] theorem afcBeginCoarse_pending (s : State) (inf near : Nat) : (afcBeginCoarse s inf near).pending = s.pending := (afcBeginCoarse_controls s inf near).pending
@[simp] theorem afcBeginCoarse_lds_zoom (s : State) (inf near : Nat) : (afcBeginCoarse s inf near).lds.zoom = s.lds.zoom := (afcBeginCoarse_controls s inf near).zoom
@[simp] theorem afcBeginCoarse_lds_focus (s : State) (inf near : Nat) : (afcBeginCoarse s inf near).lds.focus = s.lds.focus := (afcBeginCoarse_controls s inf near).focus
@[simp] theorem afcBeginCoarse_lds_iris (s : State) (inf near : Nat) : (afcBeginCoarse s inf near).lds.iris = s.lds.iris := (afcBeginCoarse_controls s inf near).iris
@[simp] theorem afcBeginCoarse_lds_params (s : State) (inf near : Nat) : (afcBeginCoarse s inf near).lds.params = s.lds.params := (afcBeginCoarse_controls s inf near).params
@[simp] theorem afcBeginCoarse_lds_latched (s : State) (inf near : Nat) : (afcBeginCoarse s inf near).lds.latched = s.lds.latched := (afcBeginCoarse_controls s inf near).latched
@[simp] theorem afcBeginCoarse_lds_reference (s : State) (inf near : Nat) : (afcBeginCoarse s inf near).lds.reference = s.lds.reference := (afcBeginCoarse_controls s inf near).reference

theorem afcScanStart_controls (s : State) : State.ControlsOnly (afcScanStart s) s := by
  unfold afcScanStart
  try dsimp only
  try (repeat' split)
  all_goals constructor <;> simp
@[simp] theorem afcScanStart_intake (s : State) : (afcScanStart s).intake = s.intake := (afcScanStart_controls s).intake
@[simp] theorem afcScanStart_pxp (s : State) : (afcScanStart s).pxp = s.pxp := (afcScanStart_controls s).pxp
@[simp] theorem afcScanStart_stats (s : State) : (afcScanStart s).stats = s.stats := (afcScanStart_controls s).stats
@[simp] theorem afcScanStart_mou (s : State) : (afcScanStart s).mou = s.mou := (afcScanStart_controls s).mou
@[simp] theorem afcScanStart_cst (s : State) : (afcScanStart s).cst = s.cst := (afcScanStart_controls s).cst
@[simp] theorem afcScanStart_lnk (s : State) : (afcScanStart s).lnk = s.lnk := (afcScanStart_controls s).lnk
@[simp] theorem afcScanStart_choices (s : State) : (afcScanStart s).choices = s.choices := (afcScanStart_controls s).choices
@[simp] theorem afcScanStart_pending (s : State) : (afcScanStart s).pending = s.pending := (afcScanStart_controls s).pending
@[simp] theorem afcScanStart_lds_zoom (s : State) : (afcScanStart s).lds.zoom = s.lds.zoom := (afcScanStart_controls s).zoom
@[simp] theorem afcScanStart_lds_focus (s : State) : (afcScanStart s).lds.focus = s.lds.focus := (afcScanStart_controls s).focus
@[simp] theorem afcScanStart_lds_iris (s : State) : (afcScanStart s).lds.iris = s.lds.iris := (afcScanStart_controls s).iris
@[simp] theorem afcScanStart_lds_params (s : State) : (afcScanStart s).lds.params = s.lds.params := (afcScanStart_controls s).params
@[simp] theorem afcScanStart_lds_latched (s : State) : (afcScanStart s).lds.latched = s.lds.latched := (afcScanStart_controls s).latched
@[simp] theorem afcScanStart_lds_reference (s : State) : (afcScanStart s).lds.reference = s.lds.reference := (afcScanStart_controls s).reference

theorem afcCancel_controls (s : State) : State.ControlsOnly (afcCancel s) s := by
  unfold afcCancel
  try dsimp only
  try (repeat' split)
  all_goals constructor <;> simp
@[simp] theorem afcCancel_intake (s : State) : (afcCancel s).intake = s.intake := (afcCancel_controls s).intake
@[simp] theorem afcCancel_pxp (s : State) : (afcCancel s).pxp = s.pxp := (afcCancel_controls s).pxp
@[simp] theorem afcCancel_stats (s : State) : (afcCancel s).stats = s.stats := (afcCancel_controls s).stats
@[simp] theorem afcCancel_mou (s : State) : (afcCancel s).mou = s.mou := (afcCancel_controls s).mou
@[simp] theorem afcCancel_cst (s : State) : (afcCancel s).cst = s.cst := (afcCancel_controls s).cst
@[simp] theorem afcCancel_lnk (s : State) : (afcCancel s).lnk = s.lnk := (afcCancel_controls s).lnk
@[simp] theorem afcCancel_choices (s : State) : (afcCancel s).choices = s.choices := (afcCancel_controls s).choices
@[simp] theorem afcCancel_pending (s : State) : (afcCancel s).pending = s.pending := (afcCancel_controls s).pending
@[simp] theorem afcCancel_lds_zoom (s : State) : (afcCancel s).lds.zoom = s.lds.zoom := (afcCancel_controls s).zoom
@[simp] theorem afcCancel_lds_focus (s : State) : (afcCancel s).lds.focus = s.lds.focus := (afcCancel_controls s).focus
@[simp] theorem afcCancel_lds_iris (s : State) : (afcCancel s).lds.iris = s.lds.iris := (afcCancel_controls s).iris
@[simp] theorem afcCancel_lds_params (s : State) : (afcCancel s).lds.params = s.lds.params := (afcCancel_controls s).params
@[simp] theorem afcCancel_lds_latched (s : State) : (afcCancel s).lds.latched = s.lds.latched := (afcCancel_controls s).latched
@[simp] theorem afcCancel_lds_reference (s : State) : (afcCancel s).lds.reference = s.lds.reference := (afcCancel_controls s).reference

theorem afcS1Assert_controls (s : State) : State.ControlsOnly (afcS1Assert s) s := by
  unfold afcS1Assert
  try dsimp only
  try (repeat' split)
  all_goals constructor <;> simp
@[simp] theorem afcS1Assert_intake (s : State) : (afcS1Assert s).intake = s.intake := (afcS1Assert_controls s).intake
@[simp] theorem afcS1Assert_pxp (s : State) : (afcS1Assert s).pxp = s.pxp := (afcS1Assert_controls s).pxp
@[simp] theorem afcS1Assert_stats (s : State) : (afcS1Assert s).stats = s.stats := (afcS1Assert_controls s).stats
@[simp] theorem afcS1Assert_mou (s : State) : (afcS1Assert s).mou = s.mou := (afcS1Assert_controls s).mou
@[simp] theorem afcS1Assert_cst (s : State) : (afcS1Assert s).cst = s.cst := (afcS1Assert_controls s).cst
@[simp] theorem afcS1Assert_lnk (s : State) : (afcS1Assert s).lnk = s.lnk := (afcS1Assert_controls s).lnk
@[simp] theorem afcS1Assert_choices (s : State) : (afcS1Assert s).choices = s.choices := (afcS1Assert_controls s).choices
@[simp] theorem afcS1Assert_pending (s : State) : (afcS1Assert s).pending = s.pending := (afcS1Assert_controls s).pending
@[simp] theorem afcS1Assert_lds_zoom (s : State) : (afcS1Assert s).lds.zoom = s.lds.zoom := (afcS1Assert_controls s).zoom
@[simp] theorem afcS1Assert_lds_focus (s : State) : (afcS1Assert s).lds.focus = s.lds.focus := (afcS1Assert_controls s).focus
@[simp] theorem afcS1Assert_lds_iris (s : State) : (afcS1Assert s).lds.iris = s.lds.iris := (afcS1Assert_controls s).iris
@[simp] theorem afcS1Assert_lds_params (s : State) : (afcS1Assert s).lds.params = s.lds.params := (afcS1Assert_controls s).params
@[simp] theorem afcS1Assert_lds_latched (s : State) : (afcS1Assert s).lds.latched = s.lds.latched := (afcS1Assert_controls s).latched
@[simp] theorem afcS1Assert_lds_reference (s : State) : (afcS1Assert s).lds.reference = s.lds.reference := (afcS1Assert_controls s).reference

theorem afcS1Release_controls (s : State) : State.ControlsOnly (afcS1Release s) s := by
  unfold afcS1Release
  try dsimp only
  try (repeat' split)
  all_goals constructor <;> simp
@[simp] theorem afcS1Release_intake (s : State) : (afcS1Release s).intake = s.intake := (afcS1Release_controls s).intake
@[simp] theorem afcS1Release_pxp (s : State) : (afcS1Release s).pxp = s.pxp := (afcS1Release_controls s).pxp
@[simp] theorem afcS1Release_stats (s : State) : (afcS1Release s).stats = s.stats := (afcS1Release_controls s).stats
@[simp] theorem afcS1Release_mou (s : State) : (afcS1Release s).mou = s.mou := (afcS1Release_controls s).mou
@[simp] theorem afcS1Release_cst (s : State) : (afcS1Release s).cst = s.cst := (afcS1Release_controls s).cst
@[simp] theorem afcS1Release_lnk (s : State) : (afcS1Release s).lnk = s.lnk := (afcS1Release_controls s).lnk
@[simp] theorem afcS1Release_choices (s : State) : (afcS1Release s).choices = s.choices := (afcS1Release_controls s).choices
@[simp] theorem afcS1Release_pending (s : State) : (afcS1Release s).pending = s.pending := (afcS1Release_controls s).pending
@[simp] theorem afcS1Release_lds_zoom (s : State) : (afcS1Release s).lds.zoom = s.lds.zoom := (afcS1Release_controls s).zoom
@[simp] theorem afcS1Release_lds_focus (s : State) : (afcS1Release s).lds.focus = s.lds.focus := (afcS1Release_controls s).focus
@[simp] theorem afcS1Release_lds_iris (s : State) : (afcS1Release s).lds.iris = s.lds.iris := (afcS1Release_controls s).iris
@[simp] theorem afcS1Release_lds_params (s : State) : (afcS1Release s).lds.params = s.lds.params := (afcS1Release_controls s).params
@[simp] theorem afcS1Release_lds_latched (s : State) : (afcS1Release s).lds.latched = s.lds.latched := (afcS1Release_controls s).latched
@[simp] theorem afcS1Release_lds_reference (s : State) : (afcS1Release s).lds.reference = s.lds.reference := (afcS1Release_controls s).reference

theorem afcAbort_controls (s : State) (b : Bool) : State.ControlsOnly (afcAbort s b) s := by
  unfold afcAbort
  try dsimp only
  try (repeat' split)
  all_goals constructor <;> simp
@[simp] theorem afcAbort_intake (s : State) (b : Bool) : (afcAbort s b).intake = s.intake := (afcAbort_controls s b).intake
@[simp] theorem afcAbort_pxp (s : State) (b : Bool) : (afcAbort s b).pxp = s.pxp := (afcAbort_controls s b).pxp
@[simp] theorem afcAbort_stats (s : State) (b : Bool) : (afcAbort s b).stats = s.stats := (afcAbort_controls s b).stats
@[simp] theorem afcAbort_mou (s : State) (b : Bool) : (afcAbort s b).mou = s.mou := (afcAbort_controls s b).mou
@[simp] theorem afcAbort_cst (s : State) (b : Bool) : (afcAbort s b).cst = s.cst := (afcAbort_controls s b).cst
@[simp] theorem afcAbort_lnk (s : State) (b : Bool) : (afcAbort s b).lnk = s.lnk := (afcAbort_controls s b).lnk
@[simp] theorem afcAbort_choices (s : State) (b : Bool) : (afcAbort s b).choices = s.choices := (afcAbort_controls s b).choices
@[simp] theorem afcAbort_pending (s : State) (b : Bool) : (afcAbort s b).pending = s.pending := (afcAbort_controls s b).pending
@[simp] theorem afcAbort_lds_zoom (s : State) (b : Bool) : (afcAbort s b).lds.zoom = s.lds.zoom := (afcAbort_controls s b).zoom
@[simp] theorem afcAbort_lds_focus (s : State) (b : Bool) : (afcAbort s b).lds.focus = s.lds.focus := (afcAbort_controls s b).focus
@[simp] theorem afcAbort_lds_iris (s : State) (b : Bool) : (afcAbort s b).lds.iris = s.lds.iris := (afcAbort_controls s b).iris
@[simp] theorem afcAbort_lds_params (s : State) (b : Bool) : (afcAbort s b).lds.params = s.lds.params := (afcAbort_controls s b).params
@[simp] theorem afcAbort_lds_latched (s : State) (b : Bool) : (afcAbort s b).lds.latched = s.lds.latched := (afcAbort_controls s b).latched
@[simp] theorem afcAbort_lds_reference (s : State) (b : Bool) : (afcAbort s b).lds.reference = s.lds.reference := (afcAbort_controls s b).reference

theorem afcZoomGranted_controls (s : State) : State.ControlsOnly (afcZoomGranted s) s := by
  unfold afcZoomGranted
  try dsimp only
  try (repeat' split)
  all_goals constructor <;> simp
@[simp] theorem afcZoomGranted_intake (s : State) : (afcZoomGranted s).intake = s.intake := (afcZoomGranted_controls s).intake
@[simp] theorem afcZoomGranted_pxp (s : State) : (afcZoomGranted s).pxp = s.pxp := (afcZoomGranted_controls s).pxp
@[simp] theorem afcZoomGranted_stats (s : State) : (afcZoomGranted s).stats = s.stats := (afcZoomGranted_controls s).stats
@[simp] theorem afcZoomGranted_mou (s : State) : (afcZoomGranted s).mou = s.mou := (afcZoomGranted_controls s).mou
@[simp] theorem afcZoomGranted_cst (s : State) : (afcZoomGranted s).cst = s.cst := (afcZoomGranted_controls s).cst
@[simp] theorem afcZoomGranted_lnk (s : State) : (afcZoomGranted s).lnk = s.lnk := (afcZoomGranted_controls s).lnk
@[simp] theorem afcZoomGranted_choices (s : State) : (afcZoomGranted s).choices = s.choices := (afcZoomGranted_controls s).choices
@[simp] theorem afcZoomGranted_pending (s : State) : (afcZoomGranted s).pending = s.pending := (afcZoomGranted_controls s).pending
@[simp] theorem afcZoomGranted_lds_zoom (s : State) : (afcZoomGranted s).lds.zoom = s.lds.zoom := (afcZoomGranted_controls s).zoom
@[simp] theorem afcZoomGranted_lds_focus (s : State) : (afcZoomGranted s).lds.focus = s.lds.focus := (afcZoomGranted_controls s).focus
@[simp] theorem afcZoomGranted_lds_iris (s : State) : (afcZoomGranted s).lds.iris = s.lds.iris := (afcZoomGranted_controls s).iris
@[simp] theorem afcZoomGranted_lds_params (s : State) : (afcZoomGranted s).lds.params = s.lds.params := (afcZoomGranted_controls s).params
@[simp] theorem afcZoomGranted_lds_latched (s : State) : (afcZoomGranted s).lds.latched = s.lds.latched := (afcZoomGranted_controls s).latched
@[simp] theorem afcZoomGranted_lds_reference (s : State) : (afcZoomGranted s).lds.reference = s.lds.reference := (afcZoomGranted_controls s).reference

theorem afcPathStop_controls (s : State) : State.ControlsOnly (afcPathStop s) s := by
  unfold afcPathStop
  try dsimp only
  try (repeat' split)
  all_goals constructor <;> simp
@[simp] theorem afcPathStop_intake (s : State) : (afcPathStop s).intake = s.intake := (afcPathStop_controls s).intake
@[simp] theorem afcPathStop_pxp (s : State) : (afcPathStop s).pxp = s.pxp := (afcPathStop_controls s).pxp
@[simp] theorem afcPathStop_stats (s : State) : (afcPathStop s).stats = s.stats := (afcPathStop_controls s).stats
@[simp] theorem afcPathStop_mou (s : State) : (afcPathStop s).mou = s.mou := (afcPathStop_controls s).mou
@[simp] theorem afcPathStop_cst (s : State) : (afcPathStop s).cst = s.cst := (afcPathStop_controls s).cst
@[simp] theorem afcPathStop_lnk (s : State) : (afcPathStop s).lnk = s.lnk := (afcPathStop_controls s).lnk
@[simp] theorem afcPathStop_choices (s : State) : (afcPathStop s).choices = s.choices := (afcPathStop_controls s).choices
@[simp] theorem afcPathStop_pending (s : State) : (afcPathStop s).pending = s.pending := (afcPathStop_controls s).pending
@[simp] theorem afcPathStop_lds_zoom (s : State) : (afcPathStop s).lds.zoom = s.lds.zoom := (afcPathStop_controls s).zoom
@[simp] theorem afcPathStop_lds_focus (s : State) : (afcPathStop s).lds.focus = s.lds.focus := (afcPathStop_controls s).focus
@[simp] theorem afcPathStop_lds_iris (s : State) : (afcPathStop s).lds.iris = s.lds.iris := (afcPathStop_controls s).iris
@[simp] theorem afcPathStop_lds_params (s : State) : (afcPathStop s).lds.params = s.lds.params := (afcPathStop_controls s).params
@[simp] theorem afcPathStop_lds_latched (s : State) : (afcPathStop s).lds.latched = s.lds.latched := (afcPathStop_controls s).latched
@[simp] theorem afcPathStop_lds_reference (s : State) : (afcPathStop s).lds.reference = s.lds.reference := (afcPathStop_controls s).reference

theorem afcFocusInvalid_controls (s : State) : State.ControlsOnly (afcFocusInvalid s) s := by
  unfold afcFocusInvalid
  try dsimp only
  try (repeat' split)
  all_goals constructor <;> simp
@[simp] theorem afcFocusInvalid_intake (s : State) : (afcFocusInvalid s).intake = s.intake := (afcFocusInvalid_controls s).intake
@[simp] theorem afcFocusInvalid_pxp (s : State) : (afcFocusInvalid s).pxp = s.pxp := (afcFocusInvalid_controls s).pxp
@[simp] theorem afcFocusInvalid_stats (s : State) : (afcFocusInvalid s).stats = s.stats := (afcFocusInvalid_controls s).stats
@[simp] theorem afcFocusInvalid_mou (s : State) : (afcFocusInvalid s).mou = s.mou := (afcFocusInvalid_controls s).mou
@[simp] theorem afcFocusInvalid_cst (s : State) : (afcFocusInvalid s).cst = s.cst := (afcFocusInvalid_controls s).cst
@[simp] theorem afcFocusInvalid_lnk (s : State) : (afcFocusInvalid s).lnk = s.lnk := (afcFocusInvalid_controls s).lnk
@[simp] theorem afcFocusInvalid_choices (s : State) : (afcFocusInvalid s).choices = s.choices := (afcFocusInvalid_controls s).choices
@[simp] theorem afcFocusInvalid_pending (s : State) : (afcFocusInvalid s).pending = s.pending := (afcFocusInvalid_controls s).pending
@[simp] theorem afcFocusInvalid_lds_zoom (s : State) : (afcFocusInvalid s).lds.zoom = s.lds.zoom := (afcFocusInvalid_controls s).zoom
@[simp] theorem afcFocusInvalid_lds_focus (s : State) : (afcFocusInvalid s).lds.focus = s.lds.focus := (afcFocusInvalid_controls s).focus
@[simp] theorem afcFocusInvalid_lds_iris (s : State) : (afcFocusInvalid s).lds.iris = s.lds.iris := (afcFocusInvalid_controls s).iris
@[simp] theorem afcFocusInvalid_lds_params (s : State) : (afcFocusInvalid s).lds.params = s.lds.params := (afcFocusInvalid_controls s).params
@[simp] theorem afcFocusInvalid_lds_latched (s : State) : (afcFocusInvalid s).lds.latched = s.lds.latched := (afcFocusInvalid_controls s).latched
@[simp] theorem afcFocusInvalid_lds_reference (s : State) : (afcFocusInvalid s).lds.reference = s.lds.reference := (afcFocusInvalid_controls s).reference

theorem afcZoomIdle_controls (s : State) : State.ControlsOnly (afcZoomIdle s) s := by
  unfold afcZoomIdle
  try dsimp only
  try (repeat' split)
  all_goals constructor <;> simp
@[simp] theorem afcZoomIdle_intake (s : State) : (afcZoomIdle s).intake = s.intake := (afcZoomIdle_controls s).intake
@[simp] theorem afcZoomIdle_pxp (s : State) : (afcZoomIdle s).pxp = s.pxp := (afcZoomIdle_controls s).pxp
@[simp] theorem afcZoomIdle_stats (s : State) : (afcZoomIdle s).stats = s.stats := (afcZoomIdle_controls s).stats
@[simp] theorem afcZoomIdle_mou (s : State) : (afcZoomIdle s).mou = s.mou := (afcZoomIdle_controls s).mou
@[simp] theorem afcZoomIdle_cst (s : State) : (afcZoomIdle s).cst = s.cst := (afcZoomIdle_controls s).cst
@[simp] theorem afcZoomIdle_lnk (s : State) : (afcZoomIdle s).lnk = s.lnk := (afcZoomIdle_controls s).lnk
@[simp] theorem afcZoomIdle_choices (s : State) : (afcZoomIdle s).choices = s.choices := (afcZoomIdle_controls s).choices
@[simp] theorem afcZoomIdle_pending (s : State) : (afcZoomIdle s).pending = s.pending := (afcZoomIdle_controls s).pending
@[simp] theorem afcZoomIdle_lds_zoom (s : State) : (afcZoomIdle s).lds.zoom = s.lds.zoom := (afcZoomIdle_controls s).zoom
@[simp] theorem afcZoomIdle_lds_focus (s : State) : (afcZoomIdle s).lds.focus = s.lds.focus := (afcZoomIdle_controls s).focus
@[simp] theorem afcZoomIdle_lds_iris (s : State) : (afcZoomIdle s).lds.iris = s.lds.iris := (afcZoomIdle_controls s).iris
@[simp] theorem afcZoomIdle_lds_params (s : State) : (afcZoomIdle s).lds.params = s.lds.params := (afcZoomIdle_controls s).params
@[simp] theorem afcZoomIdle_lds_latched (s : State) : (afcZoomIdle s).lds.latched = s.lds.latched := (afcZoomIdle_controls s).latched
@[simp] theorem afcZoomIdle_lds_reference (s : State) : (afcZoomIdle s).lds.reference = s.lds.reference := (afcZoomIdle_controls s).reference

theorem afcDisturbance_controls (s : State) : State.ControlsOnly (afcDisturbance s) s := by
  unfold afcDisturbance
  try dsimp only
  try (repeat' split)
  all_goals constructor <;> simp
@[simp] theorem afcDisturbance_intake (s : State) : (afcDisturbance s).intake = s.intake := (afcDisturbance_controls s).intake
@[simp] theorem afcDisturbance_pxp (s : State) : (afcDisturbance s).pxp = s.pxp := (afcDisturbance_controls s).pxp
@[simp] theorem afcDisturbance_stats (s : State) : (afcDisturbance s).stats = s.stats := (afcDisturbance_controls s).stats
@[simp] theorem afcDisturbance_mou (s : State) : (afcDisturbance s).mou = s.mou := (afcDisturbance_controls s).mou
@[simp] theorem afcDisturbance_cst (s : State) : (afcDisturbance s).cst = s.cst := (afcDisturbance_controls s).cst
@[simp] theorem afcDisturbance_lnk (s : State) : (afcDisturbance s).lnk = s.lnk := (afcDisturbance_controls s).lnk
@[simp] theorem afcDisturbance_choices (s : State) : (afcDisturbance s).choices = s.choices := (afcDisturbance_controls s).choices
@[simp] theorem afcDisturbance_pending (s : State) : (afcDisturbance s).pending = s.pending := (afcDisturbance_controls s).pending
@[simp] theorem afcDisturbance_lds_zoom (s : State) : (afcDisturbance s).lds.zoom = s.lds.zoom := (afcDisturbance_controls s).zoom
@[simp] theorem afcDisturbance_lds_focus (s : State) : (afcDisturbance s).lds.focus = s.lds.focus := (afcDisturbance_controls s).focus
@[simp] theorem afcDisturbance_lds_iris (s : State) : (afcDisturbance s).lds.iris = s.lds.iris := (afcDisturbance_controls s).iris
@[simp] theorem afcDisturbance_lds_params (s : State) : (afcDisturbance s).lds.params = s.lds.params := (afcDisturbance_controls s).params
@[simp] theorem afcDisturbance_lds_latched (s : State) : (afcDisturbance s).lds.latched = s.lds.latched := (afcDisturbance_controls s).latched
@[simp] theorem afcDisturbance_lds_reference (s : State) : (afcDisturbance s).lds.reference = s.lds.reference := (afcDisturbance_controls s).reference

theorem afcSettleExpired_controls (s : State) : State.ControlsOnly (afcSettleExpired s) s := by
  unfold afcSettleExpired
  try dsimp only
  try (repeat' split)
  all_goals constructor <;> simp
@[simp] theorem afcSettleExpired_intake (s : State) : (afcSettleExpired s).intake = s.intake := (afcSettleExpired_controls s).intake
@[simp] theorem afcSettleExpired_pxp (s : State) : (afcSettleExpired s).pxp = s.pxp := (afcSettleExpired_controls s).pxp
@[simp] theorem afcSettleExpired_stats (s : State) : (afcSettleExpired s).stats = s.stats := (afcSettleExpired_controls s).stats
@[simp] theorem afcSettleExpired_mou (s : State) : (afcSettleExpired s).mou = s.mou := (afcSettleExpired_controls s).mou
@[simp] theorem afcSettleExpired_cst (s : State) : (afcSettleExpired s).cst = s.cst := (afcSettleExpired_controls s).cst
@[simp] theorem afcSettleExpired_lnk (s : State) : (afcSettleExpired s).lnk = s.lnk := (afcSettleExpired_controls s).lnk
@[simp] theorem afcSettleExpired_choices (s : State) : (afcSettleExpired s).choices = s.choices := (afcSettleExpired_controls s).choices
@[simp] theorem afcSettleExpired_pending (s : State) : (afcSettleExpired s).pending = s.pending := (afcSettleExpired_controls s).pending
@[simp] theorem afcSettleExpired_lds_zoom (s : State) : (afcSettleExpired s).lds.zoom = s.lds.zoom := (afcSettleExpired_controls s).zoom
@[simp] theorem afcSettleExpired_lds_focus (s : State) : (afcSettleExpired s).lds.focus = s.lds.focus := (afcSettleExpired_controls s).focus
@[simp] theorem afcSettleExpired_lds_iris (s : State) : (afcSettleExpired s).lds.iris = s.lds.iris := (afcSettleExpired_controls s).iris
@[simp] theorem afcSettleExpired_lds_params (s : State) : (afcSettleExpired s).lds.params = s.lds.params := (afcSettleExpired_controls s).params
@[simp] theorem afcSettleExpired_lds_latched (s : State) : (afcSettleExpired s).lds.latched = s.lds.latched := (afcSettleExpired_controls s).latched
@[simp] theorem afcSettleExpired_lds_reference (s : State) : (afcSettleExpired s).lds.reference = s.lds.reference := (afcSettleExpired_controls s).reference

theorem afcSettleSof_controls (s : State) (b : Bool) : State.ControlsOnly (afcSettleSof s b) s := by
  unfold afcSettleSof
  try dsimp only
  try (repeat' split)
  all_goals constructor <;> simp
@[simp] theorem afcSettleSof_intake (s : State) (b : Bool) : (afcSettleSof s b).intake = s.intake := (afcSettleSof_controls s b).intake
@[simp] theorem afcSettleSof_pxp (s : State) (b : Bool) : (afcSettleSof s b).pxp = s.pxp := (afcSettleSof_controls s b).pxp
@[simp] theorem afcSettleSof_stats (s : State) (b : Bool) : (afcSettleSof s b).stats = s.stats := (afcSettleSof_controls s b).stats
@[simp] theorem afcSettleSof_mou (s : State) (b : Bool) : (afcSettleSof s b).mou = s.mou := (afcSettleSof_controls s b).mou
@[simp] theorem afcSettleSof_cst (s : State) (b : Bool) : (afcSettleSof s b).cst = s.cst := (afcSettleSof_controls s b).cst
@[simp] theorem afcSettleSof_lnk (s : State) (b : Bool) : (afcSettleSof s b).lnk = s.lnk := (afcSettleSof_controls s b).lnk
@[simp] theorem afcSettleSof_choices (s : State) (b : Bool) : (afcSettleSof s b).choices = s.choices := (afcSettleSof_controls s b).choices
@[simp] theorem afcSettleSof_pending (s : State) (b : Bool) : (afcSettleSof s b).pending = s.pending := (afcSettleSof_controls s b).pending
@[simp] theorem afcSettleSof_lds_zoom (s : State) (b : Bool) : (afcSettleSof s b).lds.zoom = s.lds.zoom := (afcSettleSof_controls s b).zoom
@[simp] theorem afcSettleSof_lds_focus (s : State) (b : Bool) : (afcSettleSof s b).lds.focus = s.lds.focus := (afcSettleSof_controls s b).focus
@[simp] theorem afcSettleSof_lds_iris (s : State) (b : Bool) : (afcSettleSof s b).lds.iris = s.lds.iris := (afcSettleSof_controls s b).iris
@[simp] theorem afcSettleSof_lds_params (s : State) (b : Bool) : (afcSettleSof s b).lds.params = s.lds.params := (afcSettleSof_controls s b).params
@[simp] theorem afcSettleSof_lds_latched (s : State) (b : Bool) : (afcSettleSof s b).lds.latched = s.lds.latched := (afcSettleSof_controls s b).latched
@[simp] theorem afcSettleSof_lds_reference (s : State) (b : Bool) : (afcSettleSof s b).lds.reference = s.lds.reference := (afcSettleSof_controls s b).reference

theorem afcSof_controls (s : State) (b c : Bool) : State.ControlsOnly (afcSof s b c) s := by
  unfold afcSof
  try dsimp only
  try (repeat' split)
  all_goals constructor <;> simp
@[simp] theorem afcSof_intake (s : State) (b c : Bool) : (afcSof s b c).intake = s.intake := (afcSof_controls s b c).intake
@[simp] theorem afcSof_pxp (s : State) (b c : Bool) : (afcSof s b c).pxp = s.pxp := (afcSof_controls s b c).pxp
@[simp] theorem afcSof_stats (s : State) (b c : Bool) : (afcSof s b c).stats = s.stats := (afcSof_controls s b c).stats
@[simp] theorem afcSof_mou (s : State) (b c : Bool) : (afcSof s b c).mou = s.mou := (afcSof_controls s b c).mou
@[simp] theorem afcSof_cst (s : State) (b c : Bool) : (afcSof s b c).cst = s.cst := (afcSof_controls s b c).cst
@[simp] theorem afcSof_lnk (s : State) (b c : Bool) : (afcSof s b c).lnk = s.lnk := (afcSof_controls s b c).lnk
@[simp] theorem afcSof_choices (s : State) (b c : Bool) : (afcSof s b c).choices = s.choices := (afcSof_controls s b c).choices
@[simp] theorem afcSof_pending (s : State) (b c : Bool) : (afcSof s b c).pending = s.pending := (afcSof_controls s b c).pending
@[simp] theorem afcSof_lds_zoom (s : State) (b c : Bool) : (afcSof s b c).lds.zoom = s.lds.zoom := (afcSof_controls s b c).zoom
@[simp] theorem afcSof_lds_focus (s : State) (b c : Bool) : (afcSof s b c).lds.focus = s.lds.focus := (afcSof_controls s b c).focus
@[simp] theorem afcSof_lds_iris (s : State) (b c : Bool) : (afcSof s b c).lds.iris = s.lds.iris := (afcSof_controls s b c).iris
@[simp] theorem afcSof_lds_params (s : State) (b c : Bool) : (afcSof s b c).lds.params = s.lds.params := (afcSof_controls s b c).params
@[simp] theorem afcSof_lds_latched (s : State) (b c : Bool) : (afcSof s b c).lds.latched = s.lds.latched := (afcSof_controls s b c).latched
@[simp] theorem afcSof_lds_reference (s : State) (b c : Bool) : (afcSof s b c).lds.reference = s.lds.reference := (afcSof_controls s b c).reference

theorem afcMoveComplete_controls (s : State) : State.ControlsOnly (afcMoveComplete s) s := by
  unfold afcMoveComplete
  try dsimp only
  try (repeat' split)
  all_goals constructor <;> simp
@[simp] theorem afcMoveComplete_intake (s : State) : (afcMoveComplete s).intake = s.intake := (afcMoveComplete_controls s).intake
@[simp] theorem afcMoveComplete_pxp (s : State) : (afcMoveComplete s).pxp = s.pxp := (afcMoveComplete_controls s).pxp
@[simp] theorem afcMoveComplete_stats (s : State) : (afcMoveComplete s).stats = s.stats := (afcMoveComplete_controls s).stats
@[simp] theorem afcMoveComplete_mou (s : State) : (afcMoveComplete s).mou = s.mou := (afcMoveComplete_controls s).mou
@[simp] theorem afcMoveComplete_cst (s : State) : (afcMoveComplete s).cst = s.cst := (afcMoveComplete_controls s).cst
@[simp] theorem afcMoveComplete_lnk (s : State) : (afcMoveComplete s).lnk = s.lnk := (afcMoveComplete_controls s).lnk
@[simp] theorem afcMoveComplete_choices (s : State) : (afcMoveComplete s).choices = s.choices := (afcMoveComplete_controls s).choices
@[simp] theorem afcMoveComplete_pending (s : State) : (afcMoveComplete s).pending = s.pending := (afcMoveComplete_controls s).pending
@[simp] theorem afcMoveComplete_lds_zoom (s : State) : (afcMoveComplete s).lds.zoom = s.lds.zoom := (afcMoveComplete_controls s).zoom
@[simp] theorem afcMoveComplete_lds_focus (s : State) : (afcMoveComplete s).lds.focus = s.lds.focus := (afcMoveComplete_controls s).focus
@[simp] theorem afcMoveComplete_lds_iris (s : State) : (afcMoveComplete s).lds.iris = s.lds.iris := (afcMoveComplete_controls s).iris
@[simp] theorem afcMoveComplete_lds_params (s : State) : (afcMoveComplete s).lds.params = s.lds.params := (afcMoveComplete_controls s).params
@[simp] theorem afcMoveComplete_lds_latched (s : State) : (afcMoveComplete s).lds.latched = s.lds.latched := (afcMoveComplete_controls s).latched
@[simp] theorem afcMoveComplete_lds_reference (s : State) : (afcMoveComplete s).lds.reference = s.lds.reference := (afcMoveComplete_controls s).reference

theorem afcTrackEnded_controls (s : State) : State.ControlsOnly (afcTrackEnded s) s := by
  unfold afcTrackEnded
  try dsimp only
  try (repeat' split)
  all_goals constructor <;> simp
@[simp] theorem afcTrackEnded_intake (s : State) : (afcTrackEnded s).intake = s.intake := (afcTrackEnded_controls s).intake
@[simp] theorem afcTrackEnded_pxp (s : State) : (afcTrackEnded s).pxp = s.pxp := (afcTrackEnded_controls s).pxp
@[simp] theorem afcTrackEnded_stats (s : State) : (afcTrackEnded s).stats = s.stats := (afcTrackEnded_controls s).stats
@[simp] theorem afcTrackEnded_mou (s : State) : (afcTrackEnded s).mou = s.mou := (afcTrackEnded_controls s).mou
@[simp] theorem afcTrackEnded_cst (s : State) : (afcTrackEnded s).cst = s.cst := (afcTrackEnded_controls s).cst
@[simp] theorem afcTrackEnded_lnk (s : State) : (afcTrackEnded s).lnk = s.lnk := (afcTrackEnded_controls s).lnk
@[simp] theorem afcTrackEnded_choices (s : State) : (afcTrackEnded s).choices = s.choices := (afcTrackEnded_controls s).choices
@[simp] theorem afcTrackEnded_pending (s : State) : (afcTrackEnded s).pending = s.pending := (afcTrackEnded_controls s).pending
@[simp] theorem afcTrackEnded_lds_zoom (s : State) : (afcTrackEnded s).lds.zoom = s.lds.zoom := (afcTrackEnded_controls s).zoom
@[simp] theorem afcTrackEnded_lds_focus (s : State) : (afcTrackEnded s).lds.focus = s.lds.focus := (afcTrackEnded_controls s).focus
@[simp] theorem afcTrackEnded_lds_iris (s : State) : (afcTrackEnded s).lds.iris = s.lds.iris := (afcTrackEnded_controls s).iris
@[simp] theorem afcTrackEnded_lds_params (s : State) : (afcTrackEnded s).lds.params = s.lds.params := (afcTrackEnded_controls s).params
@[simp] theorem afcTrackEnded_lds_latched (s : State) : (afcTrackEnded s).lds.latched = s.lds.latched := (afcTrackEnded_controls s).latched
@[simp] theorem afcTrackEnded_lds_reference (s : State) : (afcTrackEnded s).lds.reference = s.lds.reference := (afcTrackEnded_controls s).reference

theorem afcCoarseEnd_controls (s : State) (sc : Scan) : State.ControlsOnly (afcCoarseEnd s sc) s := by
  unfold afcCoarseEnd
  try dsimp only
  try (repeat' split)
  all_goals constructor <;> simp
@[simp] theorem afcCoarseEnd_intake (s : State) (sc : Scan) : (afcCoarseEnd s sc).intake = s.intake := (afcCoarseEnd_controls s sc).intake
@[simp] theorem afcCoarseEnd_pxp (s : State) (sc : Scan) : (afcCoarseEnd s sc).pxp = s.pxp := (afcCoarseEnd_controls s sc).pxp
@[simp] theorem afcCoarseEnd_stats (s : State) (sc : Scan) : (afcCoarseEnd s sc).stats = s.stats := (afcCoarseEnd_controls s sc).stats
@[simp] theorem afcCoarseEnd_mou (s : State) (sc : Scan) : (afcCoarseEnd s sc).mou = s.mou := (afcCoarseEnd_controls s sc).mou
@[simp] theorem afcCoarseEnd_cst (s : State) (sc : Scan) : (afcCoarseEnd s sc).cst = s.cst := (afcCoarseEnd_controls s sc).cst
@[simp] theorem afcCoarseEnd_lnk (s : State) (sc : Scan) : (afcCoarseEnd s sc).lnk = s.lnk := (afcCoarseEnd_controls s sc).lnk
@[simp] theorem afcCoarseEnd_choices (s : State) (sc : Scan) : (afcCoarseEnd s sc).choices = s.choices := (afcCoarseEnd_controls s sc).choices
@[simp] theorem afcCoarseEnd_pending (s : State) (sc : Scan) : (afcCoarseEnd s sc).pending = s.pending := (afcCoarseEnd_controls s sc).pending
@[simp] theorem afcCoarseEnd_lds_zoom (s : State) (sc : Scan) : (afcCoarseEnd s sc).lds.zoom = s.lds.zoom := (afcCoarseEnd_controls s sc).zoom
@[simp] theorem afcCoarseEnd_lds_focus (s : State) (sc : Scan) : (afcCoarseEnd s sc).lds.focus = s.lds.focus := (afcCoarseEnd_controls s sc).focus
@[simp] theorem afcCoarseEnd_lds_iris (s : State) (sc : Scan) : (afcCoarseEnd s sc).lds.iris = s.lds.iris := (afcCoarseEnd_controls s sc).iris
@[simp] theorem afcCoarseEnd_lds_params (s : State) (sc : Scan) : (afcCoarseEnd s sc).lds.params = s.lds.params := (afcCoarseEnd_controls s sc).params
@[simp] theorem afcCoarseEnd_lds_latched (s : State) (sc : Scan) : (afcCoarseEnd s sc).lds.latched = s.lds.latched := (afcCoarseEnd_controls s sc).latched
@[simp] theorem afcCoarseEnd_lds_reference (s : State) (sc : Scan) : (afcCoarseEnd s sc).lds.reference = s.lds.reference := (afcCoarseEnd_controls s sc).reference

theorem afcLockChoice_controls (s : State) (sc : Scan) : State.ControlsOnly (afcLockChoice s sc) s := by
  unfold afcLockChoice
  try dsimp only
  try (repeat' split)
  all_goals constructor <;> simp
@[simp] theorem afcLockChoice_intake (s : State) (sc : Scan) : (afcLockChoice s sc).intake = s.intake := (afcLockChoice_controls s sc).intake
@[simp] theorem afcLockChoice_pxp (s : State) (sc : Scan) : (afcLockChoice s sc).pxp = s.pxp := (afcLockChoice_controls s sc).pxp
@[simp] theorem afcLockChoice_stats (s : State) (sc : Scan) : (afcLockChoice s sc).stats = s.stats := (afcLockChoice_controls s sc).stats
@[simp] theorem afcLockChoice_mou (s : State) (sc : Scan) : (afcLockChoice s sc).mou = s.mou := (afcLockChoice_controls s sc).mou
@[simp] theorem afcLockChoice_cst (s : State) (sc : Scan) : (afcLockChoice s sc).cst = s.cst := (afcLockChoice_controls s sc).cst
@[simp] theorem afcLockChoice_lnk (s : State) (sc : Scan) : (afcLockChoice s sc).lnk = s.lnk := (afcLockChoice_controls s sc).lnk
@[simp] theorem afcLockChoice_choices (s : State) (sc : Scan) : (afcLockChoice s sc).choices = s.choices := (afcLockChoice_controls s sc).choices
@[simp] theorem afcLockChoice_pending (s : State) (sc : Scan) : (afcLockChoice s sc).pending = s.pending := (afcLockChoice_controls s sc).pending
@[simp] theorem afcLockChoice_lds_zoom (s : State) (sc : Scan) : (afcLockChoice s sc).lds.zoom = s.lds.zoom := (afcLockChoice_controls s sc).zoom
@[simp] theorem afcLockChoice_lds_focus (s : State) (sc : Scan) : (afcLockChoice s sc).lds.focus = s.lds.focus := (afcLockChoice_controls s sc).focus
@[simp] theorem afcLockChoice_lds_iris (s : State) (sc : Scan) : (afcLockChoice s sc).lds.iris = s.lds.iris := (afcLockChoice_controls s sc).iris
@[simp] theorem afcLockChoice_lds_params (s : State) (sc : Scan) : (afcLockChoice s sc).lds.params = s.lds.params := (afcLockChoice_controls s sc).params
@[simp] theorem afcLockChoice_lds_latched (s : State) (sc : Scan) : (afcLockChoice s sc).lds.latched = s.lds.latched := (afcLockChoice_controls s sc).latched
@[simp] theorem afcLockChoice_lds_reference (s : State) (sc : Scan) : (afcLockChoice s sc).lds.reference = s.lds.reference := (afcLockChoice_controls s sc).reference

theorem afcNextPosition_controls (s : State) (sc : Scan) : State.ControlsOnly (afcNextPosition s sc) s := by
  unfold afcNextPosition
  try dsimp only
  try (repeat' split)
  all_goals constructor <;> simp
@[simp] theorem afcNextPosition_intake (s : State) (sc : Scan) : (afcNextPosition s sc).intake = s.intake := (afcNextPosition_controls s sc).intake
@[simp] theorem afcNextPosition_pxp (s : State) (sc : Scan) : (afcNextPosition s sc).pxp = s.pxp := (afcNextPosition_controls s sc).pxp
@[simp] theorem afcNextPosition_stats (s : State) (sc : Scan) : (afcNextPosition s sc).stats = s.stats := (afcNextPosition_controls s sc).stats
@[simp] theorem afcNextPosition_mou (s : State) (sc : Scan) : (afcNextPosition s sc).mou = s.mou := (afcNextPosition_controls s sc).mou
@[simp] theorem afcNextPosition_cst (s : State) (sc : Scan) : (afcNextPosition s sc).cst = s.cst := (afcNextPosition_controls s sc).cst
@[simp] theorem afcNextPosition_lnk (s : State) (sc : Scan) : (afcNextPosition s sc).lnk = s.lnk := (afcNextPosition_controls s sc).lnk
@[simp] theorem afcNextPosition_choices (s : State) (sc : Scan) : (afcNextPosition s sc).choices = s.choices := (afcNextPosition_controls s sc).choices
@[simp] theorem afcNextPosition_pending (s : State) (sc : Scan) : (afcNextPosition s sc).pending = s.pending := (afcNextPosition_controls s sc).pending
@[simp] theorem afcNextPosition_lds_zoom (s : State) (sc : Scan) : (afcNextPosition s sc).lds.zoom = s.lds.zoom := (afcNextPosition_controls s sc).zoom
@[simp] theorem afcNextPosition_lds_focus (s : State) (sc : Scan) : (afcNextPosition s sc).lds.focus = s.lds.focus := (afcNextPosition_controls s sc).focus
@[simp] theorem afcNextPosition_lds_iris (s : State) (sc : Scan) : (afcNextPosition s sc).lds.iris = s.lds.iris := (afcNextPosition_controls s sc).iris
@[simp] theorem afcNextPosition_lds_params (s : State) (sc : Scan) : (afcNextPosition s sc).lds.params = s.lds.params := (afcNextPosition_controls s sc).params
@[simp] theorem afcNextPosition_lds_latched (s : State) (sc : Scan) : (afcNextPosition s sc).lds.latched = s.lds.latched := (afcNextPosition_controls s sc).latched
@[simp] theorem afcNextPosition_lds_reference (s : State) (sc : Scan) : (afcNextPosition s sc).lds.reference = s.lds.reference := (afcNextPosition_controls s sc).reference

theorem afcEntry_controls (s : State) (sc : Scan) (b : Bool) (fn : Nat) (rs : List WindowRecord) : State.ControlsOnly (afcEntry s sc b fn rs) s := by
  unfold afcEntry
  try dsimp only
  try (repeat' split)
  all_goals constructor <;> simp
@[simp] theorem afcEntry_intake (s : State) (sc : Scan) (b : Bool) (fn : Nat) (rs : List WindowRecord) : (afcEntry s sc b fn rs).intake = s.intake := (afcEntry_controls s sc b fn rs).intake
@[simp] theorem afcEntry_pxp (s : State) (sc : Scan) (b : Bool) (fn : Nat) (rs : List WindowRecord) : (afcEntry s sc b fn rs).pxp = s.pxp := (afcEntry_controls s sc b fn rs).pxp
@[simp] theorem afcEntry_stats (s : State) (sc : Scan) (b : Bool) (fn : Nat) (rs : List WindowRecord) : (afcEntry s sc b fn rs).stats = s.stats := (afcEntry_controls s sc b fn rs).stats
@[simp] theorem afcEntry_mou (s : State) (sc : Scan) (b : Bool) (fn : Nat) (rs : List WindowRecord) : (afcEntry s sc b fn rs).mou = s.mou := (afcEntry_controls s sc b fn rs).mou
@[simp] theorem afcEntry_cst (s : State) (sc : Scan) (b : Bool) (fn : Nat) (rs : List WindowRecord) : (afcEntry s sc b fn rs).cst = s.cst := (afcEntry_controls s sc b fn rs).cst
@[simp] theorem afcEntry_lnk (s : State) (sc : Scan) (b : Bool) (fn : Nat) (rs : List WindowRecord) : (afcEntry s sc b fn rs).lnk = s.lnk := (afcEntry_controls s sc b fn rs).lnk
@[simp] theorem afcEntry_choices (s : State) (sc : Scan) (b : Bool) (fn : Nat) (rs : List WindowRecord) : (afcEntry s sc b fn rs).choices = s.choices := (afcEntry_controls s sc b fn rs).choices
@[simp] theorem afcEntry_pending (s : State) (sc : Scan) (b : Bool) (fn : Nat) (rs : List WindowRecord) : (afcEntry s sc b fn rs).pending = s.pending := (afcEntry_controls s sc b fn rs).pending
@[simp] theorem afcEntry_lds_zoom (s : State) (sc : Scan) (b : Bool) (fn : Nat) (rs : List WindowRecord) : (afcEntry s sc b fn rs).lds.zoom = s.lds.zoom := (afcEntry_controls s sc b fn rs).zoom
@[simp] theorem afcEntry_lds_focus (s : State) (sc : Scan) (b : Bool) (fn : Nat) (rs : List WindowRecord) : (afcEntry s sc b fn rs).lds.focus = s.lds.focus := (afcEntry_controls s sc b fn rs).focus
@[simp] theorem afcEntry_lds_iris (s : State) (sc : Scan) (b : Bool) (fn : Nat) (rs : List WindowRecord) : (afcEntry s sc b fn rs).lds.iris = s.lds.iris := (afcEntry_controls s sc b fn rs).iris
@[simp] theorem afcEntry_lds_params (s : State) (sc : Scan) (b : Bool) (fn : Nat) (rs : List WindowRecord) : (afcEntry s sc b fn rs).lds.params = s.lds.params := (afcEntry_controls s sc b fn rs).params
@[simp] theorem afcEntry_lds_latched (s : State) (sc : Scan) (b : Bool) (fn : Nat) (rs : List WindowRecord) : (afcEntry s sc b fn rs).lds.latched = s.lds.latched := (afcEntry_controls s sc b fn rs).latched
@[simp] theorem afcEntry_lds_reference (s : State) (sc : Scan) (b : Bool) (fn : Nat) (rs : List WindowRecord) : (afcEntry s sc b fn rs).lds.reference = s.lds.reference := (afcEntry_controls s sc b fn rs).reference

theorem afcReferenceFrame_controls (s : State) (k : Lock) (n : Nat) : State.ControlsOnly (afcReferenceFrame s k n) s := by
  unfold afcReferenceFrame
  try dsimp only
  try (repeat' split)
  all_goals constructor <;> simp
@[simp] theorem afcReferenceFrame_intake (s : State) (k : Lock) (n : Nat) : (afcReferenceFrame s k n).intake = s.intake := (afcReferenceFrame_controls s k n).intake
@[simp] theorem afcReferenceFrame_pxp (s : State) (k : Lock) (n : Nat) : (afcReferenceFrame s k n).pxp = s.pxp := (afcReferenceFrame_controls s k n).pxp
@[simp] theorem afcReferenceFrame_stats (s : State) (k : Lock) (n : Nat) : (afcReferenceFrame s k n).stats = s.stats := (afcReferenceFrame_controls s k n).stats
@[simp] theorem afcReferenceFrame_mou (s : State) (k : Lock) (n : Nat) : (afcReferenceFrame s k n).mou = s.mou := (afcReferenceFrame_controls s k n).mou
@[simp] theorem afcReferenceFrame_cst (s : State) (k : Lock) (n : Nat) : (afcReferenceFrame s k n).cst = s.cst := (afcReferenceFrame_controls s k n).cst
@[simp] theorem afcReferenceFrame_lnk (s : State) (k : Lock) (n : Nat) : (afcReferenceFrame s k n).lnk = s.lnk := (afcReferenceFrame_controls s k n).lnk
@[simp] theorem afcReferenceFrame_choices (s : State) (k : Lock) (n : Nat) : (afcReferenceFrame s k n).choices = s.choices := (afcReferenceFrame_controls s k n).choices
@[simp] theorem afcReferenceFrame_pending (s : State) (k : Lock) (n : Nat) : (afcReferenceFrame s k n).pending = s.pending := (afcReferenceFrame_controls s k n).pending
@[simp] theorem afcReferenceFrame_lds_zoom (s : State) (k : Lock) (n : Nat) : (afcReferenceFrame s k n).lds.zoom = s.lds.zoom := (afcReferenceFrame_controls s k n).zoom
@[simp] theorem afcReferenceFrame_lds_focus (s : State) (k : Lock) (n : Nat) : (afcReferenceFrame s k n).lds.focus = s.lds.focus := (afcReferenceFrame_controls s k n).focus
@[simp] theorem afcReferenceFrame_lds_iris (s : State) (k : Lock) (n : Nat) : (afcReferenceFrame s k n).lds.iris = s.lds.iris := (afcReferenceFrame_controls s k n).iris
@[simp] theorem afcReferenceFrame_lds_params (s : State) (k : Lock) (n : Nat) : (afcReferenceFrame s k n).lds.params = s.lds.params := (afcReferenceFrame_controls s k n).params
@[simp] theorem afcReferenceFrame_lds_latched (s : State) (k : Lock) (n : Nat) : (afcReferenceFrame s k n).lds.latched = s.lds.latched := (afcReferenceFrame_controls s k n).latched
@[simp] theorem afcReferenceFrame_lds_reference (s : State) (k : Lock) (n : Nat) : (afcReferenceFrame s k n).lds.reference = s.lds.reference := (afcReferenceFrame_controls s k n).reference

theorem afcFigures_controls (s : State) (fn : Nat) (rs : List WindowRecord) : State.ControlsOnly (afcFigures s fn rs) s := by
  unfold afcFigures
  try dsimp only
  try (repeat' split)
  all_goals constructor <;> simp
@[simp] theorem afcFigures_intake (s : State) (fn : Nat) (rs : List WindowRecord) : (afcFigures s fn rs).intake = s.intake := (afcFigures_controls s fn rs).intake
@[simp] theorem afcFigures_pxp (s : State) (fn : Nat) (rs : List WindowRecord) : (afcFigures s fn rs).pxp = s.pxp := (afcFigures_controls s fn rs).pxp
@[simp] theorem afcFigures_stats (s : State) (fn : Nat) (rs : List WindowRecord) : (afcFigures s fn rs).stats = s.stats := (afcFigures_controls s fn rs).stats
@[simp] theorem afcFigures_mou (s : State) (fn : Nat) (rs : List WindowRecord) : (afcFigures s fn rs).mou = s.mou := (afcFigures_controls s fn rs).mou
@[simp] theorem afcFigures_cst (s : State) (fn : Nat) (rs : List WindowRecord) : (afcFigures s fn rs).cst = s.cst := (afcFigures_controls s fn rs).cst
@[simp] theorem afcFigures_lnk (s : State) (fn : Nat) (rs : List WindowRecord) : (afcFigures s fn rs).lnk = s.lnk := (afcFigures_controls s fn rs).lnk
@[simp] theorem afcFigures_choices (s : State) (fn : Nat) (rs : List WindowRecord) : (afcFigures s fn rs).choices = s.choices := (afcFigures_controls s fn rs).choices
@[simp] theorem afcFigures_pending (s : State) (fn : Nat) (rs : List WindowRecord) : (afcFigures s fn rs).pending = s.pending := (afcFigures_controls s fn rs).pending
@[simp] theorem afcFigures_lds_zoom (s : State) (fn : Nat) (rs : List WindowRecord) : (afcFigures s fn rs).lds.zoom = s.lds.zoom := (afcFigures_controls s fn rs).zoom
@[simp] theorem afcFigures_lds_focus (s : State) (fn : Nat) (rs : List WindowRecord) : (afcFigures s fn rs).lds.focus = s.lds.focus := (afcFigures_controls s fn rs).focus
@[simp] theorem afcFigures_lds_iris (s : State) (fn : Nat) (rs : List WindowRecord) : (afcFigures s fn rs).lds.iris = s.lds.iris := (afcFigures_controls s fn rs).iris
@[simp] theorem afcFigures_lds_params (s : State) (fn : Nat) (rs : List WindowRecord) : (afcFigures s fn rs).lds.params = s.lds.params := (afcFigures_controls s fn rs).params
@[simp] theorem afcFigures_lds_latched (s : State) (fn : Nat) (rs : List WindowRecord) : (afcFigures s fn rs).lds.latched = s.lds.latched := (afcFigures_controls s fn rs).latched
@[simp] theorem afcFigures_lds_reference (s : State) (fn : Nat) (rs : List WindowRecord) : (afcFigures s fn rs).lds.reference = s.lds.reference := (afcFigures_controls s fn rs).reference

theorem zmcPlace_controls (s : State) (e sp : Nat) : State.ControlsOnly (zmcPlace s e sp) s := by
  unfold zmcPlace
  try dsimp only
  try (repeat' split)
  all_goals constructor <;> simp
@[simp] theorem zmcPlace_intake (s : State) (e sp : Nat) : (zmcPlace s e sp).intake = s.intake := (zmcPlace_controls s e sp).intake
@[simp] theorem zmcPlace_pxp (s : State) (e sp : Nat) : (zmcPlace s e sp).pxp = s.pxp := (zmcPlace_controls s e sp).pxp
@[simp] theorem zmcPlace_stats (s : State) (e sp : Nat) : (zmcPlace s e sp).stats = s.stats := (zmcPlace_controls s e sp).stats
@[simp] theorem zmcPlace_mou (s : State) (e sp : Nat) : (zmcPlace s e sp).mou = s.mou := (zmcPlace_controls s e sp).mou
@[simp] theorem zmcPlace_cst (s : State) (e sp : Nat) : (zmcPlace s e sp).cst = s.cst := (zmcPlace_controls s e sp).cst
@[simp] theorem zmcPlace_lnk (s : State) (e sp : Nat) : (zmcPlace s e sp).lnk = s.lnk := (zmcPlace_controls s e sp).lnk
@[simp] theorem zmcPlace_choices (s : State) (e sp : Nat) : (zmcPlace s e sp).choices = s.choices := (zmcPlace_controls s e sp).choices
@[simp] theorem zmcPlace_pending (s : State) (e sp : Nat) : (zmcPlace s e sp).pending = s.pending := (zmcPlace_controls s e sp).pending
@[simp] theorem zmcPlace_lds_zoom (s : State) (e sp : Nat) : (zmcPlace s e sp).lds.zoom = s.lds.zoom := (zmcPlace_controls s e sp).zoom
@[simp] theorem zmcPlace_lds_focus (s : State) (e sp : Nat) : (zmcPlace s e sp).lds.focus = s.lds.focus := (zmcPlace_controls s e sp).focus
@[simp] theorem zmcPlace_lds_iris (s : State) (e sp : Nat) : (zmcPlace s e sp).lds.iris = s.lds.iris := (zmcPlace_controls s e sp).iris
@[simp] theorem zmcPlace_lds_params (s : State) (e sp : Nat) : (zmcPlace s e sp).lds.params = s.lds.params := (zmcPlace_controls s e sp).params
@[simp] theorem zmcPlace_lds_latched (s : State) (e sp : Nat) : (zmcPlace s e sp).lds.latched = s.lds.latched := (zmcPlace_controls s e sp).latched
@[simp] theorem zmcPlace_lds_reference (s : State) (e sp : Nat) : (zmcPlace s e sp).lds.reference = s.lds.reference := (zmcPlace_controls s e sp).reference

theorem zmcNextSegment_controls (s : State) (z : ZoomInHand) : State.ControlsOnly (zmcNextSegment s z) s := by
  unfold zmcNextSegment
  try dsimp only
  try (repeat' split)
  all_goals constructor <;> simp
@[simp] theorem zmcNextSegment_intake (s : State) (z : ZoomInHand) : (zmcNextSegment s z).intake = s.intake := (zmcNextSegment_controls s z).intake
@[simp] theorem zmcNextSegment_pxp (s : State) (z : ZoomInHand) : (zmcNextSegment s z).pxp = s.pxp := (zmcNextSegment_controls s z).pxp
@[simp] theorem zmcNextSegment_stats (s : State) (z : ZoomInHand) : (zmcNextSegment s z).stats = s.stats := (zmcNextSegment_controls s z).stats
@[simp] theorem zmcNextSegment_mou (s : State) (z : ZoomInHand) : (zmcNextSegment s z).mou = s.mou := (zmcNextSegment_controls s z).mou
@[simp] theorem zmcNextSegment_cst (s : State) (z : ZoomInHand) : (zmcNextSegment s z).cst = s.cst := (zmcNextSegment_controls s z).cst
@[simp] theorem zmcNextSegment_lnk (s : State) (z : ZoomInHand) : (zmcNextSegment s z).lnk = s.lnk := (zmcNextSegment_controls s z).lnk
@[simp] theorem zmcNextSegment_choices (s : State) (z : ZoomInHand) : (zmcNextSegment s z).choices = s.choices := (zmcNextSegment_controls s z).choices
@[simp] theorem zmcNextSegment_pending (s : State) (z : ZoomInHand) : (zmcNextSegment s z).pending = s.pending := (zmcNextSegment_controls s z).pending
@[simp] theorem zmcNextSegment_lds_zoom (s : State) (z : ZoomInHand) : (zmcNextSegment s z).lds.zoom = s.lds.zoom := (zmcNextSegment_controls s z).zoom
@[simp] theorem zmcNextSegment_lds_focus (s : State) (z : ZoomInHand) : (zmcNextSegment s z).lds.focus = s.lds.focus := (zmcNextSegment_controls s z).focus
@[simp] theorem zmcNextSegment_lds_iris (s : State) (z : ZoomInHand) : (zmcNextSegment s z).lds.iris = s.lds.iris := (zmcNextSegment_controls s z).iris
@[simp] theorem zmcNextSegment_lds_params (s : State) (z : ZoomInHand) : (zmcNextSegment s z).lds.params = s.lds.params := (zmcNextSegment_controls s z).params
@[simp] theorem zmcNextSegment_lds_latched (s : State) (z : ZoomInHand) : (zmcNextSegment s z).lds.latched = s.lds.latched := (zmcNextSegment_controls s z).latched
@[simp] theorem zmcNextSegment_lds_reference (s : State) (z : ZoomInHand) : (zmcNextSegment s z).lds.reference = s.lds.reference := (zmcNextSegment_controls s z).reference

theorem zmcStart_controls (s : State) (t : Clamped Nat) (sp : Nat) : State.ControlsOnly (zmcStart s t sp) s := by
  unfold zmcStart
  try dsimp only
  try (repeat' split)
  all_goals constructor <;> simp
@[simp] theorem zmcStart_intake (s : State) (t : Clamped Nat) (sp : Nat) : (zmcStart s t sp).intake = s.intake := (zmcStart_controls s t sp).intake
@[simp] theorem zmcStart_pxp (s : State) (t : Clamped Nat) (sp : Nat) : (zmcStart s t sp).pxp = s.pxp := (zmcStart_controls s t sp).pxp
@[simp] theorem zmcStart_stats (s : State) (t : Clamped Nat) (sp : Nat) : (zmcStart s t sp).stats = s.stats := (zmcStart_controls s t sp).stats
@[simp] theorem zmcStart_mou (s : State) (t : Clamped Nat) (sp : Nat) : (zmcStart s t sp).mou = s.mou := (zmcStart_controls s t sp).mou
@[simp] theorem zmcStart_cst (s : State) (t : Clamped Nat) (sp : Nat) : (zmcStart s t sp).cst = s.cst := (zmcStart_controls s t sp).cst
@[simp] theorem zmcStart_lnk (s : State) (t : Clamped Nat) (sp : Nat) : (zmcStart s t sp).lnk = s.lnk := (zmcStart_controls s t sp).lnk
@[simp] theorem zmcStart_choices (s : State) (t : Clamped Nat) (sp : Nat) : (zmcStart s t sp).choices = s.choices := (zmcStart_controls s t sp).choices
@[simp] theorem zmcStart_pending (s : State) (t : Clamped Nat) (sp : Nat) : (zmcStart s t sp).pending = s.pending := (zmcStart_controls s t sp).pending
@[simp] theorem zmcStart_lds_zoom (s : State) (t : Clamped Nat) (sp : Nat) : (zmcStart s t sp).lds.zoom = s.lds.zoom := (zmcStart_controls s t sp).zoom
@[simp] theorem zmcStart_lds_focus (s : State) (t : Clamped Nat) (sp : Nat) : (zmcStart s t sp).lds.focus = s.lds.focus := (zmcStart_controls s t sp).focus
@[simp] theorem zmcStart_lds_iris (s : State) (t : Clamped Nat) (sp : Nat) : (zmcStart s t sp).lds.iris = s.lds.iris := (zmcStart_controls s t sp).iris
@[simp] theorem zmcStart_lds_params (s : State) (t : Clamped Nat) (sp : Nat) : (zmcStart s t sp).lds.params = s.lds.params := (zmcStart_controls s t sp).params
@[simp] theorem zmcStart_lds_latched (s : State) (t : Clamped Nat) (sp : Nat) : (zmcStart s t sp).lds.latched = s.lds.latched := (zmcStart_controls s t sp).latched
@[simp] theorem zmcStart_lds_reference (s : State) (t : Clamped Nat) (sp : Nat) : (zmcStart s t sp).lds.reference = s.lds.reference := (zmcStart_controls s t sp).reference

theorem zmcRetarget_controls (s : State) (z : ZoomInHand) (t : Clamped Nat) (sp : Nat) : State.ControlsOnly (zmcRetarget s z t sp) s := by
  unfold zmcRetarget
  try dsimp only
  try (repeat' split)
  all_goals constructor <;> simp
@[simp] theorem zmcRetarget_intake (s : State) (z : ZoomInHand) (t : Clamped Nat) (sp : Nat) : (zmcRetarget s z t sp).intake = s.intake := (zmcRetarget_controls s z t sp).intake
@[simp] theorem zmcRetarget_pxp (s : State) (z : ZoomInHand) (t : Clamped Nat) (sp : Nat) : (zmcRetarget s z t sp).pxp = s.pxp := (zmcRetarget_controls s z t sp).pxp
@[simp] theorem zmcRetarget_stats (s : State) (z : ZoomInHand) (t : Clamped Nat) (sp : Nat) : (zmcRetarget s z t sp).stats = s.stats := (zmcRetarget_controls s z t sp).stats
@[simp] theorem zmcRetarget_mou (s : State) (z : ZoomInHand) (t : Clamped Nat) (sp : Nat) : (zmcRetarget s z t sp).mou = s.mou := (zmcRetarget_controls s z t sp).mou
@[simp] theorem zmcRetarget_cst (s : State) (z : ZoomInHand) (t : Clamped Nat) (sp : Nat) : (zmcRetarget s z t sp).cst = s.cst := (zmcRetarget_controls s z t sp).cst
@[simp] theorem zmcRetarget_lnk (s : State) (z : ZoomInHand) (t : Clamped Nat) (sp : Nat) : (zmcRetarget s z t sp).lnk = s.lnk := (zmcRetarget_controls s z t sp).lnk
@[simp] theorem zmcRetarget_choices (s : State) (z : ZoomInHand) (t : Clamped Nat) (sp : Nat) : (zmcRetarget s z t sp).choices = s.choices := (zmcRetarget_controls s z t sp).choices
@[simp] theorem zmcRetarget_pending (s : State) (z : ZoomInHand) (t : Clamped Nat) (sp : Nat) : (zmcRetarget s z t sp).pending = s.pending := (zmcRetarget_controls s z t sp).pending
@[simp] theorem zmcRetarget_lds_zoom (s : State) (z : ZoomInHand) (t : Clamped Nat) (sp : Nat) : (zmcRetarget s z t sp).lds.zoom = s.lds.zoom := (zmcRetarget_controls s z t sp).zoom
@[simp] theorem zmcRetarget_lds_focus (s : State) (z : ZoomInHand) (t : Clamped Nat) (sp : Nat) : (zmcRetarget s z t sp).lds.focus = s.lds.focus := (zmcRetarget_controls s z t sp).focus
@[simp] theorem zmcRetarget_lds_iris (s : State) (z : ZoomInHand) (t : Clamped Nat) (sp : Nat) : (zmcRetarget s z t sp).lds.iris = s.lds.iris := (zmcRetarget_controls s z t sp).iris
@[simp] theorem zmcRetarget_lds_params (s : State) (z : ZoomInHand) (t : Clamped Nat) (sp : Nat) : (zmcRetarget s z t sp).lds.params = s.lds.params := (zmcRetarget_controls s z t sp).params
@[simp] theorem zmcRetarget_lds_latched (s : State) (z : ZoomInHand) (t : Clamped Nat) (sp : Nat) : (zmcRetarget s z t sp).lds.latched = s.lds.latched := (zmcRetarget_controls s z t sp).latched
@[simp] theorem zmcRetarget_lds_reference (s : State) (z : ZoomInHand) (t : Clamped Nat) (sp : Nat) : (zmcRetarget s z t sp).lds.reference = s.lds.reference := (zmcRetarget_controls s z t sp).reference

theorem zmcCommand_controls (s : State) (t : Clamped Nat) (sp : Nat) : State.ControlsOnly (zmcCommand s t sp) s := by
  unfold zmcCommand
  try dsimp only
  try (repeat' split)
  all_goals constructor <;> simp
@[simp] theorem zmcCommand_intake (s : State) (t : Clamped Nat) (sp : Nat) : (zmcCommand s t sp).intake = s.intake := (zmcCommand_controls s t sp).intake
@[simp] theorem zmcCommand_pxp (s : State) (t : Clamped Nat) (sp : Nat) : (zmcCommand s t sp).pxp = s.pxp := (zmcCommand_controls s t sp).pxp
@[simp] theorem zmcCommand_stats (s : State) (t : Clamped Nat) (sp : Nat) : (zmcCommand s t sp).stats = s.stats := (zmcCommand_controls s t sp).stats
@[simp] theorem zmcCommand_mou (s : State) (t : Clamped Nat) (sp : Nat) : (zmcCommand s t sp).mou = s.mou := (zmcCommand_controls s t sp).mou
@[simp] theorem zmcCommand_cst (s : State) (t : Clamped Nat) (sp : Nat) : (zmcCommand s t sp).cst = s.cst := (zmcCommand_controls s t sp).cst
@[simp] theorem zmcCommand_lnk (s : State) (t : Clamped Nat) (sp : Nat) : (zmcCommand s t sp).lnk = s.lnk := (zmcCommand_controls s t sp).lnk
@[simp] theorem zmcCommand_choices (s : State) (t : Clamped Nat) (sp : Nat) : (zmcCommand s t sp).choices = s.choices := (zmcCommand_controls s t sp).choices
@[simp] theorem zmcCommand_pending (s : State) (t : Clamped Nat) (sp : Nat) : (zmcCommand s t sp).pending = s.pending := (zmcCommand_controls s t sp).pending
@[simp] theorem zmcCommand_lds_zoom (s : State) (t : Clamped Nat) (sp : Nat) : (zmcCommand s t sp).lds.zoom = s.lds.zoom := (zmcCommand_controls s t sp).zoom
@[simp] theorem zmcCommand_lds_focus (s : State) (t : Clamped Nat) (sp : Nat) : (zmcCommand s t sp).lds.focus = s.lds.focus := (zmcCommand_controls s t sp).focus
@[simp] theorem zmcCommand_lds_iris (s : State) (t : Clamped Nat) (sp : Nat) : (zmcCommand s t sp).lds.iris = s.lds.iris := (zmcCommand_controls s t sp).iris
@[simp] theorem zmcCommand_lds_params (s : State) (t : Clamped Nat) (sp : Nat) : (zmcCommand s t sp).lds.params = s.lds.params := (zmcCommand_controls s t sp).params
@[simp] theorem zmcCommand_lds_latched (s : State) (t : Clamped Nat) (sp : Nat) : (zmcCommand s t sp).lds.latched = s.lds.latched := (zmcCommand_controls s t sp).latched
@[simp] theorem zmcCommand_lds_reference (s : State) (t : Clamped Nat) (sp : Nat) : (zmcCommand s t sp).lds.reference = s.lds.reference := (zmcCommand_controls s t sp).reference

theorem zmcTrack_controls (s : State) : State.ControlsOnly (zmcTrack s) s := by
  unfold zmcTrack
  try dsimp only
  try (repeat' split)
  all_goals constructor <;> simp
@[simp] theorem zmcTrack_intake (s : State) : (zmcTrack s).intake = s.intake := (zmcTrack_controls s).intake
@[simp] theorem zmcTrack_pxp (s : State) : (zmcTrack s).pxp = s.pxp := (zmcTrack_controls s).pxp
@[simp] theorem zmcTrack_stats (s : State) : (zmcTrack s).stats = s.stats := (zmcTrack_controls s).stats
@[simp] theorem zmcTrack_mou (s : State) : (zmcTrack s).mou = s.mou := (zmcTrack_controls s).mou
@[simp] theorem zmcTrack_cst (s : State) : (zmcTrack s).cst = s.cst := (zmcTrack_controls s).cst
@[simp] theorem zmcTrack_lnk (s : State) : (zmcTrack s).lnk = s.lnk := (zmcTrack_controls s).lnk
@[simp] theorem zmcTrack_choices (s : State) : (zmcTrack s).choices = s.choices := (zmcTrack_controls s).choices
@[simp] theorem zmcTrack_pending (s : State) : (zmcTrack s).pending = s.pending := (zmcTrack_controls s).pending
@[simp] theorem zmcTrack_lds_zoom (s : State) : (zmcTrack s).lds.zoom = s.lds.zoom := (zmcTrack_controls s).zoom
@[simp] theorem zmcTrack_lds_focus (s : State) : (zmcTrack s).lds.focus = s.lds.focus := (zmcTrack_controls s).focus
@[simp] theorem zmcTrack_lds_iris (s : State) : (zmcTrack s).lds.iris = s.lds.iris := (zmcTrack_controls s).iris
@[simp] theorem zmcTrack_lds_params (s : State) : (zmcTrack s).lds.params = s.lds.params := (zmcTrack_controls s).params
@[simp] theorem zmcTrack_lds_latched (s : State) : (zmcTrack s).lds.latched = s.lds.latched := (zmcTrack_controls s).latched
@[simp] theorem zmcTrack_lds_reference (s : State) : (zmcTrack s).lds.reference = s.lds.reference := (zmcTrack_controls s).reference

theorem zmcIdle_controls (s : State) : State.ControlsOnly (zmcIdle s) s := by
  unfold zmcIdle
  try dsimp only
  try (repeat' split)
  all_goals constructor <;> simp
@[simp] theorem zmcIdle_intake (s : State) : (zmcIdle s).intake = s.intake := (zmcIdle_controls s).intake
@[simp] theorem zmcIdle_pxp (s : State) : (zmcIdle s).pxp = s.pxp := (zmcIdle_controls s).pxp
@[simp] theorem zmcIdle_stats (s : State) : (zmcIdle s).stats = s.stats := (zmcIdle_controls s).stats
@[simp] theorem zmcIdle_mou (s : State) : (zmcIdle s).mou = s.mou := (zmcIdle_controls s).mou
@[simp] theorem zmcIdle_cst (s : State) : (zmcIdle s).cst = s.cst := (zmcIdle_controls s).cst
@[simp] theorem zmcIdle_lnk (s : State) : (zmcIdle s).lnk = s.lnk := (zmcIdle_controls s).lnk
@[simp] theorem zmcIdle_choices (s : State) : (zmcIdle s).choices = s.choices := (zmcIdle_controls s).choices
@[simp] theorem zmcIdle_pending (s : State) : (zmcIdle s).pending = s.pending := (zmcIdle_controls s).pending
@[simp] theorem zmcIdle_lds_zoom (s : State) : (zmcIdle s).lds.zoom = s.lds.zoom := (zmcIdle_controls s).zoom
@[simp] theorem zmcIdle_lds_focus (s : State) : (zmcIdle s).lds.focus = s.lds.focus := (zmcIdle_controls s).focus
@[simp] theorem zmcIdle_lds_iris (s : State) : (zmcIdle s).lds.iris = s.lds.iris := (zmcIdle_controls s).iris
@[simp] theorem zmcIdle_lds_params (s : State) : (zmcIdle s).lds.params = s.lds.params := (zmcIdle_controls s).params
@[simp] theorem zmcIdle_lds_latched (s : State) : (zmcIdle s).lds.latched = s.lds.latched := (zmcIdle_controls s).latched
@[simp] theorem zmcIdle_lds_reference (s : State) : (zmcIdle s).lds.reference = s.lds.reference := (zmcIdle_controls s).reference

theorem zmcEnd_controls (s : State) (b : Bool) : State.ControlsOnly (zmcEnd s b) s := by
  unfold zmcEnd
  try dsimp only
  try (repeat' split)
  all_goals constructor <;> simp
@[simp] theorem zmcEnd_intake (s : State) (b : Bool) : (zmcEnd s b).intake = s.intake := (zmcEnd_controls s b).intake
@[simp] theorem zmcEnd_pxp (s : State) (b : Bool) : (zmcEnd s b).pxp = s.pxp := (zmcEnd_controls s b).pxp
@[simp] theorem zmcEnd_stats (s : State) (b : Bool) : (zmcEnd s b).stats = s.stats := (zmcEnd_controls s b).stats
@[simp] theorem zmcEnd_mou (s : State) (b : Bool) : (zmcEnd s b).mou = s.mou := (zmcEnd_controls s b).mou
@[simp] theorem zmcEnd_cst (s : State) (b : Bool) : (zmcEnd s b).cst = s.cst := (zmcEnd_controls s b).cst
@[simp] theorem zmcEnd_lnk (s : State) (b : Bool) : (zmcEnd s b).lnk = s.lnk := (zmcEnd_controls s b).lnk
@[simp] theorem zmcEnd_choices (s : State) (b : Bool) : (zmcEnd s b).choices = s.choices := (zmcEnd_controls s b).choices
@[simp] theorem zmcEnd_pending (s : State) (b : Bool) : (zmcEnd s b).pending = s.pending := (zmcEnd_controls s b).pending
@[simp] theorem zmcEnd_lds_zoom (s : State) (b : Bool) : (zmcEnd s b).lds.zoom = s.lds.zoom := (zmcEnd_controls s b).zoom
@[simp] theorem zmcEnd_lds_focus (s : State) (b : Bool) : (zmcEnd s b).lds.focus = s.lds.focus := (zmcEnd_controls s b).focus
@[simp] theorem zmcEnd_lds_iris (s : State) (b : Bool) : (zmcEnd s b).lds.iris = s.lds.iris := (zmcEnd_controls s b).iris
@[simp] theorem zmcEnd_lds_params (s : State) (b : Bool) : (zmcEnd s b).lds.params = s.lds.params := (zmcEnd_controls s b).params
@[simp] theorem zmcEnd_lds_latched (s : State) (b : Bool) : (zmcEnd s b).lds.latched = s.lds.latched := (zmcEnd_controls s b).latched
@[simp] theorem zmcEnd_lds_reference (s : State) (b : Bool) : (zmcEnd s b).lds.reference = s.lds.reference := (zmcEnd_controls s b).reference

theorem zmcMoveComplete_controls (s : State) : State.ControlsOnly (zmcMoveComplete s) s := by
  unfold zmcMoveComplete
  try dsimp only
  try (repeat' split)
  all_goals constructor <;> simp
@[simp] theorem zmcMoveComplete_intake (s : State) : (zmcMoveComplete s).intake = s.intake := (zmcMoveComplete_controls s).intake
@[simp] theorem zmcMoveComplete_pxp (s : State) : (zmcMoveComplete s).pxp = s.pxp := (zmcMoveComplete_controls s).pxp
@[simp] theorem zmcMoveComplete_stats (s : State) : (zmcMoveComplete s).stats = s.stats := (zmcMoveComplete_controls s).stats
@[simp] theorem zmcMoveComplete_mou (s : State) : (zmcMoveComplete s).mou = s.mou := (zmcMoveComplete_controls s).mou
@[simp] theorem zmcMoveComplete_cst (s : State) : (zmcMoveComplete s).cst = s.cst := (zmcMoveComplete_controls s).cst
@[simp] theorem zmcMoveComplete_lnk (s : State) : (zmcMoveComplete s).lnk = s.lnk := (zmcMoveComplete_controls s).lnk
@[simp] theorem zmcMoveComplete_choices (s : State) : (zmcMoveComplete s).choices = s.choices := (zmcMoveComplete_controls s).choices
@[simp] theorem zmcMoveComplete_pending (s : State) : (zmcMoveComplete s).pending = s.pending := (zmcMoveComplete_controls s).pending
@[simp] theorem zmcMoveComplete_lds_zoom (s : State) : (zmcMoveComplete s).lds.zoom = s.lds.zoom := (zmcMoveComplete_controls s).zoom
@[simp] theorem zmcMoveComplete_lds_focus (s : State) : (zmcMoveComplete s).lds.focus = s.lds.focus := (zmcMoveComplete_controls s).focus
@[simp] theorem zmcMoveComplete_lds_iris (s : State) : (zmcMoveComplete s).lds.iris = s.lds.iris := (zmcMoveComplete_controls s).iris
@[simp] theorem zmcMoveComplete_lds_params (s : State) : (zmcMoveComplete s).lds.params = s.lds.params := (zmcMoveComplete_controls s).params
@[simp] theorem zmcMoveComplete_lds_latched (s : State) : (zmcMoveComplete s).lds.latched = s.lds.latched := (zmcMoveComplete_controls s).latched
@[simp] theorem zmcMoveComplete_lds_reference (s : State) : (zmcMoveComplete s).lds.reference = s.lds.reference := (zmcMoveComplete_controls s).reference

theorem zmcMoveStopped_controls (s : State) : State.ControlsOnly (zmcMoveStopped s) s := by
  unfold zmcMoveStopped
  try dsimp only
  try (repeat' split)
  all_goals constructor <;> simp
@[simp] theorem zmcMoveStopped_intake (s : State) : (zmcMoveStopped s).intake = s.intake := (zmcMoveStopped_controls s).intake
@[simp] theorem zmcMoveStopped_pxp (s : State) : (zmcMoveStopped s).pxp = s.pxp := (zmcMoveStopped_controls s).pxp
@[simp] theorem zmcMoveStopped_stats (s : State) : (zmcMoveStopped s).stats = s.stats := (zmcMoveStopped_controls s).stats
@[simp] theorem zmcMoveStopped_mou (s : State) : (zmcMoveStopped s).mou = s.mou := (zmcMoveStopped_controls s).mou
@[simp] theorem zmcMoveStopped_cst (s : State) : (zmcMoveStopped s).cst = s.cst := (zmcMoveStopped_controls s).cst
@[simp] theorem zmcMoveStopped_lnk (s : State) : (zmcMoveStopped s).lnk = s.lnk := (zmcMoveStopped_controls s).lnk
@[simp] theorem zmcMoveStopped_choices (s : State) : (zmcMoveStopped s).choices = s.choices := (zmcMoveStopped_controls s).choices
@[simp] theorem zmcMoveStopped_pending (s : State) : (zmcMoveStopped s).pending = s.pending := (zmcMoveStopped_controls s).pending
@[simp] theorem zmcMoveStopped_lds_zoom (s : State) : (zmcMoveStopped s).lds.zoom = s.lds.zoom := (zmcMoveStopped_controls s).zoom
@[simp] theorem zmcMoveStopped_lds_focus (s : State) : (zmcMoveStopped s).lds.focus = s.lds.focus := (zmcMoveStopped_controls s).focus
@[simp] theorem zmcMoveStopped_lds_iris (s : State) : (zmcMoveStopped s).lds.iris = s.lds.iris := (zmcMoveStopped_controls s).iris
@[simp] theorem zmcMoveStopped_lds_params (s : State) : (zmcMoveStopped s).lds.params = s.lds.params := (zmcMoveStopped_controls s).params
@[simp] theorem zmcMoveStopped_lds_latched (s : State) : (zmcMoveStopped s).lds.latched = s.lds.latched := (zmcMoveStopped_controls s).latched
@[simp] theorem zmcMoveStopped_lds_reference (s : State) : (zmcMoveStopped s).lds.reference = s.lds.reference := (zmcMoveStopped_controls s).reference

theorem zmcMoveLost_controls (s : State) : State.ControlsOnly (zmcMoveLost s) s := by
  unfold zmcMoveLost
  try dsimp only
  try (repeat' split)
  all_goals constructor <;> simp
@[simp] theorem zmcMoveLost_intake (s : State) : (zmcMoveLost s).intake = s.intake := (zmcMoveLost_controls s).intake
@[simp] theorem zmcMoveLost_pxp (s : State) : (zmcMoveLost s).pxp = s.pxp := (zmcMoveLost_controls s).pxp
@[simp] theorem zmcMoveLost_stats (s : State) : (zmcMoveLost s).stats = s.stats := (zmcMoveLost_controls s).stats
@[simp] theorem zmcMoveLost_mou (s : State) : (zmcMoveLost s).mou = s.mou := (zmcMoveLost_controls s).mou
@[simp] theorem zmcMoveLost_cst (s : State) : (zmcMoveLost s).cst = s.cst := (zmcMoveLost_controls s).cst
@[simp] theorem zmcMoveLost_lnk (s : State) : (zmcMoveLost s).lnk = s.lnk := (zmcMoveLost_controls s).lnk
@[simp] theorem zmcMoveLost_choices (s : State) : (zmcMoveLost s).choices = s.choices := (zmcMoveLost_controls s).choices
@[simp] theorem zmcMoveLost_pending (s : State) : (zmcMoveLost s).pending = s.pending := (zmcMoveLost_controls s).pending
@[simp] theorem zmcMoveLost_lds_zoom (s : State) : (zmcMoveLost s).lds.zoom = s.lds.zoom := (zmcMoveLost_controls s).zoom
@[simp] theorem zmcMoveLost_lds_focus (s : State) : (zmcMoveLost s).lds.focus = s.lds.focus := (zmcMoveLost_controls s).focus
@[simp] theorem zmcMoveLost_lds_iris (s : State) : (zmcMoveLost s).lds.iris = s.lds.iris := (zmcMoveLost_controls s).iris
@[simp] theorem zmcMoveLost_lds_params (s : State) : (zmcMoveLost s).lds.params = s.lds.params := (zmcMoveLost_controls s).params
@[simp] theorem zmcMoveLost_lds_latched (s : State) : (zmcMoveLost s).lds.latched = s.lds.latched := (zmcMoveLost_controls s).latched
@[simp] theorem zmcMoveLost_lds_reference (s : State) : (zmcMoveLost s).lds.reference = s.lds.reference := (zmcMoveLost_controls s).reference

theorem zmcStop_controls (s : State) : State.ControlsOnly (zmcStop s) s := by
  unfold zmcStop
  try dsimp only
  try (repeat' split)
  all_goals constructor <;> simp
@[simp] theorem zmcStop_intake (s : State) : (zmcStop s).intake = s.intake := (zmcStop_controls s).intake
@[simp] theorem zmcStop_pxp (s : State) : (zmcStop s).pxp = s.pxp := (zmcStop_controls s).pxp
@[simp] theorem zmcStop_stats (s : State) : (zmcStop s).stats = s.stats := (zmcStop_controls s).stats
@[simp] theorem zmcStop_mou (s : State) : (zmcStop s).mou = s.mou := (zmcStop_controls s).mou
@[simp] theorem zmcStop_cst (s : State) : (zmcStop s).cst = s.cst := (zmcStop_controls s).cst
@[simp] theorem zmcStop_lnk (s : State) : (zmcStop s).lnk = s.lnk := (zmcStop_controls s).lnk
@[simp] theorem zmcStop_choices (s : State) : (zmcStop s).choices = s.choices := (zmcStop_controls s).choices
@[simp] theorem zmcStop_pending (s : State) : (zmcStop s).pending = s.pending := (zmcStop_controls s).pending
@[simp] theorem zmcStop_lds_zoom (s : State) : (zmcStop s).lds.zoom = s.lds.zoom := (zmcStop_controls s).zoom
@[simp] theorem zmcStop_lds_focus (s : State) : (zmcStop s).lds.focus = s.lds.focus := (zmcStop_controls s).focus
@[simp] theorem zmcStop_lds_iris (s : State) : (zmcStop s).lds.iris = s.lds.iris := (zmcStop_controls s).iris
@[simp] theorem zmcStop_lds_params (s : State) : (zmcStop s).lds.params = s.lds.params := (zmcStop_controls s).params
@[simp] theorem zmcStop_lds_latched (s : State) : (zmcStop s).lds.latched = s.lds.latched := (zmcStop_controls s).latched
@[simp] theorem zmcStop_lds_reference (s : State) : (zmcStop s).lds.reference = s.lds.reference := (zmcStop_controls s).reference

theorem parkRequest_controls (s : State) (m : Motor) : State.ControlsOnly (parkRequest s m) s := by
  unfold parkRequest
  try dsimp only
  try (repeat' split)
  all_goals constructor <;> simp
@[simp] theorem parkRequest_intake (s : State) (m : Motor) : (parkRequest s m).intake = s.intake := (parkRequest_controls s m).intake
@[simp] theorem parkRequest_pxp (s : State) (m : Motor) : (parkRequest s m).pxp = s.pxp := (parkRequest_controls s m).pxp
@[simp] theorem parkRequest_stats (s : State) (m : Motor) : (parkRequest s m).stats = s.stats := (parkRequest_controls s m).stats
@[simp] theorem parkRequest_mou (s : State) (m : Motor) : (parkRequest s m).mou = s.mou := (parkRequest_controls s m).mou
@[simp] theorem parkRequest_cst (s : State) (m : Motor) : (parkRequest s m).cst = s.cst := (parkRequest_controls s m).cst
@[simp] theorem parkRequest_lnk (s : State) (m : Motor) : (parkRequest s m).lnk = s.lnk := (parkRequest_controls s m).lnk
@[simp] theorem parkRequest_choices (s : State) (m : Motor) : (parkRequest s m).choices = s.choices := (parkRequest_controls s m).choices
@[simp] theorem parkRequest_pending (s : State) (m : Motor) : (parkRequest s m).pending = s.pending := (parkRequest_controls s m).pending
@[simp] theorem parkRequest_lds_zoom (s : State) (m : Motor) : (parkRequest s m).lds.zoom = s.lds.zoom := (parkRequest_controls s m).zoom
@[simp] theorem parkRequest_lds_focus (s : State) (m : Motor) : (parkRequest s m).lds.focus = s.lds.focus := (parkRequest_controls s m).focus
@[simp] theorem parkRequest_lds_iris (s : State) (m : Motor) : (parkRequest s m).lds.iris = s.lds.iris := (parkRequest_controls s m).iris
@[simp] theorem parkRequest_lds_params (s : State) (m : Motor) : (parkRequest s m).lds.params = s.lds.params := (parkRequest_controls s m).params
@[simp] theorem parkRequest_lds_latched (s : State) (m : Motor) : (parkRequest s m).lds.latched = s.lds.latched := (parkRequest_controls s m).latched
@[simp] theorem parkRequest_lds_reference (s : State) (m : Motor) : (parkRequest s m).lds.reference = s.lds.reference := (parkRequest_controls s m).reference

theorem parkEnded_controls (s : State) : State.ControlsOnly (parkEnded s) s := by
  unfold parkEnded
  try dsimp only
  try (repeat' split)
  all_goals constructor <;> simp
@[simp] theorem parkEnded_intake (s : State) : (parkEnded s).intake = s.intake := (parkEnded_controls s).intake
@[simp] theorem parkEnded_pxp (s : State) : (parkEnded s).pxp = s.pxp := (parkEnded_controls s).pxp
@[simp] theorem parkEnded_stats (s : State) : (parkEnded s).stats = s.stats := (parkEnded_controls s).stats
@[simp] theorem parkEnded_mou (s : State) : (parkEnded s).mou = s.mou := (parkEnded_controls s).mou
@[simp] theorem parkEnded_cst (s : State) : (parkEnded s).cst = s.cst := (parkEnded_controls s).cst
@[simp] theorem parkEnded_lnk (s : State) : (parkEnded s).lnk = s.lnk := (parkEnded_controls s).lnk
@[simp] theorem parkEnded_choices (s : State) : (parkEnded s).choices = s.choices := (parkEnded_controls s).choices
@[simp] theorem parkEnded_pending (s : State) : (parkEnded s).pending = s.pending := (parkEnded_controls s).pending
@[simp] theorem parkEnded_lds_zoom (s : State) : (parkEnded s).lds.zoom = s.lds.zoom := (parkEnded_controls s).zoom
@[simp] theorem parkEnded_lds_focus (s : State) : (parkEnded s).lds.focus = s.lds.focus := (parkEnded_controls s).focus
@[simp] theorem parkEnded_lds_iris (s : State) : (parkEnded s).lds.iris = s.lds.iris := (parkEnded_controls s).iris
@[simp] theorem parkEnded_lds_params (s : State) : (parkEnded s).lds.params = s.lds.params := (parkEnded_controls s).params
@[simp] theorem parkEnded_lds_latched (s : State) : (parkEnded s).lds.latched = s.lds.latched := (parkEnded_controls s).latched
@[simp] theorem parkEnded_lds_reference (s : State) : (parkEnded s).lds.reference = s.lds.reference := (parkEnded_controls s).reference

theorem parkComplete_controls (s : State) : State.ControlsOnly (parkComplete s) s := by
  unfold parkComplete
  try dsimp only
  try (repeat' split)
  all_goals constructor <;> simp
@[simp] theorem parkComplete_intake (s : State) : (parkComplete s).intake = s.intake := (parkComplete_controls s).intake
@[simp] theorem parkComplete_pxp (s : State) : (parkComplete s).pxp = s.pxp := (parkComplete_controls s).pxp
@[simp] theorem parkComplete_stats (s : State) : (parkComplete s).stats = s.stats := (parkComplete_controls s).stats
@[simp] theorem parkComplete_mou (s : State) : (parkComplete s).mou = s.mou := (parkComplete_controls s).mou
@[simp] theorem parkComplete_cst (s : State) : (parkComplete s).cst = s.cst := (parkComplete_controls s).cst
@[simp] theorem parkComplete_lnk (s : State) : (parkComplete s).lnk = s.lnk := (parkComplete_controls s).lnk
@[simp] theorem parkComplete_choices (s : State) : (parkComplete s).choices = s.choices := (parkComplete_controls s).choices
@[simp] theorem parkComplete_pending (s : State) : (parkComplete s).pending = s.pending := (parkComplete_controls s).pending
@[simp] theorem parkComplete_lds_zoom (s : State) : (parkComplete s).lds.zoom = s.lds.zoom := (parkComplete_controls s).zoom
@[simp] theorem parkComplete_lds_focus (s : State) : (parkComplete s).lds.focus = s.lds.focus := (parkComplete_controls s).focus
@[simp] theorem parkComplete_lds_iris (s : State) : (parkComplete s).lds.iris = s.lds.iris := (parkComplete_controls s).iris
@[simp] theorem parkComplete_lds_params (s : State) : (parkComplete s).lds.params = s.lds.params := (parkComplete_controls s).params
@[simp] theorem parkComplete_lds_latched (s : State) : (parkComplete s).lds.latched = s.lds.latched := (parkComplete_controls s).latched
@[simp] theorem parkComplete_lds_reference (s : State) : (parkComplete s).lds.reference = s.lds.reference := (parkComplete_controls s).reference

theorem moveComplete_controls (s : State) (src : Source) : State.ControlsOnly (moveComplete s src) s := by
  unfold moveComplete
  try dsimp only
  try (repeat' split)
  all_goals constructor <;> simp
@[simp] theorem moveComplete_intake (s : State) (src : Source) : (moveComplete s src).intake = s.intake := (moveComplete_controls s src).intake
@[simp] theorem moveComplete_pxp (s : State) (src : Source) : (moveComplete s src).pxp = s.pxp := (moveComplete_controls s src).pxp
@[simp] theorem moveComplete_stats (s : State) (src : Source) : (moveComplete s src).stats = s.stats := (moveComplete_controls s src).stats
@[simp] theorem moveComplete_mou (s : State) (src : Source) : (moveComplete s src).mou = s.mou := (moveComplete_controls s src).mou
@[simp] theorem moveComplete_cst (s : State) (src : Source) : (moveComplete s src).cst = s.cst := (moveComplete_controls s src).cst
@[simp] theorem moveComplete_lnk (s : State) (src : Source) : (moveComplete s src).lnk = s.lnk := (moveComplete_controls s src).lnk
@[simp] theorem moveComplete_choices (s : State) (src : Source) : (moveComplete s src).choices = s.choices := (moveComplete_controls s src).choices
@[simp] theorem moveComplete_pending (s : State) (src : Source) : (moveComplete s src).pending = s.pending := (moveComplete_controls s src).pending
@[simp] theorem moveComplete_lds_zoom (s : State) (src : Source) : (moveComplete s src).lds.zoom = s.lds.zoom := (moveComplete_controls s src).zoom
@[simp] theorem moveComplete_lds_focus (s : State) (src : Source) : (moveComplete s src).lds.focus = s.lds.focus := (moveComplete_controls s src).focus
@[simp] theorem moveComplete_lds_iris (s : State) (src : Source) : (moveComplete s src).lds.iris = s.lds.iris := (moveComplete_controls s src).iris
@[simp] theorem moveComplete_lds_params (s : State) (src : Source) : (moveComplete s src).lds.params = s.lds.params := (moveComplete_controls s src).params
@[simp] theorem moveComplete_lds_latched (s : State) (src : Source) : (moveComplete s src).lds.latched = s.lds.latched := (moveComplete_controls s src).latched
@[simp] theorem moveComplete_lds_reference (s : State) (src : Source) : (moveComplete s src).lds.reference = s.lds.reference := (moveComplete_controls s src).reference

theorem moveStopped_controls (s : State) (src : Source) : State.ControlsOnly (moveStopped s src) s := by
  unfold moveStopped
  try dsimp only
  try (repeat' split)
  all_goals constructor <;> simp
@[simp] theorem moveStopped_intake (s : State) (src : Source) : (moveStopped s src).intake = s.intake := (moveStopped_controls s src).intake
@[simp] theorem moveStopped_pxp (s : State) (src : Source) : (moveStopped s src).pxp = s.pxp := (moveStopped_controls s src).pxp
@[simp] theorem moveStopped_stats (s : State) (src : Source) : (moveStopped s src).stats = s.stats := (moveStopped_controls s src).stats
@[simp] theorem moveStopped_mou (s : State) (src : Source) : (moveStopped s src).mou = s.mou := (moveStopped_controls s src).mou
@[simp] theorem moveStopped_cst (s : State) (src : Source) : (moveStopped s src).cst = s.cst := (moveStopped_controls s src).cst
@[simp] theorem moveStopped_lnk (s : State) (src : Source) : (moveStopped s src).lnk = s.lnk := (moveStopped_controls s src).lnk
@[simp] theorem moveStopped_choices (s : State) (src : Source) : (moveStopped s src).choices = s.choices := (moveStopped_controls s src).choices
@[simp] theorem moveStopped_pending (s : State) (src : Source) : (moveStopped s src).pending = s.pending := (moveStopped_controls s src).pending
@[simp] theorem moveStopped_lds_zoom (s : State) (src : Source) : (moveStopped s src).lds.zoom = s.lds.zoom := (moveStopped_controls s src).zoom
@[simp] theorem moveStopped_lds_focus (s : State) (src : Source) : (moveStopped s src).lds.focus = s.lds.focus := (moveStopped_controls s src).focus
@[simp] theorem moveStopped_lds_iris (s : State) (src : Source) : (moveStopped s src).lds.iris = s.lds.iris := (moveStopped_controls s src).iris
@[simp] theorem moveStopped_lds_params (s : State) (src : Source) : (moveStopped s src).lds.params = s.lds.params := (moveStopped_controls s src).params
@[simp] theorem moveStopped_lds_latched (s : State) (src : Source) : (moveStopped s src).lds.latched = s.lds.latched := (moveStopped_controls s src).latched
@[simp] theorem moveStopped_lds_reference (s : State) (src : Source) : (moveStopped s src).lds.reference = s.lds.reference := (moveStopped_controls s src).reference

theorem moveLost_controls (s : State) (src : Source) : State.ControlsOnly (moveLost s src) s := by
  unfold moveLost
  try dsimp only
  try (repeat' split)
  all_goals constructor <;> simp
@[simp] theorem moveLost_intake (s : State) (src : Source) : (moveLost s src).intake = s.intake := (moveLost_controls s src).intake
@[simp] theorem moveLost_pxp (s : State) (src : Source) : (moveLost s src).pxp = s.pxp := (moveLost_controls s src).pxp
@[simp] theorem moveLost_stats (s : State) (src : Source) : (moveLost s src).stats = s.stats := (moveLost_controls s src).stats
@[simp] theorem moveLost_mou (s : State) (src : Source) : (moveLost s src).mou = s.mou := (moveLost_controls s src).mou
@[simp] theorem moveLost_cst (s : State) (src : Source) : (moveLost s src).cst = s.cst := (moveLost_controls s src).cst
@[simp] theorem moveLost_lnk (s : State) (src : Source) : (moveLost s src).lnk = s.lnk := (moveLost_controls s src).lnk
@[simp] theorem moveLost_choices (s : State) (src : Source) : (moveLost s src).choices = s.choices := (moveLost_controls s src).choices
@[simp] theorem moveLost_pending (s : State) (src : Source) : (moveLost s src).pending = s.pending := (moveLost_controls s src).pending
@[simp] theorem moveLost_lds_zoom (s : State) (src : Source) : (moveLost s src).lds.zoom = s.lds.zoom := (moveLost_controls s src).zoom
@[simp] theorem moveLost_lds_focus (s : State) (src : Source) : (moveLost s src).lds.focus = s.lds.focus := (moveLost_controls s src).focus
@[simp] theorem moveLost_lds_iris (s : State) (src : Source) : (moveLost s src).lds.iris = s.lds.iris := (moveLost_controls s src).iris
@[simp] theorem moveLost_lds_params (s : State) (src : Source) : (moveLost s src).lds.params = s.lds.params := (moveLost_controls s src).params
@[simp] theorem moveLost_lds_latched (s : State) (src : Source) : (moveLost s src).lds.latched = s.lds.latched := (moveLost_controls s src).latched
@[simp] theorem moveLost_lds_reference (s : State) (src : Source) : (moveLost s src).lds.reference = s.lds.reference := (moveLost_controls s src).reference

theorem tellGrant_controls (s : State) (src : Source) : State.ControlsOnly (tellGrant s src) s := by
  unfold tellGrant
  try dsimp only
  try (repeat' split)
  all_goals constructor <;> simp
@[simp] theorem tellGrant_intake (s : State) (src : Source) : (tellGrant s src).intake = s.intake := (tellGrant_controls s src).intake
@[simp] theorem tellGrant_pxp (s : State) (src : Source) : (tellGrant s src).pxp = s.pxp := (tellGrant_controls s src).pxp
@[simp] theorem tellGrant_stats (s : State) (src : Source) : (tellGrant s src).stats = s.stats := (tellGrant_controls s src).stats
@[simp] theorem tellGrant_mou (s : State) (src : Source) : (tellGrant s src).mou = s.mou := (tellGrant_controls s src).mou
@[simp] theorem tellGrant_cst (s : State) (src : Source) : (tellGrant s src).cst = s.cst := (tellGrant_controls s src).cst
@[simp] theorem tellGrant_lnk (s : State) (src : Source) : (tellGrant s src).lnk = s.lnk := (tellGrant_controls s src).lnk
@[simp] theorem tellGrant_choices (s : State) (src : Source) : (tellGrant s src).choices = s.choices := (tellGrant_controls s src).choices
@[simp] theorem tellGrant_pending (s : State) (src : Source) : (tellGrant s src).pending = s.pending := (tellGrant_controls s src).pending
@[simp] theorem tellGrant_lds_zoom (s : State) (src : Source) : (tellGrant s src).lds.zoom = s.lds.zoom := (tellGrant_controls s src).zoom
@[simp] theorem tellGrant_lds_focus (s : State) (src : Source) : (tellGrant s src).lds.focus = s.lds.focus := (tellGrant_controls s src).focus
@[simp] theorem tellGrant_lds_iris (s : State) (src : Source) : (tellGrant s src).lds.iris = s.lds.iris := (tellGrant_controls s src).iris
@[simp] theorem tellGrant_lds_params (s : State) (src : Source) : (tellGrant s src).lds.params = s.lds.params := (tellGrant_controls s src).params
@[simp] theorem tellGrant_lds_latched (s : State) (src : Source) : (tellGrant s src).lds.latched = s.lds.latched := (tellGrant_controls s src).latched
@[simp] theorem tellGrant_lds_reference (s : State) (src : Source) : (tellGrant s src).lds.reference = s.lds.reference := (tellGrant_controls s src).reference

/-! ### The grant (R65) -/

theorem grantOne_controls (s : State) (m : Move) : State.ControlsOnly (grantOne s m).2 s := by
  unfold grantOne
  split
  all_goals constructor <;> simp [Lds.start]

@[simp] theorem grantOne_intake (s : State) (m : Move) : (grantOne s m).2.intake = s.intake := (grantOne_controls s m).intake
@[simp] theorem grantOne_pxp (s : State) (m : Move) : (grantOne s m).2.pxp = s.pxp := (grantOne_controls s m).pxp
@[simp] theorem grantOne_stats (s : State) (m : Move) : (grantOne s m).2.stats = s.stats := (grantOne_controls s m).stats
@[simp] theorem grantOne_mou (s : State) (m : Move) : (grantOne s m).2.mou = s.mou := (grantOne_controls s m).mou
@[simp] theorem grantOne_cst (s : State) (m : Move) : (grantOne s m).2.cst = s.cst := (grantOne_controls s m).cst
@[simp] theorem grantOne_lnk (s : State) (m : Move) : (grantOne s m).2.lnk = s.lnk := (grantOne_controls s m).lnk
@[simp] theorem grantOne_choices (s : State) (m : Move) : (grantOne s m).2.choices = s.choices := (grantOne_controls s m).choices
@[simp] theorem grantOne_pending (s : State) (m : Move) : (grantOne s m).2.pending = s.pending := (grantOne_controls s m).pending
@[simp] theorem grantOne_lds_zoom (s : State) (m : Move) : (grantOne s m).2.lds.zoom = s.lds.zoom := (grantOne_controls s m).zoom
@[simp] theorem grantOne_lds_focus (s : State) (m : Move) : (grantOne s m).2.lds.focus = s.lds.focus := (grantOne_controls s m).focus
@[simp] theorem grantOne_lds_iris (s : State) (m : Move) : (grantOne s m).2.lds.iris = s.lds.iris := (grantOne_controls s m).iris
@[simp] theorem grantOne_lds_params (s : State) (m : Move) : (grantOne s m).2.lds.params = s.lds.params := (grantOne_controls s m).params
@[simp] theorem grantOne_lds_latched (s : State) (m : Move) : (grantOne s m).2.lds.latched = s.lds.latched := (grantOne_controls s m).latched
@[simp] theorem grantOne_lds_reference (s : State) (m : Move) : (grantOne s m).2.lds.reference = s.lds.reference := (grantOne_controls s m).reference

theorem grantLoop_controls (k : Nat) (s : State) : State.ControlsOnly (grantLoop k s) s := by
  induction k generalizing s with
  | zero => exact .refl s
  | succ k ih =>
    unfold grantLoop
    split
    · split
      · exact .refl s
      · dsimp only
        split
        · exact (ih _).trans ((grantOne_controls _ _).trans (by constructor <;> simp))
        · exact (grantOne_controls _ _).trans (by constructor <;> simp)
      · dsimp only
        split
        · exact (ih _).trans ((grantOne_controls _ _).trans (by constructor <;> simp))
        · exact (grantOne_controls _ _).trans (by constructor <;> simp)
    · exact .refl s

theorem State.grant_controls (s : State) : State.ControlsOnly s.grant s := grantLoop_controls _ s

@[simp] theorem State.grant_intake (s : State) : s.grant.intake = s.intake := (State.grant_controls s).intake
@[simp] theorem State.grant_pxp (s : State) : s.grant.pxp = s.pxp := (State.grant_controls s).pxp
@[simp] theorem State.grant_stats (s : State) : s.grant.stats = s.stats := (State.grant_controls s).stats
@[simp] theorem State.grant_mou (s : State) : s.grant.mou = s.mou := (State.grant_controls s).mou
@[simp] theorem State.grant_cst (s : State) : s.grant.cst = s.cst := (State.grant_controls s).cst
@[simp] theorem State.grant_lnk (s : State) : s.grant.lnk = s.lnk := (State.grant_controls s).lnk
@[simp] theorem State.grant_choices (s : State) : s.grant.choices = s.choices := (State.grant_controls s).choices
@[simp] theorem State.grant_pending (s : State) : s.grant.pending = s.pending := (State.grant_controls s).pending
@[simp] theorem State.grant_lds_zoom (s : State) : s.grant.lds.zoom = s.lds.zoom := (State.grant_controls s).zoom
@[simp] theorem State.grant_lds_focus (s : State) : s.grant.lds.focus = s.lds.focus := (State.grant_controls s).focus
@[simp] theorem State.grant_lds_iris (s : State) : s.grant.lds.iris = s.lds.iris := (State.grant_controls s).iris
@[simp] theorem State.grant_lds_params (s : State) : s.grant.lds.params = s.lds.params := (State.grant_controls s).params
@[simp] theorem State.grant_lds_latched (s : State) : s.grant.lds.latched = s.lds.latched := (State.grant_controls s).latched
@[simp] theorem State.grant_lds_reference (s : State) : s.grant.lds.reference = s.lds.reference := (State.grant_controls s).reference

theorem endStopped_controls (s : State) (m : Move) : State.ControlsOnly (endStopped s m) s := by
  unfold endStopped
  try dsimp only
  try (repeat' split)
  all_goals constructor <;> simp [Lds.release]
@[simp] theorem endStopped_intake (s : State) (m : Move) : (endStopped s m).intake = s.intake := (endStopped_controls s m).intake
@[simp] theorem endStopped_pxp (s : State) (m : Move) : (endStopped s m).pxp = s.pxp := (endStopped_controls s m).pxp
@[simp] theorem endStopped_stats (s : State) (m : Move) : (endStopped s m).stats = s.stats := (endStopped_controls s m).stats
@[simp] theorem endStopped_mou (s : State) (m : Move) : (endStopped s m).mou = s.mou := (endStopped_controls s m).mou
@[simp] theorem endStopped_cst (s : State) (m : Move) : (endStopped s m).cst = s.cst := (endStopped_controls s m).cst
@[simp] theorem endStopped_lnk (s : State) (m : Move) : (endStopped s m).lnk = s.lnk := (endStopped_controls s m).lnk
@[simp] theorem endStopped_choices (s : State) (m : Move) : (endStopped s m).choices = s.choices := (endStopped_controls s m).choices
@[simp] theorem endStopped_pending (s : State) (m : Move) : (endStopped s m).pending = s.pending := (endStopped_controls s m).pending
@[simp] theorem endStopped_lds_zoom (s : State) (m : Move) : (endStopped s m).lds.zoom = s.lds.zoom := (endStopped_controls s m).zoom
@[simp] theorem endStopped_lds_focus (s : State) (m : Move) : (endStopped s m).lds.focus = s.lds.focus := (endStopped_controls s m).focus
@[simp] theorem endStopped_lds_iris (s : State) (m : Move) : (endStopped s m).lds.iris = s.lds.iris := (endStopped_controls s m).iris
@[simp] theorem endStopped_lds_params (s : State) (m : Move) : (endStopped s m).lds.params = s.lds.params := (endStopped_controls s m).params
@[simp] theorem endStopped_lds_latched (s : State) (m : Move) : (endStopped s m).lds.latched = s.lds.latched := (endStopped_controls s m).latched
@[simp] theorem endStopped_lds_reference (s : State) (m : Move) : (endStopped s m).lds.reference = s.lds.reference := (endStopped_controls s m).reference

theorem endComplete_controls (s : State) (m : Move) : State.ControlsOnly (endComplete s m) s := by
  unfold endComplete
  try dsimp only
  try (repeat' split)
  all_goals constructor <;> simp [Lds.release]
@[simp] theorem endComplete_intake (s : State) (m : Move) : (endComplete s m).intake = s.intake := (endComplete_controls s m).intake
@[simp] theorem endComplete_pxp (s : State) (m : Move) : (endComplete s m).pxp = s.pxp := (endComplete_controls s m).pxp
@[simp] theorem endComplete_stats (s : State) (m : Move) : (endComplete s m).stats = s.stats := (endComplete_controls s m).stats
@[simp] theorem endComplete_mou (s : State) (m : Move) : (endComplete s m).mou = s.mou := (endComplete_controls s m).mou
@[simp] theorem endComplete_cst (s : State) (m : Move) : (endComplete s m).cst = s.cst := (endComplete_controls s m).cst
@[simp] theorem endComplete_lnk (s : State) (m : Move) : (endComplete s m).lnk = s.lnk := (endComplete_controls s m).lnk
@[simp] theorem endComplete_choices (s : State) (m : Move) : (endComplete s m).choices = s.choices := (endComplete_controls s m).choices
@[simp] theorem endComplete_pending (s : State) (m : Move) : (endComplete s m).pending = s.pending := (endComplete_controls s m).pending
@[simp] theorem endComplete_lds_zoom (s : State) (m : Move) : (endComplete s m).lds.zoom = s.lds.zoom := (endComplete_controls s m).zoom
@[simp] theorem endComplete_lds_focus (s : State) (m : Move) : (endComplete s m).lds.focus = s.lds.focus := (endComplete_controls s m).focus
@[simp] theorem endComplete_lds_iris (s : State) (m : Move) : (endComplete s m).lds.iris = s.lds.iris := (endComplete_controls s m).iris
@[simp] theorem endComplete_lds_params (s : State) (m : Move) : (endComplete s m).lds.params = s.lds.params := (endComplete_controls s m).params
@[simp] theorem endComplete_lds_latched (s : State) (m : Move) : (endComplete s m).lds.latched = s.lds.latched := (endComplete_controls s m).latched
@[simp] theorem endComplete_lds_reference (s : State) (m : Move) : (endComplete s m).lds.reference = s.lds.reference := (endComplete_controls s m).reference

theorem preempt_controls (s : State) (m : Move) (src : Source) (r : Request) : State.ControlsOnly (preempt s m src r) s := by
  unfold preempt
  try dsimp only
  try (repeat' split)
  all_goals constructor <;> simp
@[simp] theorem preempt_intake (s : State) (m : Move) (src : Source) (r : Request) : (preempt s m src r).intake = s.intake := (preempt_controls s m src r).intake
@[simp] theorem preempt_pxp (s : State) (m : Move) (src : Source) (r : Request) : (preempt s m src r).pxp = s.pxp := (preempt_controls s m src r).pxp
@[simp] theorem preempt_stats (s : State) (m : Move) (src : Source) (r : Request) : (preempt s m src r).stats = s.stats := (preempt_controls s m src r).stats
@[simp] theorem preempt_mou (s : State) (m : Move) (src : Source) (r : Request) : (preempt s m src r).mou = s.mou := (preempt_controls s m src r).mou
@[simp] theorem preempt_cst (s : State) (m : Move) (src : Source) (r : Request) : (preempt s m src r).cst = s.cst := (preempt_controls s m src r).cst
@[simp] theorem preempt_lnk (s : State) (m : Move) (src : Source) (r : Request) : (preempt s m src r).lnk = s.lnk := (preempt_controls s m src r).lnk
@[simp] theorem preempt_choices (s : State) (m : Move) (src : Source) (r : Request) : (preempt s m src r).choices = s.choices := (preempt_controls s m src r).choices
@[simp] theorem preempt_pending (s : State) (m : Move) (src : Source) (r : Request) : (preempt s m src r).pending = s.pending := (preempt_controls s m src r).pending
@[simp] theorem preempt_lds_zoom (s : State) (m : Move) (src : Source) (r : Request) : (preempt s m src r).lds.zoom = s.lds.zoom := (preempt_controls s m src r).zoom
@[simp] theorem preempt_lds_focus (s : State) (m : Move) (src : Source) (r : Request) : (preempt s m src r).lds.focus = s.lds.focus := (preempt_controls s m src r).focus
@[simp] theorem preempt_lds_iris (s : State) (m : Move) (src : Source) (r : Request) : (preempt s m src r).lds.iris = s.lds.iris := (preempt_controls s m src r).iris
@[simp] theorem preempt_lds_params (s : State) (m : Move) (src : Source) (r : Request) : (preempt s m src r).lds.params = s.lds.params := (preempt_controls s m src r).params
@[simp] theorem preempt_lds_latched (s : State) (m : Move) (src : Source) (r : Request) : (preempt s m src r).lds.latched = s.lds.latched := (preempt_controls s m src r).latched
@[simp] theorem preempt_lds_reference (s : State) (m : Move) (src : Source) (r : Request) : (preempt s m src r).lds.reference = s.lds.reference := (preempt_controls s m src r).reference

/-! ### The exposure controller (chapter 3) -/


theorem startSequence_controls (s : State) (i : Issue) (r : Bool) : State.ControlsOnly (startSequence s i r) s := by
  unfold startSequence
  try dsimp only
  try (repeat' split)
  all_goals constructor <;> simp
@[simp] theorem startSequence_intake (s : State) (i : Issue) (r : Bool) : (startSequence s i r).intake = s.intake := (startSequence_controls s i r).intake
@[simp] theorem startSequence_pxp (s : State) (i : Issue) (r : Bool) : (startSequence s i r).pxp = s.pxp := (startSequence_controls s i r).pxp
@[simp] theorem startSequence_stats (s : State) (i : Issue) (r : Bool) : (startSequence s i r).stats = s.stats := (startSequence_controls s i r).stats
@[simp] theorem startSequence_mou (s : State) (i : Issue) (r : Bool) : (startSequence s i r).mou = s.mou := (startSequence_controls s i r).mou
@[simp] theorem startSequence_cst (s : State) (i : Issue) (r : Bool) : (startSequence s i r).cst = s.cst := (startSequence_controls s i r).cst
@[simp] theorem startSequence_lnk (s : State) (i : Issue) (r : Bool) : (startSequence s i r).lnk = s.lnk := (startSequence_controls s i r).lnk
@[simp] theorem startSequence_choices (s : State) (i : Issue) (r : Bool) : (startSequence s i r).choices = s.choices := (startSequence_controls s i r).choices
@[simp] theorem startSequence_pending (s : State) (i : Issue) (r : Bool) : (startSequence s i r).pending = s.pending := (startSequence_controls s i r).pending
@[simp] theorem startSequence_lds_zoom (s : State) (i : Issue) (r : Bool) : (startSequence s i r).lds.zoom = s.lds.zoom := (startSequence_controls s i r).zoom
@[simp] theorem startSequence_lds_focus (s : State) (i : Issue) (r : Bool) : (startSequence s i r).lds.focus = s.lds.focus := (startSequence_controls s i r).focus
@[simp] theorem startSequence_lds_iris (s : State) (i : Issue) (r : Bool) : (startSequence s i r).lds.iris = s.lds.iris := (startSequence_controls s i r).iris
@[simp] theorem startSequence_lds_params (s : State) (i : Issue) (r : Bool) : (startSequence s i r).lds.params = s.lds.params := (startSequence_controls s i r).params
@[simp] theorem startSequence_lds_latched (s : State) (i : Issue) (r : Bool) : (startSequence s i r).lds.latched = s.lds.latched := (startSequence_controls s i r).latched
@[simp] theorem startSequence_lds_reference (s : State) (i : Issue) (r : Bool) : (startSequence s i r).lds.reference = s.lds.reference := (startSequence_controls s i r).reference

theorem writePoint_controls (s : State) : State.ControlsOnly (writePoint s) s := by
  unfold writePoint
  try dsimp only
  try (repeat' split)
  all_goals constructor <;> simp
@[simp] theorem writePoint_intake (s : State) : (writePoint s).intake = s.intake := (writePoint_controls s).intake
@[simp] theorem writePoint_pxp (s : State) : (writePoint s).pxp = s.pxp := (writePoint_controls s).pxp
@[simp] theorem writePoint_stats (s : State) : (writePoint s).stats = s.stats := (writePoint_controls s).stats
@[simp] theorem writePoint_mou (s : State) : (writePoint s).mou = s.mou := (writePoint_controls s).mou
@[simp] theorem writePoint_cst (s : State) : (writePoint s).cst = s.cst := (writePoint_controls s).cst
@[simp] theorem writePoint_lnk (s : State) : (writePoint s).lnk = s.lnk := (writePoint_controls s).lnk
@[simp] theorem writePoint_choices (s : State) : (writePoint s).choices = s.choices := (writePoint_controls s).choices
@[simp] theorem writePoint_pending (s : State) : (writePoint s).pending = s.pending := (writePoint_controls s).pending
@[simp] theorem writePoint_lds_zoom (s : State) : (writePoint s).lds.zoom = s.lds.zoom := (writePoint_controls s).zoom
@[simp] theorem writePoint_lds_focus (s : State) : (writePoint s).lds.focus = s.lds.focus := (writePoint_controls s).focus
@[simp] theorem writePoint_lds_iris (s : State) : (writePoint s).lds.iris = s.lds.iris := (writePoint_controls s).iris
@[simp] theorem writePoint_lds_params (s : State) : (writePoint s).lds.params = s.lds.params := (writePoint_controls s).params
@[simp] theorem writePoint_lds_latched (s : State) : (writePoint s).lds.latched = s.lds.latched := (writePoint_controls s).latched
@[simp] theorem writePoint_lds_reference (s : State) : (writePoint s).lds.reference = s.lds.reference := (writePoint_controls s).reference

theorem aecSof_controls (s : State) (subject : List Nat) : State.ControlsOnly (aecSof s subject) s := by
  unfold aecSof
  try dsimp only
  try (repeat' split)
  all_goals constructor <;> simp
@[simp] theorem aecSof_intake (s : State) (subject : List Nat) : (aecSof s subject).intake = s.intake := (aecSof_controls s subject).intake
@[simp] theorem aecSof_pxp (s : State) (subject : List Nat) : (aecSof s subject).pxp = s.pxp := (aecSof_controls s subject).pxp
@[simp] theorem aecSof_stats (s : State) (subject : List Nat) : (aecSof s subject).stats = s.stats := (aecSof_controls s subject).stats
@[simp] theorem aecSof_mou (s : State) (subject : List Nat) : (aecSof s subject).mou = s.mou := (aecSof_controls s subject).mou
@[simp] theorem aecSof_cst (s : State) (subject : List Nat) : (aecSof s subject).cst = s.cst := (aecSof_controls s subject).cst
@[simp] theorem aecSof_lnk (s : State) (subject : List Nat) : (aecSof s subject).lnk = s.lnk := (aecSof_controls s subject).lnk
@[simp] theorem aecSof_choices (s : State) (subject : List Nat) : (aecSof s subject).choices = s.choices := (aecSof_controls s subject).choices
@[simp] theorem aecSof_pending (s : State) (subject : List Nat) : (aecSof s subject).pending = s.pending := (aecSof_controls s subject).pending
@[simp] theorem aecSof_lds_zoom (s : State) (subject : List Nat) : (aecSof s subject).lds.zoom = s.lds.zoom := (aecSof_controls s subject).zoom
@[simp] theorem aecSof_lds_focus (s : State) (subject : List Nat) : (aecSof s subject).lds.focus = s.lds.focus := (aecSof_controls s subject).focus
@[simp] theorem aecSof_lds_iris (s : State) (subject : List Nat) : (aecSof s subject).lds.iris = s.lds.iris := (aecSof_controls s subject).iris
@[simp] theorem aecSof_lds_params (s : State) (subject : List Nat) : (aecSof s subject).lds.params = s.lds.params := (aecSof_controls s subject).params
@[simp] theorem aecSof_lds_latched (s : State) (subject : List Nat) : (aecSof s subject).lds.latched = s.lds.latched := (aecSof_controls s subject).latched
@[simp] theorem aecSof_lds_reference (s : State) (subject : List Nat) : (aecSof s subject).lds.reference = s.lds.reference := (aecSof_controls s subject).reference

theorem failSequence_controls (s : State) (w : WriteSequence) : State.ControlsOnly (failSequence s w) s := by
  unfold failSequence
  try dsimp only
  try (repeat' split)
  all_goals constructor <;> simp
@[simp] theorem failSequence_intake (s : State) (w : WriteSequence) : (failSequence s w).intake = s.intake := (failSequence_controls s w).intake
@[simp] theorem failSequence_pxp (s : State) (w : WriteSequence) : (failSequence s w).pxp = s.pxp := (failSequence_controls s w).pxp
@[simp] theorem failSequence_stats (s : State) (w : WriteSequence) : (failSequence s w).stats = s.stats := (failSequence_controls s w).stats
@[simp] theorem failSequence_mou (s : State) (w : WriteSequence) : (failSequence s w).mou = s.mou := (failSequence_controls s w).mou
@[simp] theorem failSequence_cst (s : State) (w : WriteSequence) : (failSequence s w).cst = s.cst := (failSequence_controls s w).cst
@[simp] theorem failSequence_lnk (s : State) (w : WriteSequence) : (failSequence s w).lnk = s.lnk := (failSequence_controls s w).lnk
@[simp] theorem failSequence_choices (s : State) (w : WriteSequence) : (failSequence s w).choices = s.choices := (failSequence_controls s w).choices
@[simp] theorem failSequence_pending (s : State) (w : WriteSequence) : (failSequence s w).pending = s.pending := (failSequence_controls s w).pending
@[simp] theorem failSequence_lds_zoom (s : State) (w : WriteSequence) : (failSequence s w).lds.zoom = s.lds.zoom := (failSequence_controls s w).zoom
@[simp] theorem failSequence_lds_focus (s : State) (w : WriteSequence) : (failSequence s w).lds.focus = s.lds.focus := (failSequence_controls s w).focus
@[simp] theorem failSequence_lds_iris (s : State) (w : WriteSequence) : (failSequence s w).lds.iris = s.lds.iris := (failSequence_controls s w).iris
@[simp] theorem failSequence_lds_params (s : State) (w : WriteSequence) : (failSequence s w).lds.params = s.lds.params := (failSequence_controls s w).params
@[simp] theorem failSequence_lds_latched (s : State) (w : WriteSequence) : (failSequence s w).lds.latched = s.lds.latched := (failSequence_controls s w).latched
@[simp] theorem failSequence_lds_reference (s : State) (w : WriteSequence) : (failSequence s w).lds.reference = s.lds.reference := (failSequence_controls s w).reference

theorem itemAcknowledged_controls (s : State) : State.ControlsOnly (itemAcknowledged s) s := by
  unfold itemAcknowledged
  try dsimp only
  try (repeat' split)
  all_goals constructor <;> simp
@[simp] theorem itemAcknowledged_intake (s : State) : (itemAcknowledged s).intake = s.intake := (itemAcknowledged_controls s).intake
@[simp] theorem itemAcknowledged_pxp (s : State) : (itemAcknowledged s).pxp = s.pxp := (itemAcknowledged_controls s).pxp
@[simp] theorem itemAcknowledged_stats (s : State) : (itemAcknowledged s).stats = s.stats := (itemAcknowledged_controls s).stats
@[simp] theorem itemAcknowledged_mou (s : State) : (itemAcknowledged s).mou = s.mou := (itemAcknowledged_controls s).mou
@[simp] theorem itemAcknowledged_cst (s : State) : (itemAcknowledged s).cst = s.cst := (itemAcknowledged_controls s).cst
@[simp] theorem itemAcknowledged_lnk (s : State) : (itemAcknowledged s).lnk = s.lnk := (itemAcknowledged_controls s).lnk
@[simp] theorem itemAcknowledged_choices (s : State) : (itemAcknowledged s).choices = s.choices := (itemAcknowledged_controls s).choices
@[simp] theorem itemAcknowledged_pending (s : State) : (itemAcknowledged s).pending = s.pending := (itemAcknowledged_controls s).pending
@[simp] theorem itemAcknowledged_lds_zoom (s : State) : (itemAcknowledged s).lds.zoom = s.lds.zoom := (itemAcknowledged_controls s).zoom
@[simp] theorem itemAcknowledged_lds_focus (s : State) : (itemAcknowledged s).lds.focus = s.lds.focus := (itemAcknowledged_controls s).focus
@[simp] theorem itemAcknowledged_lds_iris (s : State) : (itemAcknowledged s).lds.iris = s.lds.iris := (itemAcknowledged_controls s).iris
@[simp] theorem itemAcknowledged_lds_params (s : State) : (itemAcknowledged s).lds.params = s.lds.params := (itemAcknowledged_controls s).params
@[simp] theorem itemAcknowledged_lds_latched (s : State) : (itemAcknowledged s).lds.latched = s.lds.latched := (itemAcknowledged_controls s).latched
@[simp] theorem itemAcknowledged_lds_reference (s : State) : (itemAcknowledged s).lds.reference = s.lds.reference := (itemAcknowledged_controls s).reference

theorem itemNotAcknowledged_controls (s : State) : State.ControlsOnly (itemNotAcknowledged s) s := by
  unfold itemNotAcknowledged
  try dsimp only
  try (repeat' split)
  all_goals constructor <;> simp
@[simp] theorem itemNotAcknowledged_intake (s : State) : (itemNotAcknowledged s).intake = s.intake := (itemNotAcknowledged_controls s).intake
@[simp] theorem itemNotAcknowledged_pxp (s : State) : (itemNotAcknowledged s).pxp = s.pxp := (itemNotAcknowledged_controls s).pxp
@[simp] theorem itemNotAcknowledged_stats (s : State) : (itemNotAcknowledged s).stats = s.stats := (itemNotAcknowledged_controls s).stats
@[simp] theorem itemNotAcknowledged_mou (s : State) : (itemNotAcknowledged s).mou = s.mou := (itemNotAcknowledged_controls s).mou
@[simp] theorem itemNotAcknowledged_cst (s : State) : (itemNotAcknowledged s).cst = s.cst := (itemNotAcknowledged_controls s).cst
@[simp] theorem itemNotAcknowledged_lnk (s : State) : (itemNotAcknowledged s).lnk = s.lnk := (itemNotAcknowledged_controls s).lnk
@[simp] theorem itemNotAcknowledged_choices (s : State) : (itemNotAcknowledged s).choices = s.choices := (itemNotAcknowledged_controls s).choices
@[simp] theorem itemNotAcknowledged_pending (s : State) : (itemNotAcknowledged s).pending = s.pending := (itemNotAcknowledged_controls s).pending
@[simp] theorem itemNotAcknowledged_lds_zoom (s : State) : (itemNotAcknowledged s).lds.zoom = s.lds.zoom := (itemNotAcknowledged_controls s).zoom
@[simp] theorem itemNotAcknowledged_lds_focus (s : State) : (itemNotAcknowledged s).lds.focus = s.lds.focus := (itemNotAcknowledged_controls s).focus
@[simp] theorem itemNotAcknowledged_lds_iris (s : State) : (itemNotAcknowledged s).lds.iris = s.lds.iris := (itemNotAcknowledged_controls s).iris
@[simp] theorem itemNotAcknowledged_lds_params (s : State) : (itemNotAcknowledged s).lds.params = s.lds.params := (itemNotAcknowledged_controls s).params
@[simp] theorem itemNotAcknowledged_lds_latched (s : State) : (itemNotAcknowledged s).lds.latched = s.lds.latched := (itemNotAcknowledged_controls s).latched
@[simp] theorem itemNotAcknowledged_lds_reference (s : State) : (itemNotAcknowledged s).lds.reference = s.lds.reference := (itemNotAcknowledged_controls s).reference

theorem requestIris_controls (s : State) (t : Nat) : State.ControlsOnly (requestIris s t) s := by
  unfold requestIris
  try dsimp only
  try (repeat' split)
  all_goals constructor <;> simp
@[simp] theorem requestIris_intake (s : State) (t : Nat) : (requestIris s t).intake = s.intake := (requestIris_controls s t).intake
@[simp] theorem requestIris_pxp (s : State) (t : Nat) : (requestIris s t).pxp = s.pxp := (requestIris_controls s t).pxp
@[simp] theorem requestIris_stats (s : State) (t : Nat) : (requestIris s t).stats = s.stats := (requestIris_controls s t).stats
@[simp] theorem requestIris_mou (s : State) (t : Nat) : (requestIris s t).mou = s.mou := (requestIris_controls s t).mou
@[simp] theorem requestIris_cst (s : State) (t : Nat) : (requestIris s t).cst = s.cst := (requestIris_controls s t).cst
@[simp] theorem requestIris_lnk (s : State) (t : Nat) : (requestIris s t).lnk = s.lnk := (requestIris_controls s t).lnk
@[simp] theorem requestIris_choices (s : State) (t : Nat) : (requestIris s t).choices = s.choices := (requestIris_controls s t).choices
@[simp] theorem requestIris_pending (s : State) (t : Nat) : (requestIris s t).pending = s.pending := (requestIris_controls s t).pending
@[simp] theorem requestIris_lds_zoom (s : State) (t : Nat) : (requestIris s t).lds.zoom = s.lds.zoom := (requestIris_controls s t).zoom
@[simp] theorem requestIris_lds_focus (s : State) (t : Nat) : (requestIris s t).lds.focus = s.lds.focus := (requestIris_controls s t).focus
@[simp] theorem requestIris_lds_iris (s : State) (t : Nat) : (requestIris s t).lds.iris = s.lds.iris := (requestIris_controls s t).iris
@[simp] theorem requestIris_lds_params (s : State) (t : Nat) : (requestIris s t).lds.params = s.lds.params := (requestIris_controls s t).params
@[simp] theorem requestIris_lds_latched (s : State) (t : Nat) : (requestIris s t).lds.latched = s.lds.latched := (requestIris_controls s t).latched
@[simp] theorem requestIris_lds_reference (s : State) (t : Nat) : (requestIris s t).lds.reference = s.lds.reference := (requestIris_controls s t).reference

theorem invalidFrame_controls (s : State) : State.ControlsOnly (invalidFrame s) s := by
  unfold invalidFrame
  try dsimp only
  try (repeat' split)
  all_goals constructor <;> simp
@[simp] theorem invalidFrame_intake (s : State) : (invalidFrame s).intake = s.intake := (invalidFrame_controls s).intake
@[simp] theorem invalidFrame_pxp (s : State) : (invalidFrame s).pxp = s.pxp := (invalidFrame_controls s).pxp
@[simp] theorem invalidFrame_stats (s : State) : (invalidFrame s).stats = s.stats := (invalidFrame_controls s).stats
@[simp] theorem invalidFrame_mou (s : State) : (invalidFrame s).mou = s.mou := (invalidFrame_controls s).mou
@[simp] theorem invalidFrame_cst (s : State) : (invalidFrame s).cst = s.cst := (invalidFrame_controls s).cst
@[simp] theorem invalidFrame_lnk (s : State) : (invalidFrame s).lnk = s.lnk := (invalidFrame_controls s).lnk
@[simp] theorem invalidFrame_choices (s : State) : (invalidFrame s).choices = s.choices := (invalidFrame_controls s).choices
@[simp] theorem invalidFrame_pending (s : State) : (invalidFrame s).pending = s.pending := (invalidFrame_controls s).pending
@[simp] theorem invalidFrame_lds_zoom (s : State) : (invalidFrame s).lds.zoom = s.lds.zoom := (invalidFrame_controls s).zoom
@[simp] theorem invalidFrame_lds_focus (s : State) : (invalidFrame s).lds.focus = s.lds.focus := (invalidFrame_controls s).focus
@[simp] theorem invalidFrame_lds_iris (s : State) : (invalidFrame s).lds.iris = s.lds.iris := (invalidFrame_controls s).iris
@[simp] theorem invalidFrame_lds_params (s : State) : (invalidFrame s).lds.params = s.lds.params := (invalidFrame_controls s).params
@[simp] theorem invalidFrame_lds_latched (s : State) : (invalidFrame s).lds.latched = s.lds.latched := (invalidFrame_controls s).latched
@[simp] theorem invalidFrame_lds_reference (s : State) : (invalidFrame s).lds.reference = s.lds.reference := (invalidFrame_controls s).reference

theorem reportStages_controls (s : State) (c : Computed) : State.ControlsOnly (reportStages s c) s := by
  unfold reportStages
  try dsimp only
  try (repeat' split)
  all_goals constructor <;> simp
@[simp] theorem reportStages_intake (s : State) (c : Computed) : (reportStages s c).intake = s.intake := (reportStages_controls s c).intake
@[simp] theorem reportStages_pxp (s : State) (c : Computed) : (reportStages s c).pxp = s.pxp := (reportStages_controls s c).pxp
@[simp] theorem reportStages_stats (s : State) (c : Computed) : (reportStages s c).stats = s.stats := (reportStages_controls s c).stats
@[simp] theorem reportStages_mou (s : State) (c : Computed) : (reportStages s c).mou = s.mou := (reportStages_controls s c).mou
@[simp] theorem reportStages_cst (s : State) (c : Computed) : (reportStages s c).cst = s.cst := (reportStages_controls s c).cst
@[simp] theorem reportStages_lnk (s : State) (c : Computed) : (reportStages s c).lnk = s.lnk := (reportStages_controls s c).lnk
@[simp] theorem reportStages_choices (s : State) (c : Computed) : (reportStages s c).choices = s.choices := (reportStages_controls s c).choices
@[simp] theorem reportStages_pending (s : State) (c : Computed) : (reportStages s c).pending = s.pending := (reportStages_controls s c).pending
@[simp] theorem reportStages_lds_zoom (s : State) (c : Computed) : (reportStages s c).lds.zoom = s.lds.zoom := (reportStages_controls s c).zoom
@[simp] theorem reportStages_lds_focus (s : State) (c : Computed) : (reportStages s c).lds.focus = s.lds.focus := (reportStages_controls s c).focus
@[simp] theorem reportStages_lds_iris (s : State) (c : Computed) : (reportStages s c).lds.iris = s.lds.iris := (reportStages_controls s c).iris
@[simp] theorem reportStages_lds_params (s : State) (c : Computed) : (reportStages s c).lds.params = s.lds.params := (reportStages_controls s c).params
@[simp] theorem reportStages_lds_latched (s : State) (c : Computed) : (reportStages s c).lds.latched = s.lds.latched := (reportStages_controls s c).latched
@[simp] theorem reportStages_lds_reference (s : State) (c : Computed) : (reportStages s c).lds.reference = s.lds.reference := (reportStages_controls s c).reference

theorem settleFrame_controls (s : State) (c : Computed) (p : Plan) (w : Bool) : State.ControlsOnly (settleFrame s c p w) s := by
  unfold settleFrame
  try dsimp only
  try (repeat' split)
  all_goals constructor <;> simp
@[simp] theorem settleFrame_intake (s : State) (c : Computed) (p : Plan) (w : Bool) : (settleFrame s c p w).intake = s.intake := (settleFrame_controls s c p w).intake
@[simp] theorem settleFrame_pxp (s : State) (c : Computed) (p : Plan) (w : Bool) : (settleFrame s c p w).pxp = s.pxp := (settleFrame_controls s c p w).pxp
@[simp] theorem settleFrame_stats (s : State) (c : Computed) (p : Plan) (w : Bool) : (settleFrame s c p w).stats = s.stats := (settleFrame_controls s c p w).stats
@[simp] theorem settleFrame_mou (s : State) (c : Computed) (p : Plan) (w : Bool) : (settleFrame s c p w).mou = s.mou := (settleFrame_controls s c p w).mou
@[simp] theorem settleFrame_cst (s : State) (c : Computed) (p : Plan) (w : Bool) : (settleFrame s c p w).cst = s.cst := (settleFrame_controls s c p w).cst
@[simp] theorem settleFrame_lnk (s : State) (c : Computed) (p : Plan) (w : Bool) : (settleFrame s c p w).lnk = s.lnk := (settleFrame_controls s c p w).lnk
@[simp] theorem settleFrame_choices (s : State) (c : Computed) (p : Plan) (w : Bool) : (settleFrame s c p w).choices = s.choices := (settleFrame_controls s c p w).choices
@[simp] theorem settleFrame_pending (s : State) (c : Computed) (p : Plan) (w : Bool) : (settleFrame s c p w).pending = s.pending := (settleFrame_controls s c p w).pending
@[simp] theorem settleFrame_lds_zoom (s : State) (c : Computed) (p : Plan) (w : Bool) : (settleFrame s c p w).lds.zoom = s.lds.zoom := (settleFrame_controls s c p w).zoom
@[simp] theorem settleFrame_lds_focus (s : State) (c : Computed) (p : Plan) (w : Bool) : (settleFrame s c p w).lds.focus = s.lds.focus := (settleFrame_controls s c p w).focus
@[simp] theorem settleFrame_lds_iris (s : State) (c : Computed) (p : Plan) (w : Bool) : (settleFrame s c p w).lds.iris = s.lds.iris := (settleFrame_controls s c p w).iris
@[simp] theorem settleFrame_lds_params (s : State) (c : Computed) (p : Plan) (w : Bool) : (settleFrame s c p w).lds.params = s.lds.params := (settleFrame_controls s c p w).params
@[simp] theorem settleFrame_lds_latched (s : State) (c : Computed) (p : Plan) (w : Bool) : (settleFrame s c p w).lds.latched = s.lds.latched := (settleFrame_controls s c p w).latched
@[simp] theorem settleFrame_lds_reference (s : State) (c : Computed) (p : Plan) (w : Bool) : (settleFrame s c p w).lds.reference = s.lds.reference := (settleFrame_controls s c p w).reference

theorem issueDecision_controls (s : State) (p : Plan) (w : Bool) : State.ControlsOnly (issueDecision s p w) s := by
  unfold issueDecision
  try dsimp only
  try (repeat' split)
  all_goals constructor <;> simp
@[simp] theorem issueDecision_intake (s : State) (p : Plan) (w : Bool) : (issueDecision s p w).intake = s.intake := (issueDecision_controls s p w).intake
@[simp] theorem issueDecision_pxp (s : State) (p : Plan) (w : Bool) : (issueDecision s p w).pxp = s.pxp := (issueDecision_controls s p w).pxp
@[simp] theorem issueDecision_stats (s : State) (p : Plan) (w : Bool) : (issueDecision s p w).stats = s.stats := (issueDecision_controls s p w).stats
@[simp] theorem issueDecision_mou (s : State) (p : Plan) (w : Bool) : (issueDecision s p w).mou = s.mou := (issueDecision_controls s p w).mou
@[simp] theorem issueDecision_cst (s : State) (p : Plan) (w : Bool) : (issueDecision s p w).cst = s.cst := (issueDecision_controls s p w).cst
@[simp] theorem issueDecision_lnk (s : State) (p : Plan) (w : Bool) : (issueDecision s p w).lnk = s.lnk := (issueDecision_controls s p w).lnk
@[simp] theorem issueDecision_choices (s : State) (p : Plan) (w : Bool) : (issueDecision s p w).choices = s.choices := (issueDecision_controls s p w).choices
@[simp] theorem issueDecision_pending (s : State) (p : Plan) (w : Bool) : (issueDecision s p w).pending = s.pending := (issueDecision_controls s p w).pending
@[simp] theorem issueDecision_lds_zoom (s : State) (p : Plan) (w : Bool) : (issueDecision s p w).lds.zoom = s.lds.zoom := (issueDecision_controls s p w).zoom
@[simp] theorem issueDecision_lds_focus (s : State) (p : Plan) (w : Bool) : (issueDecision s p w).lds.focus = s.lds.focus := (issueDecision_controls s p w).focus
@[simp] theorem issueDecision_lds_iris (s : State) (p : Plan) (w : Bool) : (issueDecision s p w).lds.iris = s.lds.iris := (issueDecision_controls s p w).iris
@[simp] theorem issueDecision_lds_params (s : State) (p : Plan) (w : Bool) : (issueDecision s p w).lds.params = s.lds.params := (issueDecision_controls s p w).params
@[simp] theorem issueDecision_lds_latched (s : State) (p : Plan) (w : Bool) : (issueDecision s p w).lds.latched = s.lds.latched := (issueDecision_controls s p w).latched
@[simp] theorem issueDecision_lds_reference (s : State) (p : Plan) (w : Bool) : (issueDecision s p w).lds.reference = s.lds.reference := (issueDecision_controls s p w).reference

theorem measuredFrame_controls (s : State) (z : ZoneSet) : State.ControlsOnly (measuredFrame s z).1 s := by
  unfold measuredFrame
  try dsimp only
  try (repeat' split)
  all_goals constructor <;> simp
@[simp] theorem measuredFrame_intake (s : State) (z : ZoneSet) : (measuredFrame s z).1.intake = s.intake := (measuredFrame_controls s z).intake
@[simp] theorem measuredFrame_pxp (s : State) (z : ZoneSet) : (measuredFrame s z).1.pxp = s.pxp := (measuredFrame_controls s z).pxp
@[simp] theorem measuredFrame_stats (s : State) (z : ZoneSet) : (measuredFrame s z).1.stats = s.stats := (measuredFrame_controls s z).stats
@[simp] theorem measuredFrame_mou (s : State) (z : ZoneSet) : (measuredFrame s z).1.mou = s.mou := (measuredFrame_controls s z).mou
@[simp] theorem measuredFrame_cst (s : State) (z : ZoneSet) : (measuredFrame s z).1.cst = s.cst := (measuredFrame_controls s z).cst
@[simp] theorem measuredFrame_lnk (s : State) (z : ZoneSet) : (measuredFrame s z).1.lnk = s.lnk := (measuredFrame_controls s z).lnk
@[simp] theorem measuredFrame_choices (s : State) (z : ZoneSet) : (measuredFrame s z).1.choices = s.choices := (measuredFrame_controls s z).choices
@[simp] theorem measuredFrame_pending (s : State) (z : ZoneSet) : (measuredFrame s z).1.pending = s.pending := (measuredFrame_controls s z).pending
@[simp] theorem measuredFrame_lds_zoom (s : State) (z : ZoneSet) : (measuredFrame s z).1.lds.zoom = s.lds.zoom := (measuredFrame_controls s z).zoom
@[simp] theorem measuredFrame_lds_focus (s : State) (z : ZoneSet) : (measuredFrame s z).1.lds.focus = s.lds.focus := (measuredFrame_controls s z).focus
@[simp] theorem measuredFrame_lds_iris (s : State) (z : ZoneSet) : (measuredFrame s z).1.lds.iris = s.lds.iris := (measuredFrame_controls s z).iris
@[simp] theorem measuredFrame_lds_params (s : State) (z : ZoneSet) : (measuredFrame s z).1.lds.params = s.lds.params := (measuredFrame_controls s z).params
@[simp] theorem measuredFrame_lds_latched (s : State) (z : ZoneSet) : (measuredFrame s z).1.lds.latched = s.lds.latched := (measuredFrame_controls s z).latched
@[simp] theorem measuredFrame_lds_reference (s : State) (z : ZoneSet) : (measuredFrame s z).1.lds.reference = s.lds.reference := (measuredFrame_controls s z).reference

theorem captureCopy_controls (s : State) : State.ControlsOnly (captureCopy s) s := by
  unfold captureCopy
  try dsimp only
  try (repeat' split)
  all_goals constructor <;> simp
@[simp] theorem captureCopy_intake (s : State) : (captureCopy s).intake = s.intake := (captureCopy_controls s).intake
@[simp] theorem captureCopy_pxp (s : State) : (captureCopy s).pxp = s.pxp := (captureCopy_controls s).pxp
@[simp] theorem captureCopy_stats (s : State) : (captureCopy s).stats = s.stats := (captureCopy_controls s).stats
@[simp] theorem captureCopy_mou (s : State) : (captureCopy s).mou = s.mou := (captureCopy_controls s).mou
@[simp] theorem captureCopy_cst (s : State) : (captureCopy s).cst = s.cst := (captureCopy_controls s).cst
@[simp] theorem captureCopy_lnk (s : State) : (captureCopy s).lnk = s.lnk := (captureCopy_controls s).lnk
@[simp] theorem captureCopy_choices (s : State) : (captureCopy s).choices = s.choices := (captureCopy_controls s).choices
@[simp] theorem captureCopy_pending (s : State) : (captureCopy s).pending = s.pending := (captureCopy_controls s).pending
@[simp] theorem captureCopy_lds_zoom (s : State) : (captureCopy s).lds.zoom = s.lds.zoom := (captureCopy_controls s).zoom
@[simp] theorem captureCopy_lds_focus (s : State) : (captureCopy s).lds.focus = s.lds.focus := (captureCopy_controls s).focus
@[simp] theorem captureCopy_lds_iris (s : State) : (captureCopy s).lds.iris = s.lds.iris := (captureCopy_controls s).iris
@[simp] theorem captureCopy_lds_params (s : State) : (captureCopy s).lds.params = s.lds.params := (captureCopy_controls s).params
@[simp] theorem captureCopy_lds_latched (s : State) : (captureCopy s).lds.latched = s.lds.latched := (captureCopy_controls s).latched
@[simp] theorem captureCopy_lds_reference (s : State) : (captureCopy s).lds.reference = s.lds.reference := (captureCopy_controls s).reference

theorem issueManual_controls (s : State) (x : Setting) : State.ControlsOnly (issueManual s x) s := by
  unfold issueManual
  try dsimp only
  try (repeat' split)
  all_goals constructor <;> simp
@[simp] theorem issueManual_intake (s : State) (x : Setting) : (issueManual s x).intake = s.intake := (issueManual_controls s x).intake
@[simp] theorem issueManual_pxp (s : State) (x : Setting) : (issueManual s x).pxp = s.pxp := (issueManual_controls s x).pxp
@[simp] theorem issueManual_stats (s : State) (x : Setting) : (issueManual s x).stats = s.stats := (issueManual_controls s x).stats
@[simp] theorem issueManual_mou (s : State) (x : Setting) : (issueManual s x).mou = s.mou := (issueManual_controls s x).mou
@[simp] theorem issueManual_cst (s : State) (x : Setting) : (issueManual s x).cst = s.cst := (issueManual_controls s x).cst
@[simp] theorem issueManual_lnk (s : State) (x : Setting) : (issueManual s x).lnk = s.lnk := (issueManual_controls s x).lnk
@[simp] theorem issueManual_choices (s : State) (x : Setting) : (issueManual s x).choices = s.choices := (issueManual_controls s x).choices
@[simp] theorem issueManual_pending (s : State) (x : Setting) : (issueManual s x).pending = s.pending := (issueManual_controls s x).pending
@[simp] theorem issueManual_lds_zoom (s : State) (x : Setting) : (issueManual s x).lds.zoom = s.lds.zoom := (issueManual_controls s x).zoom
@[simp] theorem issueManual_lds_focus (s : State) (x : Setting) : (issueManual s x).lds.focus = s.lds.focus := (issueManual_controls s x).focus
@[simp] theorem issueManual_lds_iris (s : State) (x : Setting) : (issueManual s x).lds.iris = s.lds.iris := (issueManual_controls s x).iris
@[simp] theorem issueManual_lds_params (s : State) (x : Setting) : (issueManual s x).lds.params = s.lds.params := (issueManual_controls s x).params
@[simp] theorem issueManual_lds_latched (s : State) (x : Setting) : (issueManual s x).lds.latched = s.lds.latched := (issueManual_controls s x).latched
@[simp] theorem issueManual_lds_reference (s : State) (x : Setting) : (issueManual s x).lds.reference = s.lds.reference := (issueManual_controls s x).reference

theorem issueOff_controls (s : State) : State.ControlsOnly (issueOff s) s := by
  unfold issueOff
  try dsimp only
  try (repeat' split)
  all_goals constructor <;> simp
@[simp] theorem issueOff_intake (s : State) : (issueOff s).intake = s.intake := (issueOff_controls s).intake
@[simp] theorem issueOff_pxp (s : State) : (issueOff s).pxp = s.pxp := (issueOff_controls s).pxp
@[simp] theorem issueOff_stats (s : State) : (issueOff s).stats = s.stats := (issueOff_controls s).stats
@[simp] theorem issueOff_mou (s : State) : (issueOff s).mou = s.mou := (issueOff_controls s).mou
@[simp] theorem issueOff_cst (s : State) : (issueOff s).cst = s.cst := (issueOff_controls s).cst
@[simp] theorem issueOff_lnk (s : State) : (issueOff s).lnk = s.lnk := (issueOff_controls s).lnk
@[simp] theorem issueOff_choices (s : State) : (issueOff s).choices = s.choices := (issueOff_controls s).choices
@[simp] theorem issueOff_pending (s : State) : (issueOff s).pending = s.pending := (issueOff_controls s).pending
@[simp] theorem issueOff_lds_zoom (s : State) : (issueOff s).lds.zoom = s.lds.zoom := (issueOff_controls s).zoom
@[simp] theorem issueOff_lds_focus (s : State) : (issueOff s).lds.focus = s.lds.focus := (issueOff_controls s).focus
@[simp] theorem issueOff_lds_iris (s : State) : (issueOff s).lds.iris = s.lds.iris := (issueOff_controls s).iris
@[simp] theorem issueOff_lds_params (s : State) : (issueOff s).lds.params = s.lds.params := (issueOff_controls s).params
@[simp] theorem issueOff_lds_latched (s : State) : (issueOff s).lds.latched = s.lds.latched := (issueOff_controls s).latched
@[simp] theorem issueOff_lds_reference (s : State) : (issueOff s).lds.reference = s.lds.reference := (issueOff_controls s).reference

theorem aecEof_controls (s : State) (z : Option ZoneSet) : State.ControlsOnly (aecEof s z).1 s := by
  unfold aecEof
  try dsimp only
  try (repeat' split)
  all_goals constructor <;> simp
@[simp] theorem aecEof_intake (s : State) (z : Option ZoneSet) : (aecEof s z).1.intake = s.intake := (aecEof_controls s z).intake
@[simp] theorem aecEof_pxp (s : State) (z : Option ZoneSet) : (aecEof s z).1.pxp = s.pxp := (aecEof_controls s z).pxp
@[simp] theorem aecEof_stats (s : State) (z : Option ZoneSet) : (aecEof s z).1.stats = s.stats := (aecEof_controls s z).stats
@[simp] theorem aecEof_mou (s : State) (z : Option ZoneSet) : (aecEof s z).1.mou = s.mou := (aecEof_controls s z).mou
@[simp] theorem aecEof_cst (s : State) (z : Option ZoneSet) : (aecEof s z).1.cst = s.cst := (aecEof_controls s z).cst
@[simp] theorem aecEof_lnk (s : State) (z : Option ZoneSet) : (aecEof s z).1.lnk = s.lnk := (aecEof_controls s z).lnk
@[simp] theorem aecEof_choices (s : State) (z : Option ZoneSet) : (aecEof s z).1.choices = s.choices := (aecEof_controls s z).choices
@[simp] theorem aecEof_pending (s : State) (z : Option ZoneSet) : (aecEof s z).1.pending = s.pending := (aecEof_controls s z).pending
@[simp] theorem aecEof_lds_zoom (s : State) (z : Option ZoneSet) : (aecEof s z).1.lds.zoom = s.lds.zoom := (aecEof_controls s z).zoom
@[simp] theorem aecEof_lds_focus (s : State) (z : Option ZoneSet) : (aecEof s z).1.lds.focus = s.lds.focus := (aecEof_controls s z).focus
@[simp] theorem aecEof_lds_iris (s : State) (z : Option ZoneSet) : (aecEof s z).1.lds.iris = s.lds.iris := (aecEof_controls s z).iris
@[simp] theorem aecEof_lds_params (s : State) (z : Option ZoneSet) : (aecEof s z).1.lds.params = s.lds.params := (aecEof_controls s z).params
@[simp] theorem aecEof_lds_latched (s : State) (z : Option ZoneSet) : (aecEof s z).1.lds.latched = s.lds.latched := (aecEof_controls s z).latched
@[simp] theorem aecEof_lds_reference (s : State) (z : Option ZoneSet) : (aecEof s z).1.lds.reference = s.lds.reference := (aecEof_controls s z).reference

end Sys2Proof.Machine
end

