-- ==== Sys2Proof/Laws/Memory.lean ====
section
/-! SUPPORT. The laws of the byte memories (frame memory and tables): a read after a write, in one byte and in a run
of bytes, and that every write keeps the canonical form. -/

namespace Sys2Proof.Machine

@[simp] theorem memRead_nil (a : Nat) : memRead [] a = 0 := rfl

/-- A write leaves every other address as it reads. -/
theorem memRead_memWrite_of_ne (m : Memory) {a k : Nat} (b : Byte) (h : k ≠ a) :
    memRead (memWrite m a b) k = memRead m k := by
  induction m with
  | nil => unfold memWrite; split <;> simp [memRead, h, unlistedByte]
  | cons c rest ih =>
    obtain ⟨j, v⟩ := c
    unfold memWrite
    split
    · split
      · rfl
      · simp [memRead, h]
    · split
      · subst_vars
        split <;> simp [memRead, h]
      · simp [memRead, ih]

theorem memWfFrom_mono {lo lo' : Nat} (h : lo ≤ lo') (m : Memory) (hm : memWfFrom lo' m = true) :
    memWfFrom lo m = true := by
  cases m with
  | nil => rfl
  | cons c rest =>
    obtain ⟨k, v⟩ := c
    simp only [memWfFrom, Bool.and_eq_true, decide_eq_true_eq] at *
    exact ⟨⟨by omega, hm.1.2⟩, hm.2⟩

/-- An address below every listed one reads as an unlisted byte. -/
theorem memRead_of_lt {lo a : Nat} (m : Memory) (hm : memWfFrom lo m = true) (h : a < lo) :
    memRead m a = unlistedByte := by
  induction m generalizing lo with
  | nil => rfl
  | cons c rest ih =>
    obtain ⟨k, v⟩ := c
    simp only [memWfFrom, Bool.and_eq_true, decide_eq_true_eq] at hm
    have : a ≠ k := by omega
    simp only [memRead, this, if_false]
    exact ih hm.2 (by omega)

theorem memWfFrom_memWrite {lo a : Nat} (m : Memory) (b : Byte) (hm : memWfFrom lo m = true) (h : lo ≤ a) :
    memWfFrom lo (memWrite m a b) = true := by
  induction m generalizing lo with
  | nil => unfold memWrite; split <;> simp_all [memWfFrom]
  | cons c rest ih =>
    obtain ⟨k, v⟩ := c
    simp only [memWfFrom, Bool.and_eq_true, decide_eq_true_eq] at hm
    obtain ⟨⟨hk, hv⟩, hr⟩ := hm
    unfold memWrite
    split
    · split
      · simp [memWfFrom, hk, hv, hr]
      · rename_i hak hb
        have : memWfFrom (a + 1) ((k, v) :: rest) = true := by simp [memWfFrom, hv, hr]; omega
        simp only [memWfFrom] at this ⊢
        simp_all
    · split
      · split
        · exact memWfFrom_mono (by omega) rest hr
        · simp_all [memWfFrom]
      · have := ih (lo := k + 1) hr (by omega)
        simp [memWfFrom, hk, hv, this]

/-- Every write keeps the canonical form. -/
theorem memWf_memWrite (m : Memory) (a : Nat) (b : Byte) (hm : memWf m = true) : memWf (memWrite m a b) = true :=
  memWfFrom_memWrite m b hm (Nat.zero_le a)

theorem memRead_memWrite_self_from {lo a : Nat} (m : Memory) (b : Byte) (hm : memWfFrom lo m = true) :
    memRead (memWrite m a b) a = b := by
  induction m generalizing lo with
  | nil => unfold memWrite; split <;> simp_all [memRead]
  | cons c rest ih =>
    obtain ⟨k, v⟩ := c
    simp only [memWfFrom, Bool.and_eq_true, decide_eq_true_eq] at hm
    obtain ⟨⟨hk, hv⟩, hr⟩ := hm
    unfold memWrite
    split
    · split
      · rename_i hak hb
        have h1 : a ≠ k := by omega
        simp only [memRead, h1, if_false, hb]
        exact memRead_of_lt rest hr (by omega)
      · simp [memRead]
    · split
      · subst_vars
        split
        · rename_i hb
          rw [hb]
          exact memRead_of_lt rest hr (by omega)
        · simp [memRead]
      · rename_i h1 h2
        simp only [memRead, h2, if_false]
        exact ih hr

/-- A byte reads as the value last written to its address. -/
theorem memRead_memWrite_self (m : Memory) (a : Nat) (b : Byte) (hm : memWf m = true) :
    memRead (memWrite m a b) a = b := memRead_memWrite_self_from m b hm

/-- A run of writes keeps the canonical form. -/
theorem memWf_memWriteBytes (bs : List Byte) (m : Memory) (a : Nat) (hm : memWf m = true) :
    memWf (memWriteBytes m a bs) = true := by
  induction bs generalizing m a with
  | nil => exact hm
  | cons b bs ih => exact ih _ _ (memWf_memWrite m a b hm)

/-- A run of writes leaves every address outside it as it reads. -/
theorem memRead_memWriteBytes_of_outside (bs : List Byte) (m : Memory) {a k : Nat} (h : k < a ∨ a + bs.length ≤ k) :
    memRead (memWriteBytes m a bs) k = memRead m k := by
  induction bs generalizing m a with
  | nil => rfl
  | cons b bs ih =>
    simp only [List.length_cons] at h
    rw [memWriteBytes, ih _ (by omega), memRead_memWrite_of_ne _ _ (by omega)]

/-- A run of writes gives each of its addresses its byte. -/
theorem memRead_memWriteBytes_inside (bs : List Byte) (m : Memory) (a j : Nat) (b : Byte) (hm : memWf m = true)
    (h : bs[j]? = some b) : memRead (memWriteBytes m a bs) (a + j) = b := by
  induction bs generalizing m a j with
  | nil => simp at h
  | cons c bs ih =>
    cases j with
    | zero =>
      simp only [List.getElem?_cons_zero, Option.some.injEq] at h
      rw [memWriteBytes, memRead_memWriteBytes_of_outside _ _ (by omega), ← h]
      exact memRead_memWrite_self m a c hm
    | succ j =>
      simp only [List.getElem?_cons_succ] at h
      have := ih (memWrite m a c) (a + 1) j (memWf_memWrite m a c hm) h
      rwa [show a + 1 + j = a + (j + 1) by omega] at this

end Sys2Proof.Machine
end

