-- ==== Sys2Proof/Tests/Slice0.lean ====
section
/-! SUPPORT. The model's own tests: the spec's worked figures, a command refused by each check of WellFormed, and,
for the obligations that have hypotheses, states and operands that meet them. -/

namespace Sys2Proof.Tests

open Sys2Proof.Machine

/-! ### The well-formedness checks refuse (R1, R121, R133, R163, R188) -/

theorem test_line_pixel_too_large : (Instr.line [0, 4096]).wellFormed = false := by decide
theorem test_line_pixel_top : (Instr.line [0, 4095]).wellFormed = true := by decide
theorem test_known_code_is_not_unknown : (Instr.unknownCommand 0 41).wellFormed = false := by decide
theorem test_table_load_code_is_unknown : (Instr.unknownCommand 0 37).wellFormed = true := by decide
theorem test_path_setup_geometry_field :
    (Instr.pathSetup 0 (.args ⟨⟨65536, 480, 320, 240⟩, ⟨0, 0, 0, 0⟩, 1, 2, 3, 10⟩)).wellFormed = false := by decide
theorem test_path_setup_black_field :
    (Instr.pathSetup 0 (.args ⟨⟨640, 480, 320, 240⟩, ⟨0, 0, 65536, 0⟩, 1, 2, 3, 10⟩)).wellFormed = false := by decide
theorem test_stats_setup_byte : (Instr.statsSetup 0 (.args ⟨64, 256, 0⟩)).wellFormed = false := by decide
theorem test_ae_mode_byte : (Instr.aeMode 0 (.args 256)).wellFormed = false := by decide
theorem test_ae_setup_signed_byte :
    (Instr.aeSetup 0 (.args ⟨150, 128, 2, 8, 24, 3, 12, 8, 4, 32, 2, 0⟩)).wellFormed = false := by decide
theorem test_ae_manual_byte : (Instr.aeManual 0 (.args ⟨0, 0, 256⟩)).wellFormed = false := by decide
theorem test_lens_setup_level_byte :
    (Instr.lensSetup 0 (.args ⟨⟨0, 1, 256, 2, 3, 3⟩, 1, 3, 2, 12, 8, 256, 4⟩)).wellFormed = false := by decide
theorem test_focus_move_word : (Instr.focusMove 0 (.args ⟨65536, 0⟩)).wellFormed = false := by decide
theorem test_zoom_to_speed_byte : (Instr.zoomTo 0 (.args ⟨0, 256⟩)).wellFormed = false := by decide
theorem test_zoom_by_signed_word : (Instr.zoomBy 0 (.args ⟨-32769, 0⟩)).wellFormed = false := by decide
theorem test_af_setup_eight_windows :
    (Instr.afSetup 0 (.args ⟨1, 0, 0, [], 48, 8, 20000, 6, 12, 30⟩)).wellFormed = false := by decide
theorem test_af_setup_min_figure_field :
    (Instr.afSetup 0 (.args ⟨1, 0, 0, List.replicate 8 ⟨0, 0, 0, 1, 1⟩, 48, 8, 4294967296, 6, 12, 30⟩)).wellFormed =
      false := by decide
theorem test_zoom_setup_byte : (Instr.zoomSetup 0 (.args 256)).wellFormed = false := by decide
theorem test_stab_mode_byte : (Instr.stabMode 0 (.args 256)).wellFormed = false := by decide
theorem test_stab_setup_word :
    (Instr.stabSetup 0 (.args ⟨500, 10, 12, 1280, 200, 0, 1, 1, 64, 640, 96, 65536, 4, 24⟩)).wellFormed = false := by decide
theorem test_store_setup_byte :
    (Instr.storeSetup 0 (.args ⟨0, 12, 0, 256, 4, 1, 15, 0, 0, 0, 0, 0, 0⟩)).wellFormed = false := by decide
theorem test_accept_byte : (Instr.accept 0 (.args 256)).wellFormed = false := by decide
theorem test_fetch_byte : (Instr.fetch 0 (.args ⟨0, 0, 256⟩)).wellFormed = false := by decide
theorem test_shutter_setup_byte : (Instr.shutterSetup 0 (.args ⟨256, 0, 0⟩)).wellFormed = false := by decide
theorem test_conditions_setup_set_field :
    (Instr.conditionsSetup 0 (.args ⟨4294967296, 0, 0, 1⟩)).wellFormed = false := by decide
theorem test_conditions_clear_set_field : (Instr.conditionsClear 0 (.args 4294967296)).wellFormed = false := by decide
theorem test_table_load_length :
    (Instr.tableLoad 0 (.args ⟨0, 0, List.replicate 257 0⟩)).wellFormed = false := by decide +kernel
theorem test_table_read_word : (Instr.tableRead 0 (.args ⟨0, 65536, 1⟩)).wellFormed = false := by decide
theorem test_reset_byte : (Instr.reset 0 (.args 256)).wellFormed = false := by decide
theorem test_rate_sample_sequence : (Instr.rateSample 256 0 0).wellFormed = false := by decide
theorem test_rate_sample_rate : (Instr.rateSample 0 (-32768) 0).wellFormed = false := by decide
theorem test_readback_range : (Instr.readback 2048 0).wellFormed = false := by decide
theorem test_timed_latch_condition : (Instr.timedLatchExpiry 25).wellFormed = false := by decide

/-! ### The packets of the host link (R174, R188, section 11) -/

/-- R174: the check over the nine bytes 31h to 39h is 10,673. -/
theorem test_crc_of_digits : crc16 [0x31, 0x32, 0x33, 0x34, 0x35, 0x36, 0x37, 0x38, 0x39] = 10673#16 := by decide +kernel

/-- ZOOM_TO 2,048 at speed class 3: code 18, then 0800h and 03h. -/
theorem test_decode_zoom_to : decodeCommand 7 [18, 0x08, 0x00, 3] = .zoomTo 7 (.args ⟨2048, 3⟩) := by decide
/-- ZOOM_BY −2 at speed class 1: two's complement FFFEh. -/
theorem test_decode_zoom_by : decodeCommand 7 [19, 0xFF, 0xFE, 1] = .zoomBy 7 (.args ⟨-2, 1⟩) := by decide
theorem test_decode_wrong_length : decodeCommand 7 [2, 0] = .pathStart 7 .wrongLength := by decide
theorem test_decode_unknown : decodeCommand 7 [42] = .unknownCommand 7 42 := by decide
theorem test_decode_conditions_clear :
    decodeCommand 1 [36, 0x01, 0x00, 0x00, 0x02] = .conditionsClear 1 (.args 16777218) := by decide
theorem test_decode_table_data : decodeTableData 9 [13, 0x00, 0xFF, 5, 6] = .tableLoad 9 (.args ⟨13, 255, [5, 6]⟩) := by
  decide

/-! ### The spec's worked figures -/

/-- Section 1.8.1: the pixel of raw value 1,000 at black 64, gain 1,536, gD 8. -/
theorem test_pixel_middle : stage3 (stage2 (stage1 1000 64) 1536) (digitalGain 8) = 1985 := by decide
theorem test_pixel_saturates : stage3 (stage2 (stage1 3900 64) 1536) (digitalGain 8) = 4095 := by decide
theorem test_pixel_dark : stage3 (stage2 (stage1 40 64) 1536) (digitalGain 8) = 0 := by decide
theorem test_pixel_without_shading : stage3 (stage2 (stage1 1000 64) 1024) (digitalGain 8) = 1324 := by decide
/-- Section 1.8.1: shading cell (13, 10), channel Gr, and band 1 at zoom position 700. -/
theorem test_pixel_cell : gainOffset resetGeometry 2001 1500 = 8 * (32 * 10 + 13) + 2 := by decide
theorem test_pixel_band : bandOf resetIntake ⟨700, true⟩ = 1 := by decide

/-- Section 3.5.1: the zone levels. -/
theorem test_zone_levels : [300, 420, 2600, 4095].map zoneLevel = [130, 138, 180, 191] := by decide
/-- Section 3.5.1: adj +8, T_eff 158, E 12, X_new 167. -/
theorem test_effective_target : effectiveTarget resetAeParams (caseAdjustment resetAeParams [3] [0, 1]) = 158 := by decide
theorem test_exposure_new : exposureNew resetAeParams 12 161 = 167 := by decide
/-- Section 12.1: the steps −24 (clamped) and trunc(−16.5). -/
theorem test_exposure_step : exposureStep resetAeParams (-57) = -24 ∧ exposureStep resetAeParams (-33) = -16 := by decide

/-- The live program of section 3.5.1, without its last segment. -/
def figureProgram : List Segment := [⟨0, 0, 96⟩, ⟨1, 1, 0⟩, ⟨0, 2, 0⟩, ⟨2, 3, 0⟩]

/-- Sections 3.5.1 to 3.5.3: the walks at the wide end, at telephoto, pinned, and where the program runs out. -/
theorem test_walk_wide : desiredWalk ⟨255, 127, 41, 182⟩ figureProgram 167 = ⟨126, 41, 0, 0⟩ := by decide
theorem test_walk_tele : desiredWalk ⟨255, 127, 7, 116⟩ figureProgram 167 = ⟨116, 7, 44, 0⟩ := by decide
theorem test_walk_pinned : pinnedWalk ⟨255, 127, 41, 182⟩ figureProgram 167 30 = ⟨137, 30, 0, 0⟩ := by decide
theorem test_walk_runs_out : desiredWalk ⟨255, 127, 7, 116⟩ figureProgram 255 = ⟨116, 7, 127, 5⟩ := by decide
theorem test_split_gain : splitGain 116 7 127 96 = ⟨116, 7, 96, 31⟩ := by decide

/-- Section 6.5.1: interpolation, the half away from zero on either side. -/
theorem test_interpolation :
    interpolate 600 660 60 = 656 ∧ interpolate 1100 1140 60 = 1138 ∧ interpolate 900 870 16 = 892 := by decide
/-- R110: from 640 a segment going up ends at 704 and one going down at 576, or nearer. -/
theorem test_segment_ends : segmentEnd 640 2048 = 704 ∧ segmentEnd 640 0 = 576 ∧ segmentEnd 640 660 = 660 := by decide

/-- Section 7.2.1: two samples on the yaw axis. -/
theorem test_bias_and_angle :
    let x := integrate resetStabParams (axisRate resetStabParams false 330 { resetAxis with bias := 2560 })
    let y := integrate resetStabParams (axisRate resetStabParams false 330 x)
    (x.bias, x.rate, x.angle) = (2640, 320, 160000) ∧ (y.bias, y.rate, y.angle) = (2719, 319, 319461) := by decide
/-- Section 12.4: the total shifts. -/
theorem test_total_shift :
    [4000000, 4400000, 5000000, 5500000].map (totalShift · 8000) = [-1907, -2098, -2384, -2623] := by decide
/-- Section 12.4: the crops at margin 256 and ppu 96. -/
theorem test_crop : [0, -51, -337, -576].map (cropOf 256 · 96) = [128, 108, 2, 0] := by decide
/-- Section 7.9.1: the blur record of five samples in an open window. -/
theorem test_blur_record :
    blurRecord ([(⟨5, 12⟩ : AxisPair), ⟨-2, 30⟩, ⟨8, 20⟩, ⟨1, 9⟩, ⟨4, 6⟩].foldl (fun w e => blurSample e w) ⟨3, 3, 0, 0, 0⟩) =
      ⟨10, 30, 5⟩ := by decide

/-- Section 4.3: 2 is later than 65,530, and the opposite number is not later. -/
theorem test_frame_order : fnLater 2 65530 = true ∧ fnLater 32768 0 = false ∧ fnLater 32767 0 = true := by decide

/-- Section 5.4.1: the coarse positions from 600 to 1,100 by 48 begin at the end nearer the focus. -/
theorem test_coarse_positions :
    coarsePositions 500 600 1100 48 = [600, 648, 696, 744, 792, 840, 888, 936, 984, 1032, 1080, 1100] := by decide

/-! ### States for the witnesses -/

/-- INTAKE waiting for a frame. -/
def waiting : State := State.reset.setIntake { resetIntake with mode := .waiting, timer := some 200 }

/-- A frame in progress. -/
def inFrame : State := State.reset.setIntake { resetIntake with mode := .inFrame, fn := 7, lineCounter := 5, timer := some 200 }

/-- A frame in progress whose lines have all arrived, with its measurement. -/
def fullFrame : State :=
  (inFrame.setIntake { inFrame.intake with lineCounter := 3480 }).setStats { resetStats with
    rate := 2, divider := 1, measure := some (openMeasurement inFrame) }

/-- A record of a frame of four lines of four pixels. -/
def smallRecord : FrameRecord :=
  ⟨7, 1, .stream, 0, 4, 4, 24, noExposure, ⟨0, false⟩, ⟨0, false⟩, ⟨0, false⟩, ⟨false, false, false⟩, .idle, none, none,
    .normal, .off, none, 0, 0, 0, false, false, false, false, false⟩

/-- A slot in a given state. -/
def slotIn (st before : SlotState) (order : Nat) : Slot := ⟨st, some smallRecord, false, false, 1, .stream, order, before⟩

/-- A frame of four lines of four pixels in progress, stored in slot 1 of two. -/
def smallFrame : State :=
  ((State.reset.setIntake { resetIntake with
    mode := .inFrame, fn := 7, lineCounter := 2, timer := some 200, geometry := ⟨4, 4, 4, 4⟩ }).setPxp
      { resetPxp with black := some ⟨64, 64, 64, 64⟩, cropX := 0, cropY := 0 }).setCst
    { resetCst false false with slots := [freeSlot, slotIn .filling .free 1], order := 2, state := .capturing }

/-- The drive with the zoom referenced at 700, the focus at 500 and the iris at 41. -/
def lens : Lds := { resetLds ⟨false, false, false⟩ with zoom := ⟨700, true⟩, focus := ⟨500, true⟩, iris := ⟨41, true⟩ }

/-- A running move of a source to a target. -/
def move (src : Source) (m : Motor) (level target : Nat) : Move :=
  ⟨src, m, level, target, 1, .main, target, false, false, false⟩

/-- The state with a drive. -/
def withLens (l : Lds) : State := State.reset.setLds l

/-- The state with some tables valid. -/
def withTables (ids : List Nat) (m : Memory) : State :=
  State.reset.setLnk { resetLnk with
    tables := (List.range 14).map fun k => if ids.contains k then ⟨m, m, true, false⟩ else resetTable }

/-- Rows 10 and 11 of the zoom table of section 6.5.1. -/
def figureZoomTable : Memory :=
  [(80, 30), (81, 138), (82, 1), (83, 54), (84, 2), (85, 88), (86, 4), (87, 76),
   (88, 28), (89, 134), (90, 1), (91, 84), (92, 2), (93, 148), (94, 4), (95, 116)]

/-- A command handed while another is being taken. -/
def taking : State := State.reset.setLnk { resetLnk with buffer := [.taken 1], resetWait := some ⟨1, false⟩ }

/-- With an empty buffer every command arrives and is handed at once. -/
theorem turn_of_empty (s : State) (i : Instr) (h : s.lnk.buffer = []) : s.turnOf i := by
  simp [State.turnOf, commandTurn, h, nextWaiting, Config.commandBufferPlaces]

/-! ### Witnesses: invariants and whole-machine rules -/

theorem witness_StepRunsFrontCommand :
    ((State.reset.setPending [.frameStart, .frameEnd]).pending = .frameStart :: [.frameEnd]) ∧ State.reset.pending = [] ∧
    step (State.reset.setPending [.frameEnd]) = .next State.reset ∧ exec .frameEnd State.reset = .next State.reset :=
  ⟨rfl, rfl, rfl, rfl⟩

/-- A STREAM frame in progress with a LINE waiting, a move running over a suspended one, a scan and the exposure held. -/
def busy : State :=
  (((smallFrame.setLds { lens with
      running := some (move .zoom .zoom 2 704), timer := some 1000
      stack := [⟨.manual, .focus, 3, 600, 1, .main, 600, 500, false⟩] }).setAfc { resetAfc with
      mode := .single, state := .coarse
      scan := some ⟨600, 1100, [600, 648], 1, [], none, none, 0, 0, .sof, 0⟩ }).setAec { resetAec with
      state := .held, inFlight := [⟨9, ⟨⟨1, 2, 3, 0⟩, .live, none⟩⟩] }).setZmc
      ⟨.moving, some ⟨2048, false, 704⟩, some ⟨true, 1⟩, true, false⟩ |>.setPending [.line [100, 200, 300, 4095]]

theorem busy_step : ∃ t, step busy = .next t ∧ t.intake.lineCounter = 3 := ⟨_, rfl, rfl⟩

theorem witness_MemoriesStayCanonical : busy.MemoriesCanonical := by
  unfold State.MemoriesCanonical; decide

theorem witness_EveryStepCompletes : (State.reset.setPending [.frameStart]).FramesFit := by
  refine ⟨by decide, ?_, ?_⟩
  · intro i x r h hr
    have hx : x = freeSlot := List.eq_of_mem_replicate (List.mem_of_getElem? h)
    subst hx
    cases hr
  · intro f hf
    cases hf

theorem witness_SlotPartitionKept : busy.SlotsPartitioned := by
  refine ⟨by decide, by decide, by decide, ?_, by decide, fun p h _ => by cases h⟩
  intro i x h hs
  have hm : x ∈ [freeSlot, slotIn .filling .free 1] := List.mem_of_getElem? h
  simp only [List.mem_cons, List.not_mem_nil, or_false] at hm
  rcases hm with rfl | rfl <;> cases hs

theorem witness_LensOrderKept : busy.lds.Ordered := by
  refine ⟨by decide, by decide, by decide, by decide, fun src => by cases src <;> decide, ?_, ?_, ?_, by decide, by decide⟩
  · intro src r h
    cases src <;> cases h
  · intro m h
    cases h
    unfold RunningOk serves
    decide
  · intro x hx
    have : x = ⟨.manual, .focus, 3, 600, 1, .main, 600, 500, false⟩ := List.mem_singleton.mp hx
    subst this
    unfold SuspendedOk serves
    decide

theorem witness_FocusHoldsExposureKept : busy.FocusHoldsExposure := by
  unfold State.FocusHoldsExposure; decide

theorem witness_ConditionLevelsKept : busy.ConditionsFollow := by
  unfold State.ConditionsFollow Condition.Accounts; decide

theorem witness_CommandBufferKept : taking.lnk.Ordered := by
  unfold Lnk.Ordered; decide

theorem witness_MotionRangesKept :
    busy.mou.InRange ∧ (∀ i ∈ (State.reset.setPending [.rateSample 0 330 (-5)]).pending, i.wellFormed = true) := by
  unfold Mou.InRange Axis.InRange; decide

theorem witness_FocusAndZoomStatesKept : busy.afc.Consistent ∧ busy.zmc.Consistent := by
  refine ⟨⟨rfl, rfl, by decide, rfl, ?_, by decide⟩, by decide, by decide, ?_⟩
  · intro sc h hw
    cases h
    simp [busy, State.setPending, State.setZmc, State.setAec, State.setAfc] at hw
  · intro h hh
    cases hh
    decide

theorem witness_InFlightOrderKept :
    busy.aec.InFlightOrdered busy.intake.fn ∧ busy.aec.RecordsRecent busy.intake.fn ∧
    1 ≤ busy.aec.params.latency ∧ busy.aec.params.latency ≤ 3 := by
  unfold Aec.InFlightOrdered Aec.RecordsRecent; decide

theorem witness_EveryCommandAnsweredOnce :
    (hostTag? (.pathStart 5 (.args ())) = some (5, 2) ∧ State.reset.turnOf (.pathStart 5 (.args ()))) ∧
    (hostTag? (.pathStart 5 (.args ())) = some (5, 2) ∧ ¬ taking.turnOf (.pathStart 5 (.args ()))) ∧
    (hostTag? (.strobeRise) = none ∧ ∃ t, exec .strobeRise State.reset = .next t ∧ t ≠ State.reset) :=
  ⟨⟨rfl, rfl⟩, ⟨rfl, by unfold State.turnOf; decide⟩, rfl, _, rfl, by decide⟩

theorem witness_RefusedCommandChangesNothing :
    (∃ t, hostTag? (.pathStart 5 (.args ())) = some (5, 2) ∧ waiting.turnOf (.pathStart 5 (.args ())) ∧
      exec (.pathStart 5 (.args ())) waiting = .next t ∧
      t.lnk.replies = waiting.lnk.replies ++ [⟨5, 2, .refusedState, [], []⟩] ∧ 0x10 ≤ Status.refusedState.code.toNat) ∧
    (waiting.turnOf (.pathStart 5 .wrongLength) ∧ wrongLength? (.pathStart 5 .wrongLength) = true) :=
  ⟨⟨_, rfl, rfl, rfl, rfl, by decide⟩, rfl, rfl⟩

/-- WEIGHT_0 loaded with weight 5 for zone 0. -/
def loaded : State :=
  State.reset.setLnk { resetLnk with tables := resetLnk.tables.set 4 ⟨[(0, 5)], [], false, false⟩ }

theorem witness_FrameNumberAndTablesMoveOnlyAtFrameStart :
    (∃ t, exec .frameStart waiting = .next t ∧ t.intake.fn ≠ waiting.intake.fn) ∧
    (loaded.lnk.tables.length = 14 ∧ ∃ t, exec (.tableCommit 1 (.args 4)) loaded = .next t ∧ t.working 4 ≠ loaded.working 4) :=
  ⟨⟨_, rfl, by decide +kernel⟩, rfl, _, rfl, by decide +kernel⟩

theorem witness_LensMovesOnlyInSteps :
    (∃ t, exec (.stepBoundary ⟨false, false, false⟩ false) (withLens { lens with running := some (move .zoom .zoom 2 704) }) =
      .next t ∧ (t.lds.motor .zoom).pos ≠ 700) ∧
    (∃ t, exec (.referenceStep ⟨false, false, false⟩) (withLens { lens with
        iris := ⟨41, false⟩, reference := some ⟨.iris, 59, true, false⟩ }) = .next t ∧ (t.lds.motor .iris).valid = true) :=
  ⟨⟨_, rfl, by decide +kernel⟩, _, rfl, by decide +kernel⟩

theorem witness_FrameMemoryWrittenOnlyByLines :
    (exec .frameEnd State.reset = .next State.reset) ∧
    ∃ t, exec (.line [4095, 4095, 4095, 4095]) smallFrame = .next t ∧
      memRead t.cst.dram (134217728 + 12) ≠ memRead smallFrame.cst.dram (134217728 + 12) :=
  ⟨rfl, _, rfl, by decide +kernel⟩

theorem witness_LatchesHeldUntilCleared :
    let s := State.reset.raise condMoveDone
    exec .frameEnd s = .next s ∧ (s.cnd.condition condMoveDone).mode = .latched ∧
    (s.cnd.condition condMoveDone).latch = true ∧ (s.cnd.condition condMoveDone).count ≤ 255 :=
  ⟨rfl, by decide, by decide, by decide⟩

/-! ### Witnesses: arithmetic -/

theorem witness_PixelStages :
    ({ resetPxp with black := some ⟨64, 64, 64, 64⟩ } : Pxp).black = some ⟨64, 64, 64, 64⟩ ∧
    [3900, 1000].getD 1 0 = 1000 ∧ 1 < [3900, 1000].length := ⟨rfl, rfl, by decide⟩

theorem witness_ZoneLevel : (2 ^ 8 ≤ max 300 1 ∧ max 300 1 < 2 ^ (8 + 1)) ∧ (2 ^ 0 ≤ max 0 1 ∧ max 0 1 < 2 ^ (0 + 1)) := by decide

theorem witness_WalkSharesExposure :
    (∀ g ∈ figureProgram, segmentAllowed g = true) ∧ (⟨255, 127, 41, 182⟩ : WalkLimits).aW ≤ 47 ∧ 182 ≤ 255 ∧ 127 = 96 + 31 := by
  decide

theorem witness_ZoomRowArithmetic :
    let s := withTables [zoomId] figureZoomTable
    (640 < 2048 ∧ 0 < 640) ∧ (700 ≤ 2048 ∧ 700 % 64 ≠ 0) ∧ (640 ≤ 2048 ∧ 640 % 64 = 0) ∧
    (∀ i ≤ 32, (zoomRowOf (s.working zoomId) i).inf ≤ (zoomRowOf (s.working zoomId) i).near) ∧ s.infAt 700 = 656 := by
  decide +kernel

theorem witness_CropIsEvenWithinMargin :
    256 % 4 = 0 ∧ (0 ≤ cropWish 256 (-51) 96 ∧ cropWish 256 (-51) 96 ≤ 256) ∧ cropWish 256 (-576) 96 < 0 ∧
    256 < cropWish 256 576 96 ∧ (0 : Int) * (96 : Nat) = 0 ∧
    (256 * (cropWish 256 1 768 - (256 / 2 : Nat)) - 1 * (768 : Nat)).natAbs = 256 := by decide

theorem witness_ReadyListHoldsReadySlots :
    ∀ x ∈ [slotIn .ready .free 3, freeSlot, slotIn .held .free 4294967295], x.state = .ready ∨ x.state = .held →
      ∃ d ≤ 2147483647, x.order = (4294967290 + d) % 4294967296 := by
  intro x hx h
  simp only [List.mem_cons, List.not_mem_nil, or_false] at hx
  rcases hx with rfl | rfl | rfl
  · exact ⟨9, by decide, by decide⟩
  · rcases h with h | h <;> cases h
  · exact ⟨5, by decide, by decide⟩

theorem witness_StatsOfAFrame :
    let m : Measurement := { openMeasurement State.reset with zw := 2 * 1, zh := 2 * 1 }
    let lines := List.replicate 24 (List.replicate 32 100)
    (m.zw = 2 * 1 ∧ m.zh = 2 * 1 ∧ m.zoneSums = List.replicate 192 0 ∧ m.clipped = List.replicate 192 0 ∧
      m.figures = List.replicate 8 ⟨0, false, 0⟩ ∧ m.evenPairs = [] ∧ lines.length % 2 = 0 ∧ 24 * 1 ≤ lines.length ∧
      ∀ l ∈ lines, 32 * 1 ≤ l.length) ∧
    m.windows[0]? = some ⟨true, 6, 4, 4, 4⟩ :=
  ⟨⟨rfl, rfl, rfl, rfl, rfl, rfl, rfl, by decide, fun l h => by rw [List.eq_of_mem_replicate h]; decide⟩, rfl⟩

/-! ### Witnesses: frames and lines -/

theorem witness_FrameStartOpensFrame :
    State.reset.intake.mode = .stopped ∧ waiting.intake.mode = .waiting ∧
    (let s := waiting.setMou { resetMou false with yaw := { resetAxis with residual := -2000 } }
     s.intake.mode = .waiting ∧ cropClamped 256 s.mou.yaw.residual s.mou.params.ppu = true ∧ s.cnd.conditions.length = 25) ∧
    (inFrame.intake.mode = .inFrame ∧ inFrame.cnd.conditions.length = 25) := by decide

/-- One live record. -/
def issue1 : Issue := ⟨⟨1, 2, 3, 0⟩, .live, none⟩

/-- A SENSOR_WRITE table of one item, with records waiting or kept for retry. -/
def due (retry awaiting : Option Issue) : State :=
  (withTables [sensorWriteId] [(0, 16), (1, 1)]).setAec { resetAec with
    retry := retry, awaiting := awaiting, inFlight := [⟨65534, issue1⟩, ⟨0, issue1⟩, ⟨2, issue1⟩] }

theorem witness_ExposureAndStoreAtFrameStart :
    waiting.intake.mode = .waiting ∧
    (let s := due (some issue1) none
     (∃ older r rest, s.aec.inFlight = older ++ r :: rest ∧ fnLater r.effective s.intake.fn = false ∧
        ∀ x ∈ rest, fnLater x.effective s.intake.fn = true) ∧
      s.aec.sequence = none ∧ tbl8 (s.working sensorWriteId) 1 ≠ 0 ∧ s.aec.retry = some issue1) ∧
    (let s := due none (some issue1)
     s.aec.sequence = none ∧ tbl8 (s.working sensorWriteId) 1 ≠ 0 ∧ s.aec.retry = none ∧ s.aec.awaiting = some issue1) ∧
    ((∀ r ∈ busy.aec.inFlight, fnLater r.effective busy.intake.fn = true) ∧ busy.aec.retry = none ∧ busy.aec.awaiting = none) :=
  ⟨rfl, ⟨⟨[⟨65534, issue1⟩], ⟨0, issue1⟩, [⟨2, issue1⟩], rfl, by decide, by decide⟩, rfl, by decide +kernel, rfl⟩,
    ⟨rfl, by decide +kernel, rfl, rfl⟩, by decide, rfl, rfl⟩

theorem inFrame_fits : inFrame.FramesFit := by
  refine ⟨by decide, ?_, ?_⟩
  · intro i x r h hr
    have hx : x = freeSlot := List.eq_of_mem_replicate (List.mem_of_getElem? h)
    subst hx
    cases hr
  · intro f hf
    cases hf

theorem smallFrame_fits : smallFrame.FramesFit := by
  refine ⟨by decide, ?_, ?_⟩
  · intro i x r h hr
    have hm : x ∈ [freeSlot, slotIn .filling .free 1] := List.mem_of_getElem? h
    simp only [List.mem_cons, List.not_mem_nil, or_false] at hm
    rcases hm with rfl | rfl <;> cases hr
    exact .inl (by unfold FitsSlot; decide)
  · intro f hf
    cases hf

theorem witness_LineIsMeasuredAndStored :
    waiting.intake.mode ≠ .inFrame ∧
    (fullFrame.intake.mode = .inFrame ∧ fullFrame.intake.geometry.h ≤ fullFrame.intake.lineCounter) ∧
    (inFrame.FramesFit ∧ memWf inFrame.cst.dram = true ∧ inFrame.intake.mode = .inFrame ∧
      inFrame.intake.lineCounter < inFrame.intake.geometry.h ∧ ∀ x ∈ inFrame.cst.slots, x.state ≠ .filling) ∧
    (smallFrame.FramesFit ∧ memWf smallFrame.cst.dram = true ∧ smallFrame.intake.mode = .inFrame ∧
      smallFrame.intake.lineCounter < smallFrame.intake.geometry.h ∧
      smallFrame.cst.slots[1]? = some (slotIn .filling .free 1) ∧ (∀ z ∈ smallFrame.cst.slots.take 1, z.state ≠ .filling) ∧
      smallFrame.pxp.cropY ≤ 2 ∧ 2 < smallFrame.pxp.cropY + smallFrame.intake.geometry.outH ∧
      2 * 1 + 1 < smallFrame.intake.geometry.outW ∧ smallFrame.pxp.cropX + 2 * 1 + 1 < smallFrame.intake.geometry.w) ∧
    (let s := smallFrame.setPxp { smallFrame.pxp with cropY := 3 }
     s.intake.lineCounter < s.pxp.cropY) :=
  ⟨by decide, by decide, ⟨inFrame_fits, by decide⟩, ⟨smallFrame_fits, by decide⟩, by decide⟩

theorem freeSlots_partitioned (s : State) (h : s.cst.slots = List.replicate 12 freeSlot)
    (hs : s.lnk.sending = none) : s.SlotsPartitioned := by
  unfold State.SlotsPartitioned
  rw [h, hs]
  refine ⟨by decide, fun _ => by decide, by decide, ?_, by decide, fun p hp => by cases hp⟩
  intro i x hx hs
  have : x = freeSlot := List.eq_of_mem_replicate (List.mem_of_getElem? hx)
  subst this
  cases hs

/-- A BURST frame of four lines whose lines have all arrived, with AEC HELD and at its second break in a row. -/
def fullSmall : State :=
  (((smallFrame.setIntake { smallFrame.intake with lineCounter := 4 }).setStats { resetStats with
    measure := some (openMeasurement smallFrame) }).setCst { smallFrame.cst with
      params := { resetStoreParams with mode := .burst, nAfter := 1 } }).setAec { resetAec with
    state := .held, breakCount := 1, copy := ⟨List.replicate 192 1, 0, []⟩ }

theorem fullSmall_partitioned : fullSmall.SlotsPartitioned := by
  refine ⟨by decide, by decide, by decide, ?_, by decide, fun p h _ => by cases h⟩
  intro i x h hs
  have hm : x ∈ [freeSlot, slotIn .filling .free 1] := List.mem_of_getElem? h
  simp only [List.mem_cons, List.not_mem_nil, or_false] at hm
  rcases hm with rfl | rfl <;> cases hs

theorem witness_FrameEndsCompleteOrTruncated :
    waiting.intake.mode ≠ .inFrame ∧
    (inFrame.intake.mode = .inFrame ∧ inFrame.intake.lineCounter < inFrame.intake.geometry.h ∧
      inFrame.cnd.conditions.length = 25 ∧ inFrame.lds.noMoves = true) ∧
    (fullFrame.SlotsPartitioned ∧ fullFrame.intake.mode = .inFrame ∧
      fullFrame.intake.geometry.h ≤ fullFrame.intake.lineCounter ∧
      fullFrame.stats.measure = some (openMeasurement inFrame) ∧
      (fullFrame.stats.rate ≠ 0 ∧ fullFrame.stats.rate ≤ fullFrame.stats.divider + 1)) ∧
    (let s := fullFrame.setStats { fullFrame.stats with rate := 3 }
     s.SlotsPartitioned ∧ s.stats.rate ≠ 0 ∧ s.stats.divider + 1 < s.stats.rate) ∧
    ((fullFrame.setStats { fullFrame.stats with rate := 0 }).SlotsPartitioned) ∧
    (fullSmall.SlotsPartitioned ∧ fullSmall.intake.mode = .inFrame ∧
      fullSmall.intake.geometry.h ≤ fullSmall.intake.lineCounter ∧
      fullSmall.stats.measure = some (openMeasurement smallFrame) ∧
      fullSmall.cst.slots[1]? = some (slotIn .filling .free 1) ∧ (slotIn .filling .free 1).record = some smallRecord ∧
      fullSmall.cst.state = .capturing ∧ fullSmall.cst.params.mode ≠ .stream ∧
      (aecEof ((fullSmall.setIntake { fullSmall.intake with mode := .waiting }).setStats
        { fullSmall.stats with measure := none })
          (some ⟨zoneMeans (openMeasurement smallFrame), highlightMask (openMeasurement smallFrame)⟩)).2.1 = true) ∧
    (State.reset.intake.timer = none) ∧ (waiting.intake.timer.isSome = true ∧ waiting.intake.mode ≠ .inFrame) ∧
    (inFrame.intake.timer.isSome = true ∧ inFrame.intake.mode = .inFrame) :=
  ⟨by decide, by decide, ⟨freeSlots_partitioned _ rfl rfl, by decide, by decide, rfl, by decide⟩,
    ⟨freeSlots_partitioned _ rfl rfl, by decide⟩, freeSlots_partitioned _ rfl rfl,
    ⟨fullSmall_partitioned, rfl, by decide, rfl, rfl, rfl, rfl, by decide, by decide +kernel⟩, by decide⟩

/-- A smaller geometry, allowed and within a slot. -/
def smallGeometry : Geometry := ⟨640, 480, 320, 240⟩

/-- PATH_SETUP arguments with a geometry and boundaries. -/
def pathArgs (g : Geometry) (b1 b2 : Nat) : PathSetupArgs := ⟨g, ⟨64, 64, 64, 2000⟩, b1, b2, 4000, 5⟩

theorem witness_PathAndStatsSetup :
    State.reset.turnOf (.statsSetup 1 (.args ⟨65535, 255, 16⟩)) ∧
    (State.reset.turnOf (.pathSetup 1 (.args (pathArgs smallGeometry 1 2))) ∧ geometryAllowed smallGeometry = true ∧
      smallGeometry.outW * smallGeometry.outH * 3 / 2 ≤ 268435456 / State.reset.cst.slots.length ∧
      max 1 (min 2048 1) < max 1 (min 2048 2) ∧ max 1 (min 2048 2) < max 1 (min 2048 4000) ∧
      State.reset.intake.mode = .stopped) ∧
    (waiting.turnOf (.pathSetup 1 (.args (pathArgs resetGeometry 1 2))) ∧ resetGeometry = waiting.intake.geometry) ∧
    (640 - 322) % 4 ≠ 0 ∧
    (let s := State.reset.setCst { resetCst false false with slots := List.replicate 24 freeSlot }
     s.turnOf (.pathSetup 1 (.args (pathArgs resetGeometry 1 2))) ∧
      ¬ resetGeometry.outW * resetGeometry.outH * 3 / 2 ≤ 268435456 / s.cst.slots.length) ∧
    max 1 (min 2048 2) ≤ max 1 (min 2048 2) ∧ max 1 (min 2048 4000) ≤ max 1 (min 2048 3000) ∧
    (waiting.turnOf (.pathSetup 1 (.args (pathArgs smallGeometry 1 2))) ∧ waiting.intake.mode ≠ .stopped ∧
      smallGeometry ≠ waiting.intake.geometry) :=
  ⟨rfl, ⟨rfl, by decide⟩, ⟨rfl, rfl⟩, by decide, ⟨rfl, by decide⟩, by decide, by decide, rfl, by decide⟩

/-- An image being fetched while frames flow, a triggered capture in GATING with a withheld S1 release, and a scan. -/
def fetching : State :=
  (waiting.setCst { resetCst false false with
    slots := [freeSlot, slotIn .sending .ready 2], fetch := some ⟨3, 1, 2, none, true, 2, false, false⟩
    state := .gating, withheldRelease := true }).setAfc { resetAfc with
      mode := .single, state := .coarse, scan := some ⟨600, 1100, [600, 648], 1, [], none, none, 0, 0, .sof, 0⟩ }

theorem fetching_partitioned : fetching.SlotsPartitioned := by
  refine ⟨by decide, by decide, by decide, ?_, by decide, fun p h _ => by cases h⟩
  intro i x h hs
  match i, h with
  | 0, h => cases h; cases hs
  | 1, h => cases h; exact ⟨.inl rfl, _, rfl, rfl, rfl, rfl⟩

theorem witness_PathStartsAndStops :
    (State.reset.turnOf (.pathStart 1 (.args ())) ∧ State.reset.intake.mode = .stopped) ∧
    (waiting.turnOf (.pathStart 1 (.args ())) ∧ waiting.intake.mode ≠ .stopped) ∧ waiting.intake.mode = .waiting ∧
    (State.reset.turnOf (.pathStop 1 (.args ())) ∧ State.reset.intake.mode = .stopped) ∧
    (inFrame.turnOf (.pathStop 1 (.args ())) ∧ inFrame.intake.mode ≠ .stopped ∧ inFrame.lnk.tables.length = 14 ∧
      inFrame.SlotsPartitioned ∧ inFrame.aec.manual = none) ∧
    (fetching.turnOf (.pathStop 1 (.args ())) ∧ fetching.intake.mode ≠ .stopped ∧ fetching.lnk.tables.length = 14 ∧
      fetching.SlotsPartitioned ∧ fetching.cst.fetch.isSome = true ∧ sendingFinal fetching.lnk = false ∧
      fetching.cst.withheldRelease = true ∧ fetching.cst.state = .gating ∧ fetching.afc.state = .coarse) :=
  ⟨⟨rfl, rfl⟩, ⟨rfl, by decide⟩, rfl, ⟨rfl, rfl⟩, ⟨rfl, by decide, by decide, freeSlots_partitioned _ rfl rfl, rfl⟩,
    rfl, by decide, by decide, fetching_partitioned, by decide⟩

/-! ### Witnesses: exposure -/

/-- The tables that AE_MODE needs, valid, and the iris referenced. -/
def exposureReady : State :=
  (withTables [timeId, againId, sensorWriteId, programLiveId] [(1, 3)]).setLds lens

theorem witness_AeCommandsSetStateAndSettings_mode :
    (exposureReady.turnOf (.aeMode 1 (.args 1)) ∧
      (∀ id ∈ [timeId, againId, sensorWriteId, programLiveId], exposureReady.tableValid id = true) ∧
      exposureReady.lds.iris.valid = true ∧ AeState.run ≠ exposureReady.aec.state) ∧
    (exposureReady.turnOf (.aeMode 1 (.args 3)) ∧ AeState.locked ≠ exposureReady.aec.state) ∧
    (State.reset.turnOf (.aeMode 1 (.args 0)) ∧ AeState.off = State.reset.aec.state) ∧
    (let s := (exposureReady.setAfc { resetAfc with state := .fine }).setAec { resetAec with state := .held }
     s.turnOf (.aeMode 1 (.args 1)) ∧ (s.afc.state = .coarse ∨ s.afc.state = .fine) ∧ AeState.held = s.aec.state) :=
  ⟨⟨rfl, by decide⟩, ⟨rfl, by decide⟩, ⟨rfl, rfl⟩, rfl, by decide⟩

theorem witness_AeCommandsSetStateAndSettings :
    State.reset.turnOf (.aeSetup 1 (.args ⟨192, -49, 9, 0, 65, 9, 49, 33, 16, 7, 4, 3⟩)) ∧
    (State.reset.turnOf (.aeSetup 1 (.args ⟨150, 0, 2, 8, 24, 3, 12, 8, 4, 32, 2, 4⟩)) ∧ 3 < 4) ∧
    (exposureReady.turnOf (.aeManual 1 (.args ⟨2, 48, 40⟩)) ∧ exposureReady.aec.state = .off ∧
      exposureReady.tableValid timeId = true ∧ exposureReady.tableValid againId = true ∧
      exposureReady.tableValid sensorWriteId = true) ∧
    (busy.turnOf (.aeManual 1 (.args ⟨2, 48, 40⟩)) ∧ busy.aec.state ≠ .off) :=
  ⟨rfl, ⟨rfl, by decide⟩, ⟨rfl, by decide⟩, rfl, by decide⟩

/-- AEC at a frame metered with equal weights, in a state, with a mark due or not. -/
def metering (st : AeState) (weight : Nat) (due : Bool) : State :=
  exposureReady.setAec { resetAec with
    state := st, markDue := due, latest := some ⟨1, 2, 3, 0⟩, copy := ⟨List.replicate 192 weight, 4, [3, 4]⟩ }

theorem witness_ExposureAtACompleteFrame :
    let waits := fun a : Aec => (∃ r ∈ a.inFlight, fnLater r.effective 0 = true) ∨ a.awaiting.isSome = true ∨
      a.retry.isSome = true ∨ a.sequence.isSome = true
    let sum := fun a : Aec => ((List.range 192).map fun i => if i ∈ a.copy.subject
      then min 31 (a.copy.weights.getD i 0 + a.copy.boost) else a.copy.weights.getD i 0).sum
    waits (due none (some issue1)).aec ∧ (metering .fault 1 false).aec.state = .fault ∧
    (¬ waits (metering .locked 1 true).aec ∧ (metering .locked 1 true).aec.state = .locked) ∧
    (let s := ((metering .off 1 false).setAfc { resetAfc with state := .fine }).setAec
       { (metering .off 1 false).aec with manual := some ⟨1, 2, 3, 0⟩ }
     ¬ waits s.aec ∧ s.aec.state = .off ∧ s.afc.state = .fine ∧ s.aec.manual = some ⟨1, 2, 3, 0⟩ ∧ s.aec.latest = s.aec.manual ∧
      s.aec.markDue = false) ∧
    (let s := metering .off 1 true
     ¬ waits s.aec ∧ s.aec.state = .off ∧ s.afc.state = .idle ∧ s.aec.manual = none) ∧
    (let s := (metering .off 1 false).setAec { (metering .off 1 false).aec with manual := some ⟨1, 2, 3, 4⟩ }
     ¬ waits s.aec ∧ s.aec.state = .off ∧ s.afc.state = .idle ∧ s.aec.manual = some ⟨1, 2, 3, 4⟩) ∧
    (¬ waits (metering .run 1 false).aec ∧ (metering .run 1 false).aec.state = .run ∧
      sum { (metering .run 0 false).aec with copy := ⟨[], 0, []⟩ } = 0) ∧
    (¬ waits (metering .held 1 false).aec ∧ (metering .held 1 false).aec.state = .held ∧
      (metering .held 1 false).aec.irisMoved = false ∧ sum (metering .held 1 false).aec ≠ 0) ∧
    (¬ waits (metering .run 1 false).aec ∧ (metering .run 1 false).aec.irisMoved = false ∧
      sum (metering .run 1 false).aec ≠ 0) := by
  decide +kernel

theorem witness_FrameEndsCompleteOrTruncated_truncated :
    let waits := fun a : Aec => (∃ r ∈ a.inFlight, fnLater r.effective 0 = true) ∨ a.awaiting.isSome = true ∨
      a.retry.isSome = true ∨ a.sequence.isSome = true
    waits (due none (some issue1)).aec ∧ (metering .fault 1 false).aec.state = .fault ∧
    (¬ waits (metering .run 1 false).aec ∧ (metering .run 1 false).aec.state = .run) ∧
    (let s := metering .locked 1 true
     ¬ waits s.aec ∧ s.aec.state = .locked ∧ s.aec.latest = some ⟨1, 2, 3, 0⟩ ∧ s.aec.markDue = true ∧ s.afc.state = .idle) ∧
    (let s := metering .off 1 false
     ¬ waits s.aec ∧ s.aec.state = .off ∧ s.aec.manual = none ∧ s.aec.markDue = false) ∧
    (let s := (metering .off 1 false).setAec { (metering .off 1 false).aec with manual := some ⟨1, 2, 3, 0⟩ }
     ¬ waits s.aec ∧ s.aec.state = .off ∧ s.aec.manual = some ⟨1, 2, 3, 0⟩ ∧ s.aec.markDue = false ∧
      s.aec.latest = some ⟨1, 2, 3, 0⟩) ∧
    (let s := (metering .off 1 false).setAec { (metering .off 1 false).aec with manual := some ⟨1, 2, 3, 4⟩ }
     let t := s.setAfc { resetAfc with state := .coarse }
     ¬ waits s.aec ∧ s.aec.state = .off ∧ s.aec.manual = some ⟨1, 2, 3, 4⟩ ∧ s.aec.latest ≠ some ⟨1, 2, 3, 4⟩ ∧
      s.afc.state = .idle ∧ t.afc.state = .coarse) := by
  decide +kernel

/-- A write sequence of n items in progress, its first item on the bus. -/
def writing (items : List SensorItem) (st : AeState) (failures : Nat) : State :=
  State.reset.setAec { resetAec with
    state := st, failures := failures, bus := some ⟨⟨16, 1, 5⟩, true⟩
    sequence := some ⟨⟨⟨1, 2, 3, 0⟩, .live, none⟩, items, false⟩ }

theorem witness_SensorWritesCompleteOrFail :
    State.reset.aec.bus = none ∧
    (let s := State.reset.setAec { resetAec with bus := some ⟨⟨16, 1, 5⟩, false⟩ }
     s.aec.bus = some ⟨⟨16, 1, 5⟩, false⟩ ∧ s.aec.sequence = none) ∧
    (let s := (writing [⟨16, 1, 5⟩] .run 0).setAec { (writing [⟨16, 1, 5⟩] .run 0).aec with bus := some ⟨⟨16, 9, 9⟩, false⟩ }
     s.aec.bus = some ⟨⟨16, 9, 9⟩, false⟩ ∧ ∃ w, s.aec.sequence = some w ∧ w.items = [⟨16, 1, 5⟩]) ∧
    (let s := writing [⟨16, 1, 5⟩, ⟨16, 2, 6⟩] .run 0
     s.aec.bus = some ⟨⟨16, 1, 5⟩, true⟩ ∧ ∃ w, s.aec.sequence = some w ∧ w.items = [⟨16, 1, 5⟩, ⟨16, 2, 6⟩]) ∧
    (let s := writing [⟨16, 1, 5⟩] .run 0
     s.aec.state = .run ∧ ∃ w, s.aec.sequence = some w ∧ w.items = [⟨16, 1, 5⟩]) ∧
    (let s := writing [⟨16, 1, 5⟩] .off 0
     s.aec.state ≠ .run ∧ s.aec.state ≠ .held ∧ 1 ≤ s.aec.params.latency ∧ s.aec.params.latency ≤ 3 ∧
      ∃ w, s.aec.sequence = some w ∧ w.items = [⟨16, 1, 5⟩] ∧ w.retry = false ∧ s.aec.failures = 0) ∧
    (let s := writing [⟨16, 1, 5⟩] .run 1
     s.cnd.conditions.length = 25 ∧ s.aec.bus = some ⟨⟨16, 1, 5⟩, true⟩ ∧ 1 ≤ s.aec.failures) :=
  ⟨rfl, ⟨rfl, rfl⟩, ⟨rfl, _, rfl, rfl⟩, ⟨rfl, _, rfl, rfl⟩, ⟨rfl, _, rfl, rfl⟩, ⟨by decide, by decide, by decide, by decide, _, rfl, rfl, rfl, rfl⟩,
    rfl, rfl, by decide⟩

/-! ### Witnesses: lens drive -/

/-- LENS_SETUP arguments with a home position and one class. -/
def lensArgs (home park : Nat) : LensSetupArgs := ⟨⟨0, 1, 2, 2, 3, 3⟩, park, 3, 2, 40, 8, home, 4⟩

/-- MONITOR on a locked focus. -/
def locked : State :=
  (withLens lens).setAfc { resetAfc with
    mode := .single, state := .locked, primary := some 0, lock := some ⟨500, 100, 3, true⟩ }

theorem witness_LensSetupWritesParameters :
    (let s := withLens { lens with running := some (move .zoom .zoom 2 704) }
     s.turnOf (.lensSetup 1 (.args (lensArgs 256 1))) ∧ s.lds.noMoves = false) ∧
    ((withLens lens).turnOf (.lensSetup 1 (.args (lensArgs 256 4))) ∧ (withLens lens).lds.noMoves = true ∧
      (withLens lens).lds.reference = none ∧ 3 < (lensArgs 256 4).parkClass) ∧
    (locked.turnOf (.lensSetup 1 (.args (lensArgs 256 3))) ∧ locked.lds.noMoves = true ∧ locked.lds.reference = none ∧
      (∀ src, perSource (lensArgs 256 3).levels src ≤ 3) ∧ (lensArgs 256 3).parkClass ≤ 3 ∧
      min 4095 (lensArgs 256 3).homePos = locked.lds.params.homePos) ∧
    (locked.turnOf (.lensSetup 1 (.args (lensArgs 5000 3))) ∧
      min 4095 (lensArgs 5000 3).homePos ≠ locked.lds.params.homePos ∧ locked.lds.focus.valid = true ∧
      (locked.afc.state ≠ .idle ∧ locked.afc.state ≠ .failed) ∧ locked.cnd.conditions.length = 25) ∧
    ((withLens lens).turnOf (.lensSetup 1 (.args (lensArgs 5000 3))) ∧ (withLens lens).afc.state = .idle) :=
  ⟨⟨rfl, rfl⟩, ⟨rfl, rfl, rfl, by decide⟩, ⟨rfl, rfl, rfl, fun src => by cases src <;> decide, by decide, rfl⟩,
    ⟨rfl, by decide, rfl, by decide, rfl⟩, rfl, rfl⟩

/-- Mode MANUAL on a drive. -/
def manual (l : Lds) : State := (withLens l).setAfc { resetAfc with mode := .manual }

theorem witness_FocusMoveRequestsManualMove :
    ((manual lens).turnOf (.focusMove 1 (.args ⟨600, 4⟩)) ∧ 3 < 4) ∧
    ((withLens lens).turnOf (.focusMove 1 (.args ⟨600, 3⟩)) ∧ (withLens lens).afc.mode ≠ .manual) ∧
    ((manual (resetLds ⟨false, false, false⟩)).afc.mode = .manual ∧
      (manual (resetLds ⟨false, false, false⟩)).lds.focus.valid = false) ∧
    ((manual lens).turnOf (.focusMove 1 (.args ⟨5000, 3⟩)) ∧ (manual lens).afc.mode = .manual ∧
      (manual lens).lds.focus.valid = true ∧ (manual lens).lds.noMoves = true ∧ (manual lens).lds.reference = none ∧
      (manual lens).lds.focus.pos ≠ min 4095 5000) ∧
    (manual lens).lds.focus.pos = min 4095 500 ∧
    (let s := manual { lens with running := some (move .zoom .zoom 2 704) }
     s.turnOf (.focusMove 1 (.args ⟨600, 0⟩)) ∧ s.lds.running = some (move .zoom .zoom 2 704) ∧
      (move .zoom .zoom 2 704).source ≠ .manual ∧ ∀ x ∈ s.lds.stack, x.source ≠ .manual) :=
  ⟨⟨rfl, by decide⟩, ⟨rfl, by decide⟩, ⟨rfl, rfl⟩, ⟨rfl, rfl, rfl, rfl, rfl, by decide⟩, rfl, rfl, rfl, by decide, by decide⟩

/-- A LENS_REFERENCE in progress. -/
def referencing (m : Motor) (n : Nat) (k stop : Bool) : State :=
  withLens { lens with reference := some ⟨m, n, k, stop⟩ }

theorem witness_ReferenceFindsPositions :
    ((withLens lens).turnOf (.lensReference 1 (.args ())) ∧ (withLens lens).lds.reference = none ∧
      (withLens lens).lds.park = none ∧ (withLens lens).aec.state = .off ∧ (withLens lens).afc.state = .idle ∧
      (withLens lens).zmc.mode = .idle ∧ (withLens lens).lds.noMoves = true) ∧
    (let s := referencing .iris 5 true false
     s.turnOf (.lensReference 1 (.args ())) ∧ s.lds.reference.isSome = true) ∧
    (exposureReady.setAec { resetAec with state := .run }).turnOf (.lensReference 1 (.args ())) ∧
    State.reset.lds.reference = none ∧
    (referencing .iris 5 true true).lds.reference = some ⟨.iris, 5, true, true⟩ ∧
    (referencing .iris 5 true true).lds.running = none ∧ (referencing .iris 5 true true).lds.noMoves = true ∧
    ((referencing .iris 58 true false).lds.reference = some ⟨.iris, 58, true, false⟩ ∧ 58 + 1 < 60 ∧ 60 ≤ 59 + 1) ∧
    ((referencing .focus 4198 true false).lds.reference = some ⟨.focus, 4198, true, false⟩ ∧ 4198 + 1 < 4200 ∧
      4200 ≤ 4199 + 1) ∧
    ((referencing .zoom 2198 false false).lds.reference = some ⟨.zoom, 2198, false, false⟩ ∧ 2198 + 1 < 2200 ∧
      2200 ≤ 2199 + 1 ∧ (referencing .zoom 2198 false false).lds.noMoves = true) :=
  ⟨⟨rfl, rfl, rfl, rfl, rfl, rfl, rfl⟩, ⟨rfl, rfl⟩, rfl, rfl, rfl, rfl, rfl, ⟨rfl, by decide⟩, ⟨rfl, by decide⟩, rfl,
    by decide⟩

/-- The drive referenced with its parts at given positions. -/
def lensAt (z f i : Nat) : State := withLens { lens with zoom := ⟨z, true⟩, focus := ⟨f, true⟩, iris := ⟨i, true⟩ }

/-- A zoom in hand from 700 toward 2,048, with ZMC in a mode. -/
def zooming (mode : ZoomMode) : State :=
  (withLens { lens with running := some (move .zoom .zoom 2 704) }).setZmc
    ⟨mode, some ⟨2048, false, 704⟩, some ⟨true, 1⟩, true, false⟩

theorem witness_ParkRunsAndStops :
    (withLens { lens with running := some (move .manual .focus 3 600) }).turnOf (.lensStop 1 (.args ())) ∧
    ((lensAt 700 500 41).turnOf (.lensPark 1 (.args ())) ∧ (lensAt 700 500 41).lds.reference = none ∧
      (lensAt 700 500 41).lds.park = none ∧ (lensAt 700 500 41).aec.state = .off ∧ (lensAt 700 500 41).afc.state = .idle ∧
      (lensAt 700 500 41).zmc.mode = .idle ∧ (lensAt 700 500 41).lds.noMoves = true ∧
      (lensAt 700 500 41).lds.params.homePos ≤ 4095 ∧ (lensAt 700 500 41).lds.iris.pos ≠ 0 ∧
      (lensAt 700 500 41).lds.zoom.valid = true ∧ (lensAt 700 500 41).lds.focus.valid = true ∧
      (lensAt 700 500 41).lds.iris.valid = true) ∧
    (State.reset.turnOf (.lensPark 1 (.args ())) ∧ State.reset.lds.noMoves = true ∧ State.reset.lds.zoom.valid = false) ∧
    ((lensAt 700 100 0).turnOf (.lensPark 1 (.args ())) ∧ (lensAt 700 100 0).lds.iris.pos = 0 ∧
      (lensAt 700 100 0).lds.focus.pos < (lensAt 700 100 0).lds.params.homePos) ∧
    ((lensAt 700 300 0).lds.params.homePos < (lensAt 700 300 0).lds.focus.pos) ∧
    ((lensAt 5 256 0).lds.focus.pos = (lensAt 5 256 0).lds.params.homePos ∧ (lensAt 5 256 0).lds.zoom.pos ≠ 0) ∧
    (let s := withLens { lens with park := some ⟨.iris, false⟩ }
     s.turnOf (.lensPark 1 (.args ())) ∧ s.lds.park.isSome = true) ∧
    (let s := zooming .moving
     s.turnOf (.lensPark 1 (.args ())) ∧ s.lds.reference = none ∧ s.lds.park = none ∧ s.zmc.mode ≠ .idle) ∧
    ((lensAt 0 256 0).turnOf (.lensPark 1 (.args ())) ∧ (lensAt 0 256 0).lds.iris.pos = 0 ∧
      (lensAt 0 256 0).lds.focus.pos = (lensAt 0 256 0).lds.params.homePos ∧ (lensAt 0 256 0).lds.zoom.pos = 0) :=
  ⟨rfl, ⟨rfl, by decide⟩, ⟨rfl, by decide⟩, ⟨rfl, by decide⟩, by decide, by decide, ⟨rfl, rfl⟩, ⟨rfl, by decide⟩, rfl, by decide⟩

theorem witness_StepBoundaryRunsTheMove :
    State.reset.lds.running = none ∧
    (let m : Move := { move .manual .focus 3 600 with stop := true }
     let s := withLens { lens with running := some m }
     s.lds.running = some m ∧ m.source = .manual ∧ m.stop = true ∧ s.lds.stack = [] ∧
      (∀ src, s.lds.slots.get src = none) ∧ s.lds.reference = none) ∧
    (let m := move .manual .focus 3 600
     let r : Request := ⟨.iris, 24, 1⟩
     let s := withLens { lens with running := some m, slots := { noSlots with iris := some r } }
     s.lds.running = some m ∧ m.stop = false ∧ s.lds.slots.get .iris = some r ∧
      (∀ n, n ≠ .iris → s.lds.slots.get n = none) ∧ s.lds.level .iris < m.level ∧ (s.lds.motor r.motor).pos ≠ r.target) ∧
    (let m := move .zoom .zoom 2 704
     let s := withLens { lens with running := some m }
     s.lds.running = some m ∧ m.stop = false ∧ m.retarget = false ∧
      (∀ src r, s.lds.slots.get src = some r → m.level ≤ s.lds.level src) ∧ (s.lds.motor m.motor).pos ≠ m.dest) ∧
    (let m := move .manual .focus 3 501
     let s := withLens { lens with running := some m }
     s.lds.running = some m ∧ (s.lds.motor m.motor).pos + 1 = m.dest ∧ m.dest = m.target ∧ s.lds.stack = [] ∧
      s.cnd.conditions.length = 25) := by
  refine ⟨rfl, ⟨rfl, rfl, rfl, rfl, ?_, rfl⟩, ⟨rfl, rfl, rfl, ?_, by decide, by decide⟩, ⟨rfl, rfl, rfl, ?_, by decide⟩, by decide⟩
  · intro src; cases src <;> rfl
  · intro n hn; cases n <;> first | rfl | exact absurd rfl hn
  · intro src r h; cases src <;> cases h

theorem witness_StepBoundaryRunsTheMove_grant :
    (withLens lens).lds.noMoves = true ∧ (zooming .moving).lds.running.isSome = true ∧
    (let r : Request := ⟨.focus, 600, 1⟩
     let l := { lens with slots := { noSlots with af := some r, manual := some ⟨.focus, 9, 0⟩ } }
     l.running = none ∧ l.reference = none ∧ l.slots.get .af = some r ∧
      (∀ n q, l.slots.get n = some q → l.level .af < l.level n ∨
        (l.level .af = l.level n ∧ sourceOrder.idxOf .af ≤ sourceOrder.idxOf n)) ∧
      (∀ y ∈ l.stack.head?, l.level .af < y.level) ∧ (l.motor r.motor).pos ≠ r.target) ∧
    (let l := { lens with slots := { noSlots with af := some ⟨.focus, 500, 1⟩ } }
     l.slots.get .af = some ⟨.focus, 500, 1⟩ ∧ (l.motor .focus).pos = 500) ∧
    (let y : Suspended := ⟨.manual, .focus, 3, 600, 1, .main, 600, 499, false⟩
     let l := { lens with stack := [y] }
     l.running = none ∧ l.reference = none ∧ l.stack = [y] ∧ (∀ n q, l.slots.get n = some q → y.level ≤ l.level n) ∧
      (l.motor y.motor).pos ≠ y.posAt ∧ (l.motor y.motor).pos ≠ y.target) ∧
    (let y : Suspended := ⟨.manual, .focus, 3, 500, 1, .main, 500, 500, false⟩
     (lens.motor y.motor).pos = y.target ∧ y.target = y.dest ∧ (lens.motor y.motor).pos = y.posAt) := by
  refine ⟨rfl, rfl, ⟨rfl, rfl, rfl, ?_, by decide, by decide⟩, ⟨rfl, rfl⟩, ⟨rfl, rfl, rfl, ?_, by decide, by decide⟩, by decide⟩
  · intro n q h
    cases n <;> cases h <;> decide
  · intro n q h; cases n <;> cases h

theorem witness_StepBoundaryRunsTheMove_step :
    (let m := { move .manual .focus 3 501 with stop := true }
     let s := withLens { lens with running := some m }
     s.lds.running = some m ∧ m.stop = true ∧ m.mute = false ∧ (s.lds.motor m.motor).pos + 1 = m.dest ∧ m.dest = m.target ∧
      ∀ src, s.lds.slots.get src = none) ∧
    (let m := { move .manual .focus 3 500 with retarget := true }
     m.stop = false ∧ m.retarget = true ∧ (lens.motor m.motor).pos = m.target) ∧
    (let m := { move .manual .focus 3 400 with retarget := true }
     m.stop = false ∧ m.retarget = true ∧ (lens.motor m.motor).pos ≠ m.target) ∧
    (let m := move .manual .focus 3 600
     let s := withLens { lens with running := some m }
     let x : LensSample := ⟨true, false, false⟩
     s.lds.running = some m ∧ m.stop = false ∧ m.retarget = false ∧ ¬ (x.home = s.lds.latched.home ∨
      distance (max 500 501) s.lds.params.homePos ≤ s.lds.params.homeTol)) := by
  refine ⟨⟨rfl, rfl, rfl, rfl, rfl, ?_⟩, by decide⟩
  intro src; cases src <;> rfl

/-! ### Witnesses: focus -/

/-- AF_SETUP arguments: mode, selected window and fine step. -/
def afArgs (mode selected fine : Nat) : AfSetupArgs :=
  ⟨mode, 0, selected, ⟨1, 6, 4, 4, 4⟩ :: List.replicate 7 ⟨0, 0, 0, 1, 1⟩, 48, fine, 20000, 6, 12, 30⟩

theorem witness_AfSetupWritesParameters :
    (busy.turnOf (.afSetup 1 (.args (afArgs 1 0 8))) ∧ busy.afc.state = .coarse) ∧
    (State.reset.turnOf (.afSetup 1 (.args (afArgs 1 0 200))) ∧ State.reset.afc.state ≠ .coarse ∧
      State.reset.afc.state ≠ .fine ∧ State.reset.afc.state ≠ .settle ∧ State.reset.aec.state ≠ .held ∧
      (let a := afArgs 1 0 200
       a.mode ≤ 3 ∧ a.selection ≤ 1 ∧ a.selected ≤ 7 ∧ (∀ k < 8, (a.windows.getD k ⟨0, 0, 0, 1, 1⟩).enabled ≤ 1) ∧
         (a.windows.getD a.selected ⟨0, 0, 0, 1, 1⟩).enabled = 1)) ∧
    (let a := afArgs 4 0 8
     State.reset.turnOf (.afSetup 1 (.args a)) ∧ State.reset.afc.state = .idle ∧ 3 < a.mode) :=
  ⟨⟨rfl, rfl⟩, ⟨rfl, by decide⟩, rfl, by decide⟩

/-- A state ready for AF_START: SINGLE, with the zoom table of section 6.5.1 and the focus at a position. -/
def focusReady (p : Nat) (mode : AfMode) (st : AfState) (ae : AeState) : State :=
  (((withTables [zoomId] figureZoomTable).setLds { lens with focus := ⟨p, true⟩ }).setAfc { resetAfc with
    mode := mode, state := st }).setAec { resetAec with state := ae }

theorem witness_AfStartAndCancel :
    (busy.turnOf (.afCancel 1 (.args ())) ∧ busy.afc.state = .coarse ∧ busy.aec.state = .held) ∧
    (State.reset.turnOf (.afCancel 1 (.args ())) ∧ State.reset.afc.state = .idle ∧ State.reset.aec.state ≠ .held) ∧
    (locked.turnOf (.afCancel 1 (.args ())) ∧ locked.afc.state = .locked) ∧
    (State.reset.turnOf (.afStart 1 (.args ())) ∧ State.reset.afc.mode = .off) ∧
    (let s := focusReady 500 .single .settle .off
     s.turnOf (.afStart 1 (.args ())) ∧ s.afc.mode ≠ .off ∧ s.afc.mode ≠ .manual ∧ s.afc.state.inScan = true) ∧
    (let s := (focusReady 500 .single .idle .run).setLnk resetLnk
     s.turnOf (.afStart 1 (.args ())) ∧ s.afc.mode = .single ∧ s.afc.state.inScan = false ∧ s.zmc.mode = .idle ∧
      s.tableValid zoomId = false) ∧
    (let s := (focusReady 500 .single .idle .run).setLds { lens with focus := ⟨500, false⟩ }
     s.turnOf (.afStart 1 (.args ())) ∧ s.tableValid zoomId = true ∧ s.lds.focus.valid = false) ∧
    (let s := (focusReady 500 .single .idle .run).setAfc { resetAfc with
      mode := .single, windows := List.replicate 8 ⟨false, 0, 0, 1, 1⟩ }
     s.turnOf (.afStart 1 (.args ())) ∧ s.tableValid zoomId = true ∧ s.lds.focus.valid = true ∧ s.lds.zoom.valid = true ∧
      ∀ w ∈ s.afc.windows.take 8, w.enabled = false) ∧
    (let s := focusReady 500 .single .idle .run
     s.turnOf (.afStart 1 (.args ())) ∧ s.afc.mode ≠ .off ∧ s.afc.mode ≠ .manual ∧ s.afc.state.inScan = false ∧
      s.zmc.mode = .idle ∧ s.tableValid zoomId = true ∧ s.lds.focus.valid = true ∧ s.lds.zoom.valid = true ∧
      enabledWindows s.afc.windows ≠ [] ∧ 1 ≤ s.afc.coarseStep ∧ s.aec.state ≠ .held ∧ s.lds.noMoves = true ∧
      s.lds.reference = none ∧ s.nearAt s.lds.zoom.pos ≤ 4095 ∧ s.infAt s.lds.zoom.pos ≤ s.nearAt s.lds.zoom.pos ∧
      s.aec.state = .run ∧ s.lds.focus.pos ≠ s.infAt s.lds.zoom.pos) ∧
    (let s := focusReady 656 .single .idle .off
     s.turnOf (.afStart 1 (.args ())) ∧ s.lds.focus.pos = s.infAt s.lds.zoom.pos ∧ s.aec.state ≠ .run) :=
  ⟨⟨rfl, rfl, rfl⟩, ⟨rfl, rfl, by decide⟩, ⟨rfl, rfl⟩, ⟨rfl, rfl⟩, ⟨rfl, by decide⟩, ⟨rfl, by decide⟩, ⟨rfl, by decide⟩,
    ⟨rfl, by decide⟩, ⟨rfl, by decide⟩, rfl, by decide⟩

/-- A scan in a state of AFC, with its phase positions, what it waits for and its discard counter. -/
def scanAt (st : AfState) (positions : List Nat) (next : Nat) (wait : ScanWait) (discards : Nat) : State :=
  (focusReady 600 .single st .off).setAfc { resetAfc with
    mode := .single, state := st, windowSet := [0], history := [⟨600, 5, true, false, [⟨0, 30000, false, 50⟩]⟩]
    scan := some
      { inf := 600, near := 1100, positions := positions, next := next, peaks := [some ⟨25000, 648⟩] ++ List.replicate 7 none
        coarsePeak := some ⟨25000, 648⟩, primary := some 0, drops := 1, discards := discards, wait := wait, lockPos := 600 } }

/-- MONITOR with lock data and the frame in progress as given. -/
def monitoring (st : AfState) (taken : Bool) (count : Nat) (frame : Option FrameTest) : State :=
  (focusReady 600 .continuous st .off).setAfc { resetAfc with
    mode := .continuous, state := st, primary := some 0, lock := some ⟨600, 0, 300, taken⟩, monitorCount := count
    frame := frame }

theorem witness_FocusSamplesFrames :
    (let s := scanAt .coarse [600, 648] 1 .sof 2
     ∃ sc, s.afc.scan = some sc ∧ s.afc.state = .coarse ∧ sc.wait = .sof ∧ sc.discards < 3) ∧
    (let s := scanAt .fine [600] 1 .sof 3
     ∃ sc, s.afc.scan = some sc ∧ s.afc.state = .fine ∧ sc.wait = .sof ∧ 3 ≤ sc.discards) ∧
    (∃ sc, (scanAt .fine [600] 1 .move 0).afc.scan = some sc ∧ sc.wait ≠ .sof ∧ ∀ b, sc.wait ≠ .eof b) ∧
    locked.afc.state = .locked ∧ State.reset.afc.state = .idle ∧
    (let s := scanAt .coarse [600, 648] 1 (.eof true) 0
     let t := s.setIntake { s.intake with mode := .inFrame }
     s.afc.state = .coarse ∧ s.afc.restarts + 1 < 3 ∧
      3 ≤ (s.setAfc { s.afc with restarts := 2 }).afc.restarts + 1 ∧ t.intake.mode = .inFrame ∧
      t.intake.lineCounter < t.intake.geometry.h ∧ t.lds.noMoves = true) ∧
    (let s := scanAt .settle [600] 1 .sof 0
     s.afc.state = .settle ∧ (s.setAec { s.aec with state := .run }).aec.state = .run ∧ s.afc.scan.isSome = true ∧ s.afc.settleCount + 1 < s.afc.settleTimeout ∧
      (s.setAfc { s.afc with settleTimeout := 1 }).afc.settleTimeout ≤ s.afc.settleCount + 1) ∧
    (let s := scanAt .coarse [600, 648] 1 (.eof false) 0
     ∃ sc, s.afc.scan = some sc ∧ sc.wait = .eof false ∧ s.afc.history.length < 64 ∧
      64 ≤ (List.replicate 64 s.afc.history.head?).length) ∧
    (let s := scanAt .fine [600] 1 .lockMove 0
     s.lds.slots.af = none ∧ ∃ sc, s.afc.scan = some sc ∧ sc.wait = .lockMove) ∧
    ((scanAt .fine [600] 1 .move 0).setLds { lens with slots := { noSlots with af := some ⟨.focus, 9, 1⟩ } }).lds.slots.af.isSome = true ∧
    (let s := monitoring .locked false 0 (some ⟨false, false⟩)
     s.afc.state = .locked ∧ s.afc.primary = some 0 ∧ s.afc.lock = some ⟨600, 0, 300, false⟩ ∧
      s.afc.frame = some ⟨false, false⟩ ∧ s.aec.state ≠ .held) ∧
    (monitoring .locked true 0 (some ⟨false, true⟩)).afc.frame ≠ some ⟨false, false⟩ ∧
    (let s := monitoring .monitor true 5 (some ⟨false, false⟩)
     s.afc.state = .monitor ∧ s.afc.lock = some ⟨600, 0, 300, true⟩ ∧ s.afc.frame = some ⟨false, false⟩ ∧
      16 * 0 < 300 * s.afc.monitorRatio ∧ s.afc.monitorFrames ≤ 5 + 1 ∧ 4 + 1 < s.afc.monitorFrames ∧
      s.zmc.mode = .idle ∧ s.tableValid zoomId = true ∧ s.lds.focus.valid = true ∧ s.lds.zoom.valid = true ∧
      enabledWindows s.afc.windows ≠ []) :=
  ⟨⟨_, rfl, rfl, rfl, by decide⟩, ⟨_, rfl, rfl, rfl, by decide⟩, ⟨_, rfl, by decide, fun b h => by cases h⟩, rfl, rfl,
    by decide, by decide, ⟨_, rfl, rfl, by decide, by decide⟩, ⟨rfl, _, rfl, rfl⟩, rfl, by decide, by decide, by decide⟩

theorem witness_FocusScanDecides :
    (1 ≤ 48 ∧ 10 * 48 < distance 600 1100 ∧ distance 600 1100 ≤ 11 * 48 ∧ distance 600 1100 ≤ (12 - 1) * 48) ∧
    (let s := scanAt .coarse [600, 648] 1 (.eof false) 0
     ∃ sc, s.afc.state = .coarse ∧ s.afc.scan = some sc ∧ sc.wait = .eof false ∧ s.afc.history.length < 64 ∧
      (sc.positions[sc.next]? = some 648) ∧ 0 ∈ s.afc.windowSet ∧ sc.peaks.getD 0 none = some ⟨25000, 648⟩ ∧
      s.afc.selection = .selected) ∧
    (let s := scanAt .fine [600] 1 (.eof false) 0
     ∃ sc, s.afc.state = .fine ∧ s.afc.scan = some sc ∧ sc.positions[sc.next]? = none ∧ sc.primary = some 0 ∧
      sc.coarsePeak = some ⟨25000, 648⟩ ∧ ∃ best ∈ s.afc.history, best.fine = true ∧ 3 * 25000 ≤ 4 * entryF best 0 ∧
        ∀ e ∈ s.afc.history, e.fine = true → entryF e 0 < entryF best 0 ∨ (entryF e 0 = entryF best 0 ∧ e.pos ≤ best.pos)) ∧
    (let s := scanAt .coarse [600] 1 (.eof false) 0
     ∃ sc, s.afc.scan = some sc ∧ s.aec.state ≠ .run ∧ sc.peaks.getD 0 none = some ⟨25000, 648⟩ ∧
      s.afc.minFigure ≤ 25000 ∧ s.afc.selection = .selected ∧ s.afc.selected = 0 ∧
      ∀ j r, sc.peaks.getD j none = some r → (s.afc.selection = .selected → j = s.afc.selected) →
        r.pos < 648 ∨ (r.pos = 648 ∧ 0 ≤ j)) := by
  refine ⟨by decide, ⟨_, rfl, rfl, rfl, by decide, rfl, by decide, rfl, rfl⟩,
    ⟨_, rfl, rfl, rfl, rfl, rfl, _, List.mem_singleton.mpr rfl, rfl, by decide, ?_⟩,
    ⟨_, rfl, by decide, rfl, by decide, rfl, rfl, ?_⟩⟩
  · intro e he _
    rw [List.mem_singleton.mp he]
    exact .inr ⟨rfl, Nat.le_refl _⟩
  · intro j r h hj
    have : j = 0 := hj rfl
    subst this
    cases h
    exact .inr ⟨rfl, Nat.zero_le _⟩

theorem witness_QueriesChangeNothing :
    locked.turnOf (.afHistory 1 (.args ())) ∧ locked.turnOf (.statusQuery 1 (.args ())) ∧
    locked.turnOf (.unknownCommand 1 42) := ⟨rfl, rfl, rfl⟩

/-- SETTLE, while frames flow, with the settle counter at n. -/
def settling (n : Nat) : State :=
  waiting.setAfc { resetAfc with
    mode := .single, state := .settle, settleCount := n
    scan := some ⟨600, 1100, [600, 648], 1, [], none, none, 0, 0, .sof, 0⟩ }

/-- GATING, while frames flow, with the gate count at n and a timeout action. -/
def gating (n : Nat) (action : TimeoutAction) : State :=
  waiting.setCst { resetCst false false with
    state := .gating, gateCount := n
    params := { resetStoreParams with mode := .burst, timeoutAction := action } }

theorem witness_TimeoutsExpire :
    State.reset.intake.mode = .stopped ∧ (settling 28).afc.settleCount + 1 < (settling 28).afc.settleTimeout ∧
    ((settling 29).intake.mode ≠ .stopped ∧ (settling 29).afc.state = .settle ∧ (settling 29).aec.settled = false ∧
      (settling 29).afc.settleTimeout ≤ (settling 29).afc.settleCount + 1 ∧ (settling 29).aec.state ≠ .held ∧
      (settling 29).lds.noMoves = true ∧ (settling 29).cnd.conditions.length = 25) ∧
    (gating 14 .proceed).cst.gateCount ≠ (gating 14 .proceed).cst.params.gateTimeout ∧
    ((gating 15 .proceed).intake.mode ≠ .stopped ∧ (gating 15 .proceed).cst.state = .gating ∧ (gating 15 .proceed).aec.frame.mark ≠ some (gating 15 .proceed).cst.trigger ∧
      (gating 15 .proceed).cst.gateCount = (gating 15 .proceed).cst.params.gateTimeout ∧
      (gating 15 .proceed).cst.params.timeoutAction = .proceed) ∧
    ((gating 15 .cancel).intake.mode ≠ .stopped ∧ (gating 15 .cancel).cst.state = .gating ∧ (gating 15 .cancel).aec.frame.mark ≠ some (gating 15 .cancel).cst.trigger ∧
      (gating 15 .cancel).cst.gateCount = (gating 15 .cancel).cst.params.gateTimeout ∧
      (gating 15 .cancel).cst.params.timeoutAction = .cancel ∧ (gating 15 .cancel).cst.withheldRelease = false) := by
  decide

/-! ### Witnesses: zoom -/

theorem witness_ZoomCommandsRunSegments :
    ((withLens lens).turnOf (.zoomTo 1 (.args ⟨3000, 3⟩)) ∧ (withLens lens).zmc.mode = .idle ∧
      (withLens lens).zmc.zoom = none ∧ (withLens lens).lds.zoom.valid = true ∧ (withLens lens).lds.noMoves = true ∧
      (withLens lens).lds.reference = none ∧ (withLens lens).lds.zoom.pos ≤ 2048 ∧
      (withLens lens).lds.zoom.pos ≠ (max 0 (min 2048 (3000 : Int))).toNat) ∧
    (let s := withLens { lens with running := some (move .manual .focus 3 600) }
     s.turnOf (.zoomTo 1 (.args ⟨3000, 3⟩)) ∧ s.lds.running.isSome = true ∧
      (∀ m, s.lds.running = some m → m.source ≠ .zoom) ∧ ∀ x ∈ s.lds.stack, x.source ≠ .zoom) ∧
    ((withLens lens).turnOf (.zoomBy 1 (.args ⟨0, 3⟩)) ∧
      (withLens lens).lds.zoom.pos = (max 0 (min 2048 ((700 : Int) + 0))).toNat) ∧
    ((zooming .stopping).turnOf (.zoomBy 1 (.args ⟨-3000, 3⟩)) ∧ (zooming .stopping).zmc.mode = .stopping) ∧
    (State.reset.turnOf (.zoomTo 1 (.args ⟨5, 3⟩)) ∧ State.reset.zmc.mode ≠ .stopping ∧ State.reset.lds.zoom.valid = false) ∧
    ((zooming .moving).turnOf (.zoomBy 1 (.args ⟨-3000, 3⟩)) ∧ (zooming .moving).zmc.mode = .moving ∧
      (zooming .moving).zmc.zoom = some ⟨2048, false, 704⟩ ∧ (zooming .moving).lds.zoom.valid = true ∧
      (zooming .moving).lds.running = some (move .zoom .zoom 2 704) ∧ (move .zoom .zoom 2 704).source = .zoom ∧
      (move .zoom .zoom 2 704).stop = false ∧
      segmentEnd 700 (max 0 (min 2048 ((2048 : Int) + max (-2048) (min 2048 (-3000))))).toNat ≠ 704) ∧
    ((zooming .moving).turnOf (.zoomTo 1 (.args ⟨1000, 1⟩)) ∧ segmentEnd 700 1000 = 704 ∧
      (zooming .moving).zmc.travel = some ⟨true, 1⟩ ∧ (zooming .moving).lds.running.isSome = true) ∧
    (let x : Suspended := ⟨.zoom, .zoom, 2, 704, 1, .main, 704, 700, false⟩
     let s := (zooming .moving).setLds { lens with running := some (move .iris .iris 1 20), stack := [x] }
     (∀ m, s.lds.running = some m → m.source ≠ .zoom) ∧ ∃ x ∈ s.lds.stack, x.source = .zoom) ∧
    (State.reset.turnOf (.zoomSetup 1 (.args 2)) ∧ 1 < 2) :=
  ⟨⟨rfl, by decide⟩, ⟨rfl, rfl, fun m h => by cases h; decide, by decide⟩, ⟨rfl, by decide⟩, ⟨rfl, rfl⟩, ⟨rfl, by decide⟩,
    ⟨rfl, by decide⟩, ⟨rfl, by decide⟩, ⟨fun m h => by cases h; decide, by decide⟩, rfl, by decide⟩

theorem witness_ZoomCommandsRunSegments_stop :
    (State.reset.turnOf (.zoomStop 1 (.args ())) ∧ State.reset.zmc.mode ≠ .moving ∧ State.reset.lds.noMoves = true) ∧
    ((zooming .moving).turnOf (.zoomStop 1 (.args ())) ∧ (zooming .moving).zmc.mode = .moving ∧
      (zooming .moving).lds.slots.zoom = none ∧ (∀ x ∈ (zooming .moving).lds.stack, x.source ≠ .zoom) ∧
      (zooming .moving).lds.running.isSome = true) ∧
    (let s := (zooming .moving).setLds { lens with
      running := some (move .iris .iris 1 20), slots := { noSlots with zoom := some ⟨.zoom, 704, 1⟩ } }
     s.turnOf (.zoomStop 1 (.args ())) ∧ s.zmc.mode = .moving ∧ s.lds.slots.zoom.isSome = true) ∧
    ((zooming .moving).lds.zoom.pos ≠ 2048 ∧ (zooming .moving).lds.zoom.pos = (⟨700, false, 704⟩ : ZoomInHand).target) ∧
    (withLens lens).zmc.mode = .idle ∧
    (State.reset.afc.rescanAfterZoom = false ∧ State.reset.afc.state.inScan = false) ∧
    (let s := (focusReady 500 .continuous .monitor .off).setAfc { resetAfc with
      mode := .continuous, state := .monitor, rescanAfterZoom := true }
     s.afc.rescanAfterZoom = true ∧ s.tableValid zoomId = true ∧ enabledWindows s.afc.windows ≠ []) ∧
    (busy.afc.state.inScan = true ∧ busy.aec.state = .held) :=
  ⟨⟨rfl, by decide⟩, ⟨rfl, by decide⟩, ⟨rfl, rfl, rfl⟩, by decide, rfl, by decide, by decide, by decide⟩

/-! ### Witnesses: motion -/

/-- STAB_SETUP arguments out of their ranges, with a combination. -/
def stabArgs (combination : Nat) : StabSetupArgs := ⟨99, 13, 5, 40000, 0, combination, 1, 0, 1, 2, 1024, 5000, 16, 65535⟩

theorem witness_StabCommandsRecentreAndSet :
    ((withTables [zoomId] []).turnOf (.stabMode 1 (.args 1)) ∧ (withTables [zoomId] []).tableValid zoomId = true) ∧
    (State.reset.turnOf (.stabMode 1 (.args 2)) ∧ State.reset.tableValid zoomId = false) ∧
    (State.reset.turnOf (.stabMode 1 (.args 3)) ∧ 2 < 3) ∧ State.reset.turnOf (.stabCenter 1 (.args ())) ∧
    (State.reset.turnOf (.stabSetup 1 (.args (stabArgs 2))) ∧ 1 < (stabArgs 2).combination) ∧
    (State.reset.turnOf (.stabSetup 1 (.args (stabArgs 1))) ∧ (stabArgs 1).combination ≤ 1 ∧ (stabArgs 1).yawEnable ≤ 1 ∧
      (stabArgs 1).pitchEnable ≤ 1) :=
  ⟨⟨rfl, rfl⟩, ⟨rfl, rfl⟩, ⟨rfl, by decide⟩, rfl, ⟨rfl, by decide⟩, rfl, by decide⟩

/-- OPTICAL with a yaw angle of 4,400,000, a target before and an open blur window. -/
def steadying : State :=
  (withTables [zoomId] ((80, 30) :: [(82, 31), (83, 64)])).setLds lens |>.setMou { resetMou true with
    mode := .optical, yaw := { resetAxis with angle := 4400000 }, lastSeq := some 255, faultCount := 3
    targetBefore := some ⟨-2047, 0⟩, window := some ⟨3, 3, 0, 0, 0⟩ }

theorem witness_RateSampleUpdatesAxes :
    (steadying.mou.lastSeq = some 255 ∧ 255 < 256) ∧
    ((∃ last, steadying.mou.lastSeq = some last ∧ 0 = (last + 1) % 256) ∧ steadying.mou.mode = .optical) ∧
    State.reset.mou.lastSeq = none ∧
    (8 = (255 + 1 + 8) % 256 ∧ 1 ≤ 8 ∧ 8 ≤ 254) ∧ (9 = (255 + 1 + 9) % 256 ∧ 8 < 9 ∧ 254 = (255 + 1 + 254) % 256) :=
  ⟨⟨rfl, by decide⟩, ⟨⟨_, rfl, rfl⟩, rfl⟩, rfl, by decide, by decide⟩

theorem witness_ReadbackAndStrobe :
    (∀ a, State.reset.mou.mode = .optical → State.reset.mou.targetBefore ≠ some a) ∧
    (steadying.mou.mode = .optical ∧ steadying.mou.targetBefore = some ⟨-2047, 0⟩ ∧
      steadying.mou.params.shiftTol < ((-1982 : Int) - -2047).natAbs ∧ ¬ steadying.mou.params.shiftTol < ((-1983 : Int) - -2047).natAbs ∧
      steadying.mou.params.shiftFaultCount ≤ min 15 (steadying.mou.faultCount + 1)) ∧
    State.reset.mou.faultCount + 1 < State.reset.mou.params.shiftFaultCount ∧
    steadying.mou.strobe = true ∧ State.reset.mou.strobe = false ∧
    (let s := State.reset.setMou (resetMou true); s.mou.strobe = true ∧ s.mou.window = none) ∧
    steadying.mou.window = some ⟨3, 3, 0, 0, 0⟩ :=
  ⟨fun _ h => (by cases h), by decide⟩

/-! ### Witnesses: capture store -/

/-- STORE_SETUP arguments: mode and slot count. -/
def storeArgs (mode slots : Nat) : StoreSetupArgs := ⟨mode, slots, 0, 0, 40, 7, 15, 0, 31, 16, 63, 0, 3⟩

/-- Two slots in given states, with store parameters. -/
def store (x y : Slot) (p : StoreParams) (st : CaptureState) : State :=
  State.reset.setCst { resetCst false false with slots := [x, y], params := p, state := st }

/-- The store parameters of a mode. -/
def inMode (m : StoreMode) : StoreParams := { resetStoreParams with mode := m }

theorem witness_ExposureAndStoreAtFrameStart_store :
    State.reset.cst.state = .idle ∧
    ((store freeSlot freeSlot (inMode .pretrigger) .armed).cst.state = .armed ∧
      (store freeSlot freeSlot (inMode .stream) .capturing).cst.state = .capturing) ∧
    (let s := (gating 3 .proceed).setAec { resetAec with frame := { noExposure with mark := some 0, settled := true } }
     s.cst.state = .gating ∧ s.aec.frame.mark = some s.cst.trigger ∧ s.aec.frame.settled = true ∧
      s.cst.params.gate = ⟨true, false, false⟩) ∧
    ((gating 3 .proceed).aec.frame.mark ≠ some (gating 3 .proceed).cst.trigger ∧
      (gating 3 .proceed).cst.gateCount ≠ (gating 3 .proceed).cst.params.gateTimeout) ∧
    ((gating 15 .proceed).cst.gateCount = (gating 15 .proceed).cst.params.gateTimeout ∧
      (gating 15 .proceed).cst.params.timeoutAction = .proceed ∧ (gating 15 .cancel).cst.params.timeoutAction = .cancel) ∧
    (let s := store (slotIn .ready .free 1) freeSlot (inMode .stream) .capturing
     s.cst.slots[1]? = some freeSlot ∧ ∀ y ∈ s.cst.slots.take 1, y.state ≠ .free) ∧
    (let s := store (slotIn .ready .free 1) (slotIn .held .free 2) { inMode .stream with overflow := .overwrite } .capturing
     (∀ x ∈ s.cst.slots, x.state ≠ .free) ∧ (readyList s.cst.slots).find? (fun i =>
      decide ((s.cst.slots.getD i freeSlot).state = .ready ∧ (s.cst.slots.getD i freeSlot).captureId ≠ s.cst.captureId)) =
        some 0) ∧
    (let s := State.reset.setCst { resetCst false false with withheldRelease := true }
     s.cst.withheldRelease = true ∧ s.cst.state = .idle ∧ s.cst.s1.debounced = false ∧ s.afc.state = .idle ∧
      (s.setAfc locked.afc).afc.state = .locked ∧ s.aec.state ≠ .held ∧
      (s.setAfc (settling 1).afc).afc.state = .settle ∧ s.turnOf (.afCancel 1 (.args ()))) := by
  refine ⟨rfl, by decide, by decide, by decide, by decide, by decide, by decide, rfl, rfl, rfl, rfl, rfl, by decide, rfl, rfl⟩

theorem witness_StoreAndShutterSetup :
    (let s := store freeSlot freeSlot (inMode .stream) .capturing
     s.turnOf (.storeSetup 1 (.args (storeArgs 1 24))) ∧ (storeChoice? (storeArgs 1 24)).isSome = true ∧ s.cst.state ≠ .idle) ∧
    (State.reset.turnOf (.storeSetup 1 (.args (storeArgs 1 25))) ∧ 24 < (storeArgs 1 25).slots) ∧
    (∃ c, storeChoice? (storeArgs 3 2) = some c ∧ c.mode = .pretrigger ∧ (storeArgs 3 2).slots = 2) ∧
    268435456 / 24 < State.reset.intake.geometry.outW * State.reset.intake.geometry.outH * 3 / 2 ∧
    (State.reset.turnOf (.storeSetup 1 (.args (storeArgs 1 6))) ∧ State.reset.cst.state = .idle ∧
      ¬ 268435456 / 6 < State.reset.intake.geometry.outW * State.reset.intake.geometry.outH * 3 / 2 ∧
      (storeArgs 1 6).slots ≠ State.reset.cst.slots.length ∧ (∀ x ∈ State.reset.cst.slots, x.state = .free)) ∧
    (let s := store freeSlot (slotIn .ready .free 1) (inMode .stream) .idle
     s.turnOf (.storeSetup 1 (.args (storeArgs 1 6))) ∧ (storeArgs 1 6).slots ≠ s.cst.slots.length ∧
      ∃ x ∈ s.cst.slots, x.state ≠ .free) ∧
    (let s := store freeSlot (slotIn .ready .free 1) (inMode .stream) .idle
     s.turnOf (.storeSetup 1 (.args (storeArgs 1 2))) ∧ (storeArgs 1 2).slots = s.cst.slots.length ∧
      (storeChoice? (storeArgs 1 2)).isSome = true) ∧
    (State.reset.turnOf (.storeSetup 1 (.args (storeArgs 4 12))) ∧ storeChoice? (storeArgs 4 12) = none ∧
      State.reset.cst.state = .idle) ∧
    (let s := store freeSlot freeSlot (inMode .stream) .capturing
     s.turnOf (.storeSetup 1 (.args (storeArgs 4 12))) ∧ s.cst.state ≠ .idle) ∧
    (State.reset.turnOf (.shutterSetup 1 (.args ⟨10, 2, 0⟩)) ∧ State.reset.turnOf (.shutterSetup 1 (.args ⟨51, 1, 1⟩))) :=
  ⟨⟨rfl, rfl, by decide⟩, ⟨rfl, by decide⟩, ⟨_, rfl, rfl, rfl⟩, by decide, ⟨rfl, by decide⟩, ⟨rfl, by decide⟩,
    ⟨rfl, rfl, rfl⟩, ⟨rfl, rfl, rfl⟩, ⟨rfl, by decide⟩, rfl, rfl⟩

theorem witness_CapturesStartTriggerStop :
    (let s := store freeSlot freeSlot (inMode .burst) .idle
     s.turnOf (.trigger 1 (.args ())) ∧ s.turnOf (.storeStart 1 (.args ())) ∧ s.cst.state = .idle ∧ s.cst.params.mode = .burst) ∧
    (let s := store freeSlot freeSlot (inMode .pretrigger) .armed
     s.turnOf (.trigger 1 (.args ())) ∧ s.turnOf (.storeStart 1 (.args ())) ∧ s.cst.state = .armed ∧
      s.cst.params.mode = .pretrigger) ∧
    (State.reset.turnOf (.trigger 1 (.args ())) ∧ State.reset.cst.state = .idle ∧ State.reset.cst.params.mode ≠ .burst ∧
      State.reset.cst.params.mode = .off) ∧
    ((gating 3 .proceed).turnOf (.trigger 1 (.args ())) ∧ (gating 3 .proceed).cst.state = .gating) ∧
    (let s := store freeSlot freeSlot (inMode .stream) .idle
     s.turnOf (.storeStart 1 (.args ())) ∧ s.cst.state = .idle ∧ s.cst.params.mode = .stream) ∧
    (let s := store freeSlot freeSlot (inMode .pretrigger) .idle
     s.turnOf (.storeStart 1 (.args ())) ∧ s.cst.state = .idle ∧ s.cst.params.mode = .pretrigger) ∧
    (State.reset.turnOf (.storeStop 1 (.args ())) ∧ State.reset.turnOf (.noticeArm 1 (.args ()))) ∧
    ((gating 3 .proceed).turnOf (.storeStop 1 (.args ())) ∧ (gating 3 .proceed).cst.state ≠ .idle ∧
      (gating 3 .proceed).cst.withheldRelease = false) ∧
    (fetching.turnOf (.storeStop 1 (.args ())) ∧ fetching.cst.state ≠ .idle ∧ fetching.cst.withheldRelease = true ∧
      fetching.cst.s1.debounced = false ∧ fetching.afc.state = .coarse) ∧
    (let s := fetching.setAfc { resetAfc with state := .locked }
     s.turnOf (.storeStop 1 (.args ())) ∧ s.cst.withheldRelease = true ∧ s.afc.state = .locked) ∧
    (let s := store (slotIn .filling .free 1) freeSlot (inMode .stream) .capturing
     s.turnOf (.storeStop 1 (.args ())) ∧ s.cst.state = .capturing ∧ s.cst.params.mode = .stream) :=
  ⟨⟨rfl, rfl, rfl, rfl⟩, ⟨rfl, rfl, rfl, rfl⟩, ⟨rfl, by decide⟩, ⟨rfl, rfl⟩, ⟨rfl, rfl, rfl⟩, ⟨rfl, rfl, rfl⟩, ⟨rfl, rfl⟩,
    ⟨rfl, by decide⟩, ⟨rfl, by decide⟩, ⟨rfl, by decide⟩, rfl, rfl, rfl⟩

/-- A HELD slot 0, whose record and image have been sent, a READY slot 1 and a FREE slot 2. -/
def judged : State :=
  State.reset.setCst { resetCst false false with
    slots := [{ slotIn .held .free 1 with recordSent := true, imageSent := true }, slotIn .ready .free 2, freeSlot] }

theorem judged_follows : judged.ConditionsFollow := by
  unfold State.ConditionsFollow Condition.Accounts; decide

theorem witness_HostJudgesSlots :
    (judged.turnOf (.accept 1 (.args 0)) ∧ ∃ x, judged.cst.slots[0]? = some x ∧ x.state = .held ∧ judged.ConditionsFollow ∧
      judged.cst.params.release = .auto ∧ x.recordSent = true ∧ x.imageSent = true) ∧
    (judged.turnOf (.release 1 (.args 1)) ∧ ∃ x, judged.cst.slots[1]? = some x ∧ x.state = .ready) ∧
    (judged.turnOf (.discard 1 (.args 1)) ∧ ∃ x, judged.cst.slots[1]? = some x ∧ x.state ≠ .held) ∧
    (judged.turnOf (.discard 1 (.args 3)) ∧ judged.cst.slots.length ≤ 3) :=
  ⟨⟨rfl, _, rfl, rfl, judged_follows, rfl, rfl, rfl⟩, ⟨rfl, _, rfl, rfl⟩, ⟨rfl, _, rfl, by decide⟩, rfl, by decide⟩

/-- The image of slot 1 being sent, the slot SENDING. -/
def sendingImage (next : Nat) (record : Option RecordPacket) (aborted : Bool) : State :=
  (store freeSlot (slotIn .sending .ready 2) (inMode .stream) .idle).setCst { resetCst false false with
    slots := [freeSlot, slotIn .sending .ready 2], fetch := some ⟨3, 1, 2, record, true, next, aborted, false⟩ }

theorem witness_FetchAndAbort :
    (judged.turnOf (.fetch 1 (.args ⟨3, 0, 0⟩)) ∧ 2 < 3) ∧ (judged.turnOf (.fetch 1 (.args ⟨2, 0, 3⟩)) ∧ judged.cst.slots.length ≤ 3) ∧
    ((sendingImage 0 none false).turnOf (.fetch 1 (.args ⟨0, 2, 0⟩)) ∧ (sendingImage 0 none false).cst.fetch.isSome = true) ∧
    (State.reset.turnOf (.fetch 1 (.args ⟨0, 2, 0⟩)) ∧ State.reset.cst.fetch = none ∧ readyList State.reset.cst.slots = []) ∧
    (judged.turnOf (.fetch 1 (.args ⟨0, 2, 0⟩)) ∧ judged.cst.fetch = none ∧ (readyList judged.cst.slots).head? = some 0 ∧
      ∃ x r, judged.cst.slots[0]? = some x ∧ x.record = some r ∧ x.state = .held) ∧
    (judged.turnOf (.fetch 1 (.args ⟨1, 2, 0⟩)) ∧ (readyList judged.cst.slots).getLast? = some 1) ∧
    (judged.turnOf (.fetch 1 (.args ⟨2, 1, 0⟩)) ∧ ∃ x, judged.cst.slots[0]? = some x ∧ x.state = .held) ∧
    (State.reset.turnOf (.sendAbort 1 (.args ())) ∧ State.reset.cst.fetch = none) ∧
    (let s := (sendingImage 3 none false).setLnk { resetLnk with sending := some ⟨[0x97, 3, 0, 0], .line true⟩ }
     s.turnOf (.sendAbort 1 (.args ())) ∧ sendingFinal s.lnk = true ∧ s.cst.fetch.isSome = true) ∧
    ((sendingImage 2 none false).turnOf (.sendAbort 1 (.args ())) ∧ sendingFinal (sendingImage 2 none false).lnk = false ∧
      ∃ f x, (sendingImage 2 none false).cst.fetch = some f ∧ f.image = true ∧
        (sendingImage 2 none false).cst.slots[f.slot]? = some x ∧ x.state = .sending ∧ x.recordSent = false) ∧
    (let x := { slotIn .sending .ready 2 with recordSent := true, imageSent := true }
     let s := (sendingImage 2 none false).setCst { (sendingImage 2 none false).cst with slots := [freeSlot, x] }
     s.turnOf (.sendAbort 1 (.args ())) ∧ s.cst.params.release = .auto ∧ s.cst.slots[1]? = some x ∧ x.state = .sending ∧
      x.before = .ready ∧ x.recordSent = true ∧ x.imageSent = true ∧ s.ConditionsFollow) ∧
    (let s := judged.setCst { judged.cst with fetch := some ⟨3, 0, 1, none, false, 0, false, false⟩ }
     s.turnOf (.sendAbort 1 (.args ())) ∧ sendingFinal s.lnk = false ∧ ∃ f, s.cst.fetch = some f ∧ f.image = false) :=
  ⟨⟨rfl, by decide⟩, ⟨rfl, by decide⟩, ⟨rfl, rfl⟩, ⟨rfl, rfl, by decide⟩, ⟨rfl, rfl, by decide, _, _, rfl, rfl, rfl⟩, ⟨rfl, by decide⟩,
    ⟨rfl, _, rfl, rfl⟩, ⟨rfl, rfl⟩, ⟨rfl, rfl, rfl⟩, ⟨rfl, rfl, _, _, rfl, rfl, rfl, rfl, rfl⟩,
    ⟨rfl, rfl, rfl, rfl, rfl, rfl, rfl, by unfold State.ConditionsFollow Condition.Accounts; decide⟩, rfl, rfl, _, rfl, rfl⟩

/-- Shutter line states on a store. -/
def shutters (s1 s2 : Shutter) (debounce : Nat) (p : StoreParams) (st : CaptureState) : State :=
  State.reset.setCst { resetCst false false with s1 := s1, s2 := s2, debounce := debounce, params := p, state := st }

theorem witness_ShutterLineDebounced :
    (State.reset.cst.shutter .s1).raw = false ∧
    ((State.reset.cst.shutter .s2).raw ≠ true ∧ State.reset.cst.debounce ≠ 0) ∧
    (let s := shutters ⟨false, false, none, true⟩ ⟨false, false, none, true⟩ 0 (inMode .burst) .idle
     (s.cst.shutter .s2).raw ≠ true ∧ s.cst.debounce = 0 ∧ (s.cst.shutter .s1).timer = none) ∧
    (let s := shutters ⟨true, false, some 10, false⟩ ⟨true, false, some 10, true⟩ 10 (inMode .off) .idle
     (s.cst.shutter .s1).timer.isSome = true ∧ (s.cst.shutter .s1).enable = false ∧ (s.cst.shutter .s2).timer.isSome = true ∧
      (triggerRefusal s.cst).isSome = true) ∧
    (let s := shutters ⟨false, true, some 10, true⟩ ⟨true, false, some 10, true⟩ 10 (inMode .burst) .gating
     (s.cst.shutter .s1).timer.isSome = true ∧ (s.cst.shutter .s1).raw ≠ (s.cst.shutter .s1).debounced ∧
      (s.cst.shutter .s1).enable = true ∧ (s.cst.shutter .s1).raw = false ∧ s.cst.state = .gating) ∧
    (let s := (shutters ⟨true, false, some 10, true⟩ ⟨true, false, some 10, true⟩ 10 (inMode .burst) .idle).setAfc locked.afc
     (s.cst.shutter .s1).raw = true ∧ s.afc.state ≠ .idle ∧ s.afc.state ≠ .failed ∧ (s.cst.shutter .s2).timer.isSome = true ∧
      (s.cst.shutter .s2).raw ≠ (s.cst.shutter .s2).debounced ∧ (s.cst.shutter .s2).enable = true ∧
      (s.cst.shutter .s2).raw = true ∧ triggerRefusal s.cst = none) := by
  decide

theorem witness_ShutterLineDebounced_s1 :
    (let s := shutters ⟨false, true, some 10, true⟩ ⟨false, false, none, true⟩ 10 (inMode .off) .idle
     (s.cst.shutter .s1).timer.isSome = true ∧ (s.cst.shutter .s1).raw ≠ (s.cst.shutter .s1).debounced ∧
      (s.cst.shutter .s1).enable = true ∧ (s.cst.shutter .s1).raw = false ∧ s.cst.state ≠ .gating ∧
      s.cst.state ≠ .capturing ∧ s.afc.state = .idle ∧ (s.setAfc locked.afc).afc.state = .locked ∧ s.aec.state ≠ .held ∧
      (s.setAfc (settling 1).afc).afc.state = .settle) ∧
    (let s := (focusReady 500 .single .idle .off).setCst { resetCst false false with s1 := ⟨true, false, some 10, true⟩ }
     (s.cst.shutter .s1).timer.isSome = true ∧ (s.cst.shutter .s1).raw ≠ (s.cst.shutter .s1).debounced ∧
      (s.cst.shutter .s1).enable = true ∧ (s.cst.shutter .s1).raw = true ∧ s.afc.mode = .single ∧ s.afc.state = .idle ∧
      s.zmc.mode = .idle ∧ s.tableValid zoomId = true ∧ s.lds.focus.valid = true ∧ s.lds.zoom.valid = true ∧
      (∃ y ∈ s.afc.windows.take 8, y.enabled = true) ∧ s.lnk.buffer = []) ∧
    (let s := (focusReady 500 .single .idle .off).setLnk resetLnk
     s.afc.mode = .single ∧ s.tableValid zoomId = false) := by
  decide

/-! ### Witnesses: conditions -/

/-- Condition 12 (PAN) latched in mode TIMED with its level gone back, while frames flow. -/
def timedPan (frames : Nat) : State :=
  waiting.setCnd { resetCnd with conditions := resetCnd.conditions.set 12 ⟨true, 2, .timed, 3, frames, true, false, true⟩ }

theorem witness_ConditionsLatchClearAndSetUp_raise :
    (State.reset.cnd.conditions.length = 25 ∧ 24 < 25) ∧
    (State.reset.cnd.condition condPan).current = false ∧ (State.reset.cnd.condition condPan).current ≠ true ∧
    (let c : Cnd := ⟨List.replicate 25 { resetCondition with mode := .timed, latch := true, frames := 1, notice := true }, false⟩
     c.conditions.length = 25 ∧ (c.condition condPan).frames ≤ 1 ∧ ¬ 1 < (c.condition condPan).frames) := by decide

theorem witness_ConditionsLatchClearAndSetUp_refused :
    State.reset.turnOf (.conditionsSetup 1 (.args ⟨2, 1, 2, 1⟩)) ∧ inBitSet 2 1 = true ∧
    ¬ (1 = condAeSettled ∨ 1 = condPan ∨ 1 = condShiftFault ∨ 1 = condStoreFull) :=
  ⟨turn_of_empty _ _ rfl, by decide, by decide⟩

theorem witness_ConditionsLatchClearAndSetUp_setup :
    (State.reset.turnOf (.conditionsSetup 1 (.args ⟨33554431, 1, 1, 0⟩)) ∧ 33554431 < 2 ^ 25) ∧
    (State.reset.turnOf (.conditionsSetup 1 (.args ⟨33554432, 1, 1, 1⟩)) ∧ 2 ^ 25 ≤ 33554432) :=
  ⟨⟨turn_of_empty _ _ rfl, by decide⟩, turn_of_empty _ _ rfl, by decide⟩

theorem witness_ConditionsLatchClearAndSetUp_level :
    State.reset.turnOf (.conditionsSetup 1 (.args ⟨4096, 1, 2, 1⟩)) ∧
    ∀ k < 25, Nat.testBit 4096 k = true → k = condAeSettled ∨ k = condPan ∨ k = condShiftFault ∨ k = condStoreFull := by
  refine ⟨turn_of_empty _ _ rfl, ?_⟩
  decide +kernel

theorem witness_ConditionsLatchClearAndSetUp_clear :
    ((timedPan 1).turnOf (.conditionsClear 1 (.args 33554431)) ∧ (timedPan 1).cnd.conditions.length = 25) ∧
    (timedPan 1).turnOf (.conditionsClear 1 (.args 33554432)) ∧ (timedPan 1).intake.mode ≠ .stopped ∧
    State.reset.intake.mode = .stopped ∧ 1 < ((timedPan 2).cnd.condition 12).frames ∧
    (((timedPan 1).cnd.condition 12).mode = .timed ∧ ((timedPan 1).cnd.condition 12).latch = true ∧
      ((timedPan 1).cnd.condition 12).frames ≤ 1) :=
  ⟨⟨turn_of_empty _ _ rfl, rfl⟩, turn_of_empty _ _ rfl, by decide, rfl, by decide, by decide⟩

/-! ### Witnesses: host link, tables and resets -/

/-- A STATUS_QUERY packet of tag 5, with its check. -/
def queryPacket : List Byte := [0x01, 5, 0, 1, 41] ++ checkBytes [0x01, 5, 0, 1, 41]

theorem witness_UpstreamPacketJoinsBuffer :
    (6 ≤ queryPacket.length ∧ queryPacket.drop 5 = checkBytes (queryPacket.take 5) ∧
      256 * (queryPacket.getD 2 0).toNat + (queryPacket.getD 3 0).toNat = queryPacket.length - 6 ∧
      queryPacket.getD 0 0 = 0x01#8 ∧ State.reset.lnk.buffer.length < 4) ∧
    (packetPasses queryPacket = true ∧ packetPasses (0x03 :: queryPacket.tail) = false ∧ ([] : List Byte).length < 6) ∧
    4 ≤ (State.reset.setLnk { resetLnk with buffer := List.replicate 4 (.waiting ⟨false, 1, [41]⟩) }).lnk.buffer.length := by
  decide +kernel

/-- A packet being sent, ending as given, over a state. -/
def ending (s : State) (e : SendEnd) : State := s.setLnk { s.lnk with sending := some ⟨[0x17, 3, 0, 0], e⟩ }

theorem sendingImage_follows : (ending (sendingImage 4 none false) (.line true)).ConditionsFollow := by
  unfold State.ConditionsFollow Condition.Accounts; decide

theorem sendingImage_fits : (sendingImage 3 none false).FramesFit := by
  refine ⟨by decide, ?_, ?_⟩
  · intro i x r h hr
    have hm : x ∈ [freeSlot, slotIn .sending .ready 2] := List.mem_of_getElem? h
    simp only [List.mem_cons, List.not_mem_nil, or_false] at hm
    rcases hm with rfl | rfl <;> cases hr
    exact .inl (by unfold FitsSlot; decide)
  · intro f hf ha
    cases hf
    cases ha

theorem witness_PacketBoundarySendsByClass :
    ((ending State.reset (.line false)).lnk.sending = some ⟨[0x17, 3, 0, 0], .line false⟩) ∧
    (∃ f, (ending (sendingImage 2 none true) .abort).cst.fetch = some f ∧ f.freeAtEnd = false) ∧
    ((ending (sendingImage 4 none false) (.line true)).ConditionsFollow ∧
      ∃ f y, (ending (sendingImage 4 none false) (.line true)).cst.fetch = some f ∧
        (ending (sendingImage 4 none false) (.line true)).cst.slots[f.slot]? = some y ∧ y.state = .sending ∧
        y.before = .ready ∧ y.recordSent = false) ∧
    ((ending judged (.record 1 2)).ConditionsFollow ∧ (ending judged (.record 1 2)).cst.fetch = none ∧
      ∃ y, (ending judged (.record 1 2)).cst.slots[1]? = some y ∧ y.order = 2 ∧ y.state ≠ .free ∧ y.imageSent = false) ∧
    ((ending judged (.record 1 7)).cst.slots[1]? = some (slotIn .ready .free 2) ∧ (slotIn .ready .free 2).order ≠ 7) ∧
    (let s := State.reset.setLnk { resetLnk with following := [⟨0x13, 1, []⟩] }
     s.lnk.sending = none ∧ s.lnk.following = [⟨0x13, 1, []⟩]) ∧
    (let s := State.reset.setLnk { resetLnk with replies := [⟨1, 2, .done, [], []⟩], buffer := [.answered 1], errorMark := true }
     s.lnk.sending = none ∧ s.lnk.following = [] ∧ s.lnk.replies = [⟨1, 2, .done, [], []⟩]) ∧
    (let s := State.reset.setCnd { resetCnd with waiting := true }
     s.lnk.sending = none ∧ s.lnk.following = [] ∧ s.lnk.replies = [] ∧ s.cnd.waiting = true) ∧
    (∃ f, (sendingImage 2 none true).cst.fetch = some f ∧ f.aborted = true ∧ (sendingImage 2 none true).lnk.sending = none) ∧
    (∃ f p, (sendingImage 0 (some ⟨1, .ready, false, smallRecord⟩) false).cst.fetch = some f ∧ f.aborted = false ∧
      f.record = some p) ∧
    ((sendingImage 3 none false).FramesFit ∧ ∃ f x r, (sendingImage 3 none false).cst.fetch = some f ∧ f.aborted = false ∧
      f.record = none ∧ f.image = true ∧ (sendingImage 3 none false).cst.slots[f.slot]? = some x ∧ x.record = some r ∧
      f.nextLine + 1 = r.outH) ∧
    ((State.reset.setStats { resetStats with waiting := some (statsPacket (openMeasurement State.reset) 7 0) }).cst.fetch = none) ∧
    State.reset.stats.waiting = none :=
  ⟨rfl, ⟨_, rfl, rfl⟩, ⟨sendingImage_follows, _, _, rfl, rfl, rfl, rfl, rfl⟩,
    ⟨judged_follows, rfl, _, rfl, rfl, by decide, rfl⟩, ⟨rfl, by decide⟩, ⟨rfl, rfl⟩, ⟨rfl, rfl, rfl⟩, ⟨rfl, rfl, rfl, rfl⟩,
    ⟨_, rfl, rfl, rfl⟩, ⟨_, _, rfl, rfl, rfl⟩, ⟨sendingImage_fits, _, _, _, rfl, rfl, rfl, rfl, rfl, rfl, rfl⟩, rfl, rfl⟩

/-- A fetch of the record of slot 1 alone, its RECORD packet being sent. -/
def recordOnly : State :=
  ending (judged.setCst { judged.cst with fetch := some ⟨3, 1, 2, none, false, 0, false, false⟩ }) (.record 1 2)

theorem witness_PacketPayloads :
    (let p : StatsPacket :=
      ⟨7, 2, 2, 64, 16, 0, List.replicate 192 0, List.replicate 192 0, [], List.replicate 8 ⟨false, 0, false, 0, 0, 0⟩⟩
     p.means.length = 192 ∧ p.clipped.length = 192 ∧ p.windows.length = 8) ∧
    ∃ p, (historyPackets 1 locked.afc)[0]? = some p :=
  ⟨⟨rfl, rfl, rfl⟩, _, rfl⟩

theorem witness_PacketBoundarySendsByClass_ends :
    (let s := recordOnly
     s.ConditionsFollow ∧ (∃ f, s.cst.fetch = some f ∧ f.image = false ∧ f.record = none) ∧
      ∃ y, s.cst.slots[1]? = some y ∧ y.state ≠ .free ∧ y.order = 2) ∧
    (let y := { slotIn .ready .free 2 with imageSent := true }
     let s := recordOnly.setCst { recordOnly.cst with slots := [freeSlot, y] }
     s.cst.params.release = .auto ∧ s.cst.slots[1]? = some y ∧ y.state = .ready ∧ y.imageSent = true) ∧
    (let f : Fetch := ⟨3, 1, 2, none, true, 2, true, true⟩
     let s := ending (judged.setCst { judged.cst with fetch := some f }) .abort
     s.cst.fetch = some f ∧ f.freeAtEnd = true ∧ s.cst.slots[f.slot]? = some (slotIn .ready .free 2)) ∧
    (let y := { slotIn .sending .ready 2 with recordSent := true }
     let s := ending ((sendingImage 4 none false).setCst { (sendingImage 4 none false).cst with slots := [freeSlot, y] }) (.line true)
     s.cst.params.release = .auto ∧ s.cst.slots[1]? = some y ∧ y.before = .ready ∧ y.recordSent = true) ∧
    (let s := (State.reset.setCnd { resetCnd with waiting := true }).setLnk { resetLnk with resetWait := some ⟨1, true⟩ }
     s.cnd.waiting = true ∧ ∃ w, s.lnk.resetWait = some w ∧ w.noticeKept = true) :=
  ⟨⟨by unfold State.ConditionsFollow Condition.Accounts; decide, ⟨_, rfl, rfl, rfl⟩, _, rfl, by decide, rfl⟩,
    ⟨rfl, rfl, rfl, rfl⟩, ⟨rfl, rfl, rfl⟩, ⟨rfl, rfl, rfl, rfl⟩, rfl, _, rfl, rfl⟩

/-- A commit of SHADING_0 pending while frames flow. -/
def committing : State :=
  waiting.setLnk { resetLnk with tables := resetLnk.tables.set 4 ⟨[(0, 5)], [], false, true⟩ }

theorem witness_TableLoadAndRead :
    (State.reset.turnOf (.tableLoad 1 (.args ⟨4, 190, [1, 2]⟩)) ∧ State.reset.MemoriesCanonical ∧ 4 < 14 ∧
      190 + [(1 : Byte), 2].length ≤ tableSize 4 ∧ (State.reset.table 4).commitPending = false) ∧
    (State.reset.turnOf (.tableLoad 1 (.args ⟨4, 191, [1, 2]⟩)) ∧ tableSize 4 < 191 + [(1 : Byte), 2].length) ∧
    (committing.turnOf (.tableLoad 1 (.args ⟨4, 192, []⟩)) ∧ committing.MemoriesCanonical ∧ 192 + 0 ≤ tableSize 4 ∧
      (committing.table 4).commitPending = true) ∧
    (∃ t, exec (.tableCommit 1 (.args 4)) loaded = .next t) ∧
    (State.reset.turnOf (.tableRead 1 (.args ⟨0, 6000, 257⟩)) ∧ 256 < 257) ∧
    (State.reset.turnOf (.tableRead 1 (.args ⟨0, 0, 256⟩)) ∧ (State.reset.table 0).valid = false) ∧
    ((withTables [zoomId] figureZoomTable).turnOf (.tableRead 1 (.args ⟨13, 80, 184⟩)) ∧ 80 + 184 ≤ tableSize 13 ∧
      ((withTables [zoomId] figureZoomTable).table 13).valid = true) := by
  refine ⟨⟨rfl, ?_, by decide⟩, ⟨rfl, by decide⟩, ⟨rfl, ?_, by decide⟩, ⟨_, rfl⟩, ⟨rfl, by decide⟩, ⟨rfl, by decide⟩, rfl, by decide⟩
  · unfold State.MemoriesCanonical; decide
  · unfold State.MemoriesCanonical; decide

theorem witness_TableCommitChecksAndApplies :
    (State.reset.turnOf (.tableCommit 1 (.args 14)) ∧ 14 ≤ 14) ∧
    (committing.turnOf (.tableCommit 1 (.args 4)) ∧ (committing.table 4).commitPending = true) ∧
    (State.reset.turnOf (.tableCommit 1 (.args 0)) ∧ (State.reset.table 0).commitPending = false ∧
      commitCheck 0 (State.reset.table 0).pending = some 0) ∧
    (loaded.turnOf (.tableCommit 1 (.args 4)) ∧ loaded.lnk.tables.length = 14 ∧ (loaded.table 4).commitPending = false ∧
      commitCheck 4 (loaded.table 4).pending = none ∧ loaded.intake.mode = .stopped) ∧
    (∀ k, (loaded.table k).commitPending = false) ∧
    ((loaded.setIntake waiting.intake).turnOf (.tableCommit 1 (.args 4)) ∧ (loaded.setIntake waiting.intake).intake.mode ≠ .stopped) := by
  refine ⟨⟨rfl, by decide⟩, ⟨rfl, rfl⟩, ⟨rfl, rfl, by decide +kernel⟩, ⟨rfl, rfl, rfl, by decide +kernel, rfl⟩, ?_, rfl, by decide⟩
  intro k
  by_cases h : k < 14
  · revert k; decide
  · have : loaded.table k = resetTable := by
      simp [State.table, loaded, State.setLnk, resetLnk, List.getD_eq_getElem?_getD, Nat.not_lt.mp h]
    rw [this]; rfl

theorem witness_TableCommitChecksAndApplies_checks :
    commitCheck 0 [] = some 0 ∧ commitCheck 4 [(3, 16)] = some 3 ∧ commitCheck 8 [] = some 65535 ∧
    commitCheck 8 [(0, 1), (2, 0x11)] = none ∧ commitCheck 9 [(0, 2), (2, 0x11), (4, 0x10)] = none ∧
    commitCheck 9 [(0, 2), (2, 0x11), (4, 0x21)] = some 1 ∧ commitCheck timeId [(1, 2), (3, 5), (5, 4)] = some 1 ∧
    commitCheck timeId [(0, 1), (3, 1)] = some 1 ∧ commitCheck againId [(1, 98)] = some 65535 ∧
    commitCheck sensorWriteId [(0, 127), (1, 1), (4, 5)] = some 0 ∧ commitCheck sensorWriteId [(0, 128), (1, 1)] = some 65535 ∧
    commitCheck zoomId [(5, 1)] = some 0 := by
  decide +kernel

theorem witness_ResetsLeaveTheirValues :
    (State.reset.turnOf (.reset 1 (.args 2)) ∧ 1 < 2) ∧
    (inFrame.turnOf (.reset 1 (.args 1)) ∧ inFrame.turnOf (.reset 1 (.args 0)) ∧ inFrame.SlotsPartitioned ∧
      inFrame.aec.bus = none ∧ inFrame.cst.fetch = none ∧ inFrame.lds.running = none ∧ inFrame.lds.reference = none) ∧
    (let s := inFrame.setLds { lens with running := some (move .zoom .zoom 2 704), timer := some 1000 }
     s.turnOf (.reset 1 (.args 1)) ∧ s.turnOf (.reset 1 (.args 0)) ∧ s.SlotsPartitioned ∧ s.lds.running.isSome = true) ∧
    (let s := inFrame.setLds { lens with reference := some ⟨.focus, 3, true, false⟩ }
     s.turnOf (.reset 1 (.args 0)) ∧ s.SlotsPartitioned ∧ s.lds.reference.isSome = true) ∧
    (fetching.turnOf (.reset 1 (.args 1)) ∧ fetching.turnOf (.reset 1 (.args 0)) ∧ fetching.SlotsPartitioned ∧
      fetching.cst.fetch.isSome = true ∧ sendingFinal fetching.lnk = false) ∧
    (let s := writing [⟨16, 1, 5⟩] .run 0
     s.turnOf (.reset 1 (.args 1)) ∧ s.turnOf (.reset 1 (.args 0)) ∧ s.SlotsPartitioned ∧ s.aec.bus.isSome = true) ∧
    State.reset.lnk.resetWait = none ∧ (sendingImage 0 none false).cst.fetch.isSome = true ∧
    (taking.lnk.resetWait = some ⟨1, false⟩ ∧ taking.aec.bus = none ∧ taking.cst.fetch = none ∧ taking.lds.reference = none ∧
      ∀ m, taking.lds.running = some m → m.mute = false) :=
  ⟨⟨rfl, by decide⟩, ⟨rfl, rfl, freeSlots_partitioned _ rfl rfl, rfl, rfl, rfl, rfl⟩,
    ⟨rfl, rfl, freeSlots_partitioned _ rfl rfl, rfl⟩, ⟨rfl, freeSlots_partitioned _ rfl rfl, rfl⟩,
    ⟨rfl, rfl, fetching_partitioned, rfl, rfl⟩, ⟨rfl, rfl, freeSlots_partitioned _ rfl rfl, rfl⟩, rfl, rfl, rfl, rfl, rfl, rfl,
    fun _ h => by cases h⟩

end Sys2Proof.Tests
end

section
/-! SUPPORT. Lists of slots: what changing one element, choosing slots by a property and finding the first one give, and
when a list of slots comes from another without a frame of another size. -/

namespace Sys2Proof.Machine

/-! ### Changing one element of a list -/

/-- The model's change of one element is the library's. -/
theorem modifyAt_eq_modify {α : Type} (f : α → α) (l : List α) (i : Nat) : modifyAt f l i = l.modify i f := by
  induction l generalizing i with
  | nil => cases i <;> rfl
  | cons x xs ih => cases i with
    | zero => rfl
    | succ i => simp [modifyAt, ih]

@[simp] theorem length_modifyAt {α : Type} (f : α → α) (l : List α) (i : Nat) :
    (modifyAt f l i).length = l.length := by
  rw [modifyAt_eq_modify, List.length_modify]

theorem getElem?_modifyAt {α : Type} (f : α → α) (l : List α) (i j : Nat) :
    (modifyAt f l i)[j]? = if i = j then l[j]?.map f else l[j]? := by
  rw [modifyAt_eq_modify, List.getElem?_modify]
  split <;> simp

/-- Changing the element that stands at a place sets it to its image. -/
theorem modifyAt_eq_set {α : Type} {f : α → α} {l : List α} {i : Nat} {x : α} (h : l[i]? = some x) :
    modifyAt f l i = l.set i (f x) := by
  refine List.ext_getElem? fun j => ?_
  rw [getElem?_modifyAt, List.getElem?_set]
  obtain ⟨hi, rfl⟩ := List.getElem?_eq_some_iff.1 h
  by_cases hij : i = j
  · subst hij; simp [hi]
  · simp [hij]

theorem modifyAt_of_length_le {α : Type} {f : α → α} {l : List α} {i : Nat} (h : l.length ≤ i) : modifyAt f l i = l := by
  rw [modifyAt_eq_modify, List.modify_eq_self h]

/-! ### Choosing slots -/

/-- A slot's number is listed when the slot is there and p holds of it. -/
theorem mem_slotsWhere {p : Slot → Bool} {slots : List Slot} {i : Nat} :
    i ∈ slotsWhere p slots ↔ ∃ x, slots[i]? = some x ∧ p x = true := by
  unfold slotsWhere
  rw [List.mem_filter, List.mem_range]
  constructor
  · rintro ⟨hi, h⟩
    exact ⟨slots[i], List.getElem?_eq_getElem hi, by simpa [List.getElem?_eq_getElem hi] using h⟩
  · rintro ⟨x, hx, h⟩
    exact ⟨(List.getElem?_eq_some_iff.1 hx).1, by simpa [hx] using h⟩

theorem slotsWhere_eq_nil {p : Slot → Bool} {slots : List Slot} :
    slotsWhere p slots = [] ↔ ∀ x ∈ slots, p x = false := by
  rw [List.eq_nil_iff_forall_not_mem]
  constructor
  · intro h x hx
    obtain ⟨i, hi⟩ := List.mem_iff_getElem?.1 hx
    by_contra hp
    exact h i (mem_slotsWhere.2 ⟨x, hi, by simpa using hp⟩)
  · intro h i hi
    obtain ⟨x, hx, hp⟩ := mem_slotsWhere.1 hi
    simp [h x (List.mem_of_getElem? hx)] at hp

/-- The first listed slot: p holds of it and of no slot before it. -/
theorem head?_slotsWhere {p : Slot → Bool} {slots : List Slot} {i : Nat} :
    (slotsWhere p slots).head? = some i ↔
      ∃ x, slots[i]? = some x ∧ p x = true ∧ ∀ z ∈ slots.take i, p z = false := by
  unfold slotsWhere
  rw [List.head?_filter, List.find?_range_eq_some]
  constructor
  · rintro ⟨hp, hi, hb⟩
    rw [List.mem_range] at hi
    refine ⟨slots[i], List.getElem?_eq_getElem hi, by simpa [List.getElem?_eq_getElem hi] using hp, fun z hz => ?_⟩
    obtain ⟨j, hj, rfl⟩ := List.mem_take_iff_getElem.1 hz
    have hji : j < i ∧ j < slots.length := by omega
    simpa [List.getElem?_eq_getElem hji.2] using hb j hji.1
  · rintro ⟨x, hx, hp, hb⟩
    obtain ⟨hi, rfl⟩ := List.getElem?_eq_some_iff.1 hx
    refine ⟨by simpa [hx] using hp, List.mem_range.2 hi, fun j hj => ?_⟩
    have hj' : j < slots.length := by omega
    have := hb slots[j] (List.mem_take_iff_getElem.2 ⟨j, by omega, rfl⟩)
    simpa [List.getElem?_eq_getElem hj'] using this

/-! ### Where the frames of a list of slots come from -/

/-- The slots new come from the slots old of a store: as many, and a record among them is of the output window of geometry
g or has the size of the record that its slot held before. -/
def SlotsFrom (g : Geometry) (new old : List Slot) : Prop :=
  new.length = old.length ∧
  ∀ (i : Nat) (y : Slot) (r : FrameRecord), new[i]? = some y → y.record = some r →
    (r.outW = g.outW ∧ r.outH = g.outH) ∨ ∃ (x : Slot) (q : FrameRecord), old[i]? = some x ∧ x.record = some q ∧ r.outW = q.outW ∧ r.outH = q.outH

theorem SlotsFrom.refl (g : Geometry) (slots : List Slot) : SlotsFrom g slots slots :=
  ⟨rfl, fun _ y r hy hr => .inr ⟨y, r, hy, hr, rfl, rfl⟩⟩

theorem SlotsFrom.trans {g : Geometry} {a b c : List Slot} (h : SlotsFrom g a b) (k : SlotsFrom g b c) : SlotsFrom g a c := by
  obtain ⟨hl, hr⟩ := h
  obtain ⟨kl, kr⟩ := k
  refine ⟨hl.trans kl, fun i y r hy hrec => ?_⟩
  obtain hg | ⟨x, q, hx, hq, hw, hh⟩ := hr i y r hy hrec
  · exact .inl hg
  · obtain ⟨gw, gh⟩ | ⟨z, p, hz, hp, kw, kh⟩ := kr i x q hx hq
    · exact .inl ⟨hw.trans gw, hh.trans gh⟩
    · exact .inr ⟨z, p, hz, hp, hw.trans kw, hh.trans kh⟩

/-- A change of one slot whose record is of geometry g or of the size it had. -/
theorem SlotsFrom.modifyAt {g : Geometry} {f : Slot → Slot} {slots : List Slot} {i : Nat}
    (h : ∀ x r, slots[i]? = some x → (f x).record = some r → (r.outW = g.outW ∧ r.outH = g.outH) ∨
      ∃ q, x.record = some q ∧ r.outW = q.outW ∧ r.outH = q.outH) : SlotsFrom g (modifyAt f slots i) slots := by
  refine ⟨length_modifyAt .., fun j y r hy hr => ?_⟩
  rw [getElem?_modifyAt] at hy
  split at hy
  · next hij =>
    subst hij
    obtain ⟨x, hx, rfl⟩ := Option.map_eq_some_iff.1 hy
    obtain hg | ⟨q, hq, hw, hh⟩ := h x r hx hr
    · exact .inl hg
    · exact .inr ⟨x, q, hx, hq, hw, hh⟩
  · exact .inr ⟨y, r, hy, hr, rfl, rfl⟩

/-- A change of every slot that keeps the size of each record. -/
theorem SlotsFrom.map {g : Geometry} {f : Slot → Slot} {slots : List Slot}
    (h : ∀ x r, (f x).record = some r → ∃ q, x.record = some q ∧ r.outW = q.outW ∧ r.outH = q.outH) :
    SlotsFrom g (slots.map f) slots := by
  refine ⟨List.length_map .., fun j y r hy hr => ?_⟩
  rw [List.getElem?_map] at hy
  obtain ⟨x, hx, rfl⟩ := Option.map_eq_some_iff.1 hy
  obtain ⟨q, hq, hw, hh⟩ := h x r hr
  exact .inr ⟨x, q, hx, hq, hw, hh⟩

/-- A change of records in FILLING slots that keeps their size. -/
theorem SlotsFrom.fillingRecord {g : Geometry} {f : FrameRecord → FrameRecord} (slots : List Slot)
    (h : ∀ r, (f r).outW = r.outW ∧ (f r).outH = r.outH) : SlotsFrom g (fillingRecord f slots) slots := by
  refine SlotsFrom.map fun x r hr => ?_
  split at hr
  · obtain ⟨q, hq, rfl⟩ := Option.map_eq_some_iff.1 hr
    exact ⟨q, hq, h q⟩
  · exact ⟨r, hr, rfl, rfl⟩

end Sys2Proof.Machine
end

section
/-! SUPPORT. What the operations of the Capture Store leave alone: every other block but the exposure, lens, focus and zoom
controllers and the conditions, the frame memory, the fetch, and every motor. -/

namespace Sys2Proof.Machine

/-- t differs from s at most in the controllers, the conditions and the store's own registers: the frame memory and the
fetch are the same, the slots come from those of s, and no motor's position or valid flag differs. -/
structure State.StoreOnly (t s : State) : Prop where
  intake : t.intake = s.intake
  pxp : t.pxp = s.pxp
  stats : t.stats = s.stats
  mou : t.mou = s.mou
  lnk : t.lnk = s.lnk
  choices : t.choices = s.choices
  pending : t.pending = s.pending
  dram : t.cst.dram = s.cst.dram
  fetch : t.cst.fetch = s.cst.fetch
  slots : SlotsFrom s.intake.geometry t.cst.slots s.cst.slots
  zoom : t.lds.zoom = s.lds.zoom
  focus : t.lds.focus = s.lds.focus
  iris : t.lds.iris = s.lds.iris

theorem State.StoreOnly.trans {s t u : State} (h : u.StoreOnly t) (k : t.StoreOnly s) : u.StoreOnly s where
  intake := h.intake.trans k.intake
  pxp := h.pxp.trans k.pxp
  stats := h.stats.trans k.stats
  mou := h.mou.trans k.mou
  lnk := h.lnk.trans k.lnk
  choices := h.choices.trans k.choices
  pending := h.pending.trans k.pending
  dram := h.dram.trans k.dram
  fetch := h.fetch.trans k.fetch
  slots := (k.intake ▸ h.slots).trans k.slots
  zoom := h.zoom.trans k.zoom
  focus := h.focus.trans k.focus
  iris := h.iris.trans k.iris

/-- What the controllers do is within what the store may do. -/
theorem State.ControlsOnly.storeOnly {s t : State} (h : t.ControlsOnly s) : t.StoreOnly s where
  intake := h.intake
  pxp := h.pxp
  stats := h.stats
  mou := h.mou
  lnk := h.lnk
  choices := h.choices
  pending := h.pending
  dram := congrArg Cst.dram h.cst
  fetch := congrArg Cst.fetch h.cst
  slots := h.cst ▸ SlotsFrom.refl ..
  zoom := h.zoom
  focus := h.focus
  iris := h.iris

theorem State.StoreOnly.refl (s : State) : s.StoreOnly s := (State.ControlsOnly.refl s).storeOnly

theorem State.storeOnly_setCnd (s : State) (c : Cnd) : (s.setCnd c).StoreOnly s :=
  State.ControlsOnly.storeOnly (by constructor <;> rfl)

theorem State.storeOnly_raise (s : State) (k : Nat) : (s.raise k).StoreOnly s := s.storeOnly_setCnd _

theorem State.storeOnly_setAec (s : State) (a : Aec) : (s.setAec a).StoreOnly s :=
  State.ControlsOnly.storeOnly (by constructor <;> rfl)

/-- An update of the store that keeps frame memory and fetch, its slots coming from those before. -/
theorem State.storeOnly_setCst_of {s : State} {c : Cst} (hd : c.dram = s.cst.dram) (hf : c.fetch = s.cst.fetch)
    (hs : SlotsFrom s.intake.geometry c.slots s.cst.slots) : (s.setCst c).StoreOnly s where
  intake := rfl
  pxp := rfl
  stats := rfl
  mou := rfl
  lnk := rfl
  choices := rfl
  pending := rfl
  dram := hd
  fetch := hf
  slots := hs
  zoom := rfl
  focus := rfl
  iris := rfl

/-- An update of the store that keeps frame memory, fetch and slots. -/
theorem State.storeOnly_setCst {s : State} {c : Cst} (hd : c.dram = s.cst.dram) (hf : c.fetch = s.cst.fetch)
    (hs : c.slots = s.cst.slots) : (s.setCst c).StoreOnly s :=
  State.storeOnly_setCst_of hd hf (hs ▸ SlotsFrom.refl ..)

/-! ### Slots (R140, R141) -/

theorem setSlot_storeOnly {s : State} {i : Nat} {f : Slot → Slot}
    (h : ∀ (x : Slot) (r : FrameRecord), s.cst.slots[i]? = some x → (f x).record = some r →
      (r.outW = s.intake.geometry.outW ∧ r.outH = s.intake.geometry.outH) ∨
      ∃ q, x.record = some q ∧ r.outW = q.outW ∧ r.outH = q.outH) : (setSlot s i f).StoreOnly s :=
  (State.storeOnly_setCnd _ _).trans (State.storeOnly_setCst_of rfl rfl (SlotsFrom.modifyAt h))

/-- A change of a slot that keeps its record. -/
theorem setSlot_storeOnly_of_record {s : State} {i : Nat} {f : Slot → Slot} (h : ∀ x, (f x).record = x.record) :
    (setSlot s i f).StoreOnly s :=
  setSlot_storeOnly fun x r _ hr => .inr ⟨r, h x ▸ hr, rfl, rfl⟩

theorem freeSlotAt_storeOnly (s : State) (i : Nat) : (freeSlotAt s i).StoreOnly s :=
  setSlot_storeOnly fun _ _ _ hr => by cases hr

theorem autoRelease_storeOnly (s : State) (i : Nat) : (autoRelease s i).StoreOnly s := by
  unfold autoRelease
  split
  · split
    · exact freeSlotAt_storeOnly ..
    · exact .refl s
  · exact .refl s

theorem slotReturns_storeOnly (s : State) (i : Nat) : (slotReturns s i).StoreOnly s := by
  unfold slotReturns
  split
  · split
    · exact (autoRelease_storeOnly ..).trans (setSlot_storeOnly_of_record fun _ => rfl)
    · exact .refl s
  · exact .refl s

/-- Any number of such operations, one slot after another. -/
theorem foldl_storeOnly {f : State → Nat → State} (h : ∀ s i, (f s i).StoreOnly s) (ks : List Nat) (s : State) :
    (ks.foldl f s).StoreOnly s := by
  induction ks generalizing s with
  | nil => exact .refl s
  | cons k ks ih => exact (ih _).trans (h s k)

theorem freeFilling_storeOnly (s : State) : (freeFilling s).StoreOnly s := foldl_storeOnly freeSlotAt_storeOnly _ s

/-! ### The end of a capture (R144, R154) -/

theorem passWithheld_storeOnly (s : State) : (passWithheld s).StoreOnly s := by
  have hs : (s.setCst { s.cst with withheldRelease := false }).StoreOnly s := State.storeOnly_setCst rfl rfl rfl
  unfold passWithheld
  split
  · dsimp only
    split
    · exact hs
    · exact (afcS1Release_controls _).storeOnly.trans hs
  · exact .refl s

theorem tellCaptureEnd_storeOnly (s : State) : (tellCaptureEnd s).StoreOnly s := by
  unfold tellCaptureEnd
  split
  · exact State.storeOnly_setAec ..
  · exact .refl s

theorem captureEnds_storeOnly (s : State) (st : CaptureState) : (captureEnds s st).StoreOnly s := by
  refine (passWithheld_storeOnly _).trans (.trans ?_ (tellCaptureEnd_storeOnly s))
  exact State.storeOnly_setCst rfl rfl rfl

theorem storeStop_storeOnly (s : State) : (storeStop s).StoreOnly s := by
  unfold storeStop
  split
  · exact .refl s
  · exact (captureEnds_storeOnly ..).trans (freeFilling_storeOnly s)

theorem checkCaptureDone_storeOnly (s : State) : (checkCaptureDone s).StoreOnly s := by
  unfold checkCaptureDone
  split
  · exact (captureEnds_storeOnly ..).trans (s.storeOnly_raise _)
  · exact .refl s

/-! ### Trigger and gate (R150 to R152) -/

theorem takeTrigger_storeOnly (s : State) : (takeTrigger s).StoreOnly s := by
  refine (State.storeOnly_setCst ?_ ?_ ?_).trans (s.storeOnly_setAec _)
  all_goals
    dsimp only [State.setAec_cst]
    split <;> rfl

theorem gateExpires_storeOnly (s : State) : (gateExpires s).StoreOnly s := by
  unfold gateExpires
  split
  · exact State.storeOnly_setCst rfl rfl rfl
  · exact (captureEnds_storeOnly ..).trans (s.storeOnly_raise _)

theorem gateSof_storeOnly (s : State) : (gateSof s).StoreOnly s := by
  unfold gateSof
  split
  · split
    · exact State.storeOnly_setCst rfl rfl rfl
    · split
      · exact gateExpires_storeOnly s
      · exact State.storeOnly_setCst rfl rfl rfl
  · exact .refl s

/-! ### A frame at SOF and at EOF (R146 to R149, R153) -/

theorem missFrame_storeOnly (s : State) (part : Part) : (missFrame s part).StoreOnly s :=
  (checkCaptureDone_storeOnly _).trans (State.storeOnly_setCst rfl rfl rfl)

/-- The record of an opened slot is of the output window in force. -/
theorem openSlot_storeOnly (s : State) (i : Nat) (part : Part) (fm : FrameFacts) (n : Nat) :
    (openSlot s i part fm n).StoreOnly s :=
  (setSlot_storeOnly fun _ _ _ hr => .inl (by cases hr; exact ⟨rfl, rfl⟩)).trans (State.storeOnly_setCst rfl rfl rfl)

theorem storeFrame_storeOnly (s : State) (part : Part) (fm : FrameFacts) (n : Nat) :
    (storeFrame s part fm n).StoreOnly s := by
  unfold storeFrame
  split
  · exact openSlot_storeOnly ..
  · split
    · exact (openSlot_storeOnly ..).trans (freeSlotAt_storeOnly ..)
    · exact missFrame_storeOnly ..

theorem storePre_storeOnly (s : State) (fm : FrameFacts) : (storePre s fm).StoreOnly s := by
  unfold storePre
  split
  · split
    · exact (storeFrame_storeOnly ..).trans (freeSlotAt_storeOnly ..)
    · exact missFrame_storeOnly ..
  · exact storeFrame_storeOnly ..

theorem storeFiltered_storeOnly (s : State) (part : Part) (fm : FrameFacts) : (storeFiltered s part fm).StoreOnly s := by
  unfold storeFiltered
  dsimp only
  split
  · exact State.storeOnly_setCst rfl rfl rfl
  · exact (storeFrame_storeOnly ..).trans (State.storeOnly_setCst rfl rfl rfl)

theorem cstSof_storeOnly (s : State) (fm : FrameFacts) : (cstSof s fm).StoreOnly s := by
  refine .trans ?_ (gateSof_storeOnly s)
  unfold cstSof
  dsimp only
  split
  · exact .refl _
  · exact storePre_storeOnly ..
  · exact storeFiltered_storeOnly ..

theorem noticeFiled_storeOnly (s : State) (held : Bool) : (noticeFiled s held).StoreOnly s := by
  unfold noticeFiled
  split
  · exact .refl s
  · exact s.storeOnly_raise _
  · split
    · exact (State.storeOnly_raise ..).trans (State.storeOnly_setCst rfl rfl rfl)
    · exact .refl s
  · exact s.storeOnly_raise _
  · exact .refl s

theorem fileFrame_storeOnly {s : State} {i : Nat} {x : Slot} {r : FrameRecord} (hx : s.cst.slots[i]? = some x)
    (hr : x.record = some r) (b : Bool) : (fileFrame s i x r b).StoreOnly s := by
  refine (checkCaptureDone_storeOnly _).trans ((noticeFiled_storeOnly ..).trans (.trans ?_ (setSlot_storeOnly (i := i)
    (f := fun y => { y with
      state := if meetsHold s.cst.params.hold { r with clippedSubject := b } then .held else .ready
      record := some { r with clippedSubject := b } }) fun y q hy hq => .inr ⟨r, ?_, ?_⟩)))
  · exact State.storeOnly_setCst rfl rfl rfl
  · rw [hx] at hy
    exact Option.some.inj hy ▸ hr
  · cases hq
    exact ⟨rfl, rfl⟩

theorem cstEof_storeOnly (s : State) (b : Bool) : (cstEof s b).StoreOnly s := by
  unfold cstEof
  split
  · split
    · next hx =>
      split
      · next hr => exact fileFrame_storeOnly hx hr b
      · exact .refl s
    · exact .refl s
  · exact .refl s

/-! ### Steps and samples (R131, R142) -/

theorem signalStep_storeOnly (s : State) (m : Motor) : (signalStep s m).StoreOnly s := by
  have hr (s : State) : (s.setCst { s.cst with slots := fillingRecord (recordStep m) s.cst.slots }).StoreOnly s :=
    State.storeOnly_setCst_of rfl rfl (SlotsFrom.fillingRecord _ fun _ => ⟨rfl, rfl⟩)
  refine (hr _).trans ?_
  split <;> split
  all_goals constructor <;> first | rfl | exact SlotsFrom.refl ..

theorem shiftLimitSample_storeOnly (s : State) : (shiftLimitSample s).StoreOnly s := by
  unfold shiftLimitSample
  split
  · refine .trans ?_ (s.storeOnly_raise condShiftLimit)
    exact State.storeOnly_setCst_of rfl rfl (SlotsFrom.fillingRecord _ fun _ => ⟨rfl, rfl⟩)
  · exact .refl s

/-! ### The shutter line (R160, R161) -/

theorem s1Assertion_storeOnly (s : State) : (s1Assertion s).StoreOnly s := by
  have hs : (s.setCst { s.cst with withheldRelease := false }).StoreOnly s := State.storeOnly_setCst rfl rfl rfl
  unfold s1Assertion
  dsimp only
  split
  · exact ((State.grant_controls _).trans (afcS1Assert_controls _)).storeOnly.trans hs
  · exact hs

theorem s1Release_storeOnly (s : State) : (s1Release s).StoreOnly s := by
  unfold s1Release
  split
  · exact State.storeOnly_setCst rfl rfl rfl
  · exact ((State.grant_controls _).trans (afcS1Release_controls _)).storeOnly

theorem s2Assertion_storeOnly (s : State) : (s2Assertion s).StoreOnly s := by
  unfold s2Assertion
  split
  · exact takeTrigger_storeOnly s
  · exact .refl s

theorem shutterActs_storeOnly (s : State) (w : ShutterLine) (b : Bool) : (shutterActs s w b).StoreOnly s := by
  unfold shutterActs
  split
  · split
    · exact s1Assertion_storeOnly s
    · exact s1Release_storeOnly s
    · exact s2Assertion_storeOnly s
    · exact .refl s
  · exact .refl s

theorem setShutter_storeOnly (s : State) (w : ShutterLine) (x : Shutter) :
    (s.setCst (s.cst.setShutter w x)).StoreOnly s := by
  cases w <;> exact State.storeOnly_setCst rfl rfl rfl

theorem debounceTakes_storeOnly (s : State) (w : ShutterLine) : (debounceTakes s w).StoreOnly s := by
  unfold debounceTakes
  dsimp only
  split
  · exact setShutter_storeOnly ..
  · exact (shutterActs_storeOnly ..).trans (setShutter_storeOnly ..)

theorem rawChanges_storeOnly (s : State) (w : ShutterLine) (b : Bool) : (rawChanges s w b).StoreOnly s := by
  unfold rawChanges
  dsimp only
  split
  · exact .refl s
  · split
    · exact (debounceTakes_storeOnly ..).trans (setShutter_storeOnly ..)
    · exact setShutter_storeOnly ..

theorem debounceExpires_storeOnly (s : State) (w : ShutterLine) : (debounceExpires s w).StoreOnly s := by
  unfold debounceExpires
  split
  · exact debounceTakes_storeOnly s w
  · exact .refl s

end Sys2Proof.Machine
end

section
/-! SUPPORT. Which commands and events leave frame number, geometry, working tables, frame memory and fetch alone, with
slots that come from those before: all but eleven. -/

namespace Sys2Proof.Machine

/-- t differs from s in nothing that the store's frames rest on: geometry, frame memory, fetch and whether a final line is
being sent are the same, and the slots come from those of s. -/
structure State.FramesKept (t s : State) : Prop where
  geometry : t.intake.geometry = s.intake.geometry
  dram : t.cst.dram = s.cst.dram
  fetch : t.cst.fetch = s.cst.fetch
  slots : SlotsFrom s.intake.geometry t.cst.slots s.cst.slots
  final : sendingFinal t.lnk = sendingFinal s.lnk

theorem State.FramesKept.trans {s t u : State} (h : u.FramesKept t) (k : t.FramesKept s) : u.FramesKept s where
  geometry := h.geometry.trans k.geometry
  dram := h.dram.trans k.dram
  fetch := h.fetch.trans k.fetch
  slots := (k.geometry ▸ h.slots).trans k.slots
  final := h.final.trans k.final

/-- Nor in the frame number and the working tables. -/
structure State.Quiet (t s : State) : Prop extends State.FramesKept t s where
  fn : t.intake.fn = s.intake.fn
  working : ∀ id, t.working id = s.working id

theorem State.Quiet.trans {s t u : State} (h : u.Quiet t) (k : t.Quiet s) : u.Quiet s where
  toFramesKept := h.toFramesKept.trans k.toFramesKept
  fn := h.fn.trans k.fn
  working id := (h.working id).trans (k.working id)

theorem State.working_congr {s t : State} (h : t.lnk.tables = s.lnk.tables) (id : Nat) : t.working id = s.working id := by
  unfold State.working
  rw [State.table_congr h]

/-- An update outside INTAKE, the store and the link. -/
theorem State.Quiet.of_eq {s t : State} (hi : t.intake = s.intake) (hc : t.cst = s.cst) (hl : t.lnk = s.lnk) : t.Quiet s where
  fn := congrArg Intake.fn hi
  geometry := congrArg Intake.geometry hi
  working := State.working_congr (congrArg Lnk.tables hl)
  dram := congrArg Cst.dram hc
  fetch := congrArg Cst.fetch hc
  slots := hc ▸ SlotsFrom.refl ..
  final := congrArg sendingFinal hl

theorem State.Quiet.refl (s : State) : s.Quiet s := .of_eq rfl rfl rfl

theorem State.StoreOnly.quiet {s t : State} (h : t.StoreOnly s) : t.Quiet s where
  fn := congrArg Intake.fn h.intake
  geometry := congrArg Intake.geometry h.intake
  working := State.working_congr (congrArg Lnk.tables h.lnk)
  dram := h.dram
  fetch := h.fetch
  slots := h.slots
  final := congrArg sendingFinal h.lnk

theorem State.ControlsOnly.quiet {s t : State} (h : t.ControlsOnly s) : t.Quiet s := h.storeOnly.quiet

/-- An update of the link that keeps the tables and the packet being sent. -/
theorem State.quiet_setLnk {s : State} {l : Lnk} (ht : l.tables = s.lnk.tables) (hs : l.sending = s.lnk.sending) :
    (s.setLnk l).Quiet s where
  fn := rfl
  geometry := rfl
  working := State.working_congr ht
  dram := rfl
  fetch := rfl
  slots := SlotsFrom.refl ..
  final := by simp [sendingFinal, hs]

/-- An update of INTAKE that keeps frame number and geometry. -/
theorem State.quiet_setIntake {s : State} {i : Intake} (hf : i.fn = s.intake.fn) (hg : i.geometry = s.intake.geometry) :
    (s.setIntake i).Quiet s where
  fn := hf
  geometry := hg
  working _ := rfl
  dram := rfl
  fetch := rfl
  slots := SlotsFrom.refl ..
  final := rfl

theorem State.quiet_setLds (s : State) (l : Lds) : (s.setLds l).Quiet s := .of_eq rfl rfl rfl
theorem State.quiet_setAec (s : State) (a : Aec) : (s.setAec a).Quiet s := .of_eq rfl rfl rfl
theorem State.quiet_setAfc (s : State) (a : Afc) : (s.setAfc a).Quiet s := .of_eq rfl rfl rfl
theorem State.quiet_setMou (s : State) (m : Mou) : (s.setMou m).Quiet s := .of_eq rfl rfl rfl
theorem State.quiet_setCnd (s : State) (c : Cnd) : (s.setCnd c).Quiet s := .of_eq rfl rfl rfl
theorem State.quiet_raise (s : State) (k : Nat) : (s.raise k).Quiet s := s.quiet_setCnd _
theorem State.quiet_level (s : State) (k : Nat) (b : Bool) : (s.level k b).Quiet s := s.quiet_setCnd _
theorem State.quiet_grant (s : State) : s.grant.Quiet s := s.grant_controls.quiet

/-- Whichever way a test goes. -/
theorem State.quiet_ite {p : Prop} [Decidable p] {s t u : State} (h : t.Quiet s) (k : u.Quiet s) :
    (if p then t else u).Quiet s := by
  split <;> assumption

/-! ### Frames (R8 to R10) -/

theorem truncatedWork_quiet (s : State) : (truncatedWork s).Quiet s :=
  (freeFilling_storeOnly _).quiet.trans ((State.quiet_setAfc ..).trans ((aecEof_controls _ _).quiet.trans
    (.of_eq rfl rfl rfl)))

theorem truncateFrame_quiet (s : State) (c : TruncationCause) : (truncateFrame s c).Quiet s := by
  have h : (truncatedWork (s.setIntake { s.intake with mode := .waiting })).Quiet s :=
    (truncatedWork_quiet _).trans (State.quiet_setIntake rfl rfl)
  unfold truncateFrame
  dsimp only
  split
  · exact (State.quiet_raise ..).trans h
  · exact h

theorem focusEof_quiet (s : State) (rs : List WindowRecord) (b : Bool) : (focusEof s rs b).Quiet s := by
  have hf (u : State) : (afcFigures u u.intake.fn rs).grant.Quiet u :=
    (State.quiet_grant _).trans (afcFigures_controls ..).quiet
  have hd (u : State) : (afcDisturbance u).grant.Quiet u := (State.quiet_grant _).trans (afcDisturbance_controls u).quiet
  have hc : (s.setChoices (s.choices + 1)).Quiet s := .of_eq rfl rfl rfl
  unfold focusEof
  dsimp only
  split
  · split
    · split
      · exact (hd _).trans ((hf _).trans hc)
      · exact (hf _).trans ((hd _).trans hc)
    · exact (hf _).trans (hd s)
  · exact hf s

theorem eofWork_quiet (s : State) (m : Measurement) : (eofWork s m).Quiet s :=
  (cstEof_storeOnly ..).quiet.trans ((focusEof_quiet ..).trans ((aecEof_controls ..).quiet.trans (.of_eq rfl rfl rfl)))

theorem frameEndPacket_quiet (s : State) : (frameEndPacket s).Quiet s := by
  have hw : (s.setIntake { s.intake with mode := .waiting }).Quiet s := State.quiet_setIntake rfl rfl
  unfold frameEndPacket
  split
  · split
    · exact truncateFrame_quiet ..
    · unfold completeFrame
      dsimp only
      split
      · exact (eofWork_quiet ..).trans hw
      · exact (truncatedWork_quiet _).trans hw
  · exact .refl s

theorem timeoutExpires_quiet (s : State) : (timeoutExpires s).Quiet s := by
  unfold timeoutExpires
  split
  · have ht : (if (s.raise condSensorStall).intake.mode = .inFrame then truncateFrame (s.raise condSensorStall) .timeout
        else s.raise condSensorStall).Quiet s :=
      State.quiet_ite ((truncateFrame_quiet ..).trans (s.quiet_raise _)) (s.quiet_raise _)
    refine .trans ?_ ht
    exact State.quiet_setIntake rfl rfl
  · exact .refl s

/-! ### The lens drive (R66, R74, R76) -/

theorem losePosition_quiet (s : State) (m : Move) : (losePosition s m).Quiet s := by
  have hm (ks : List Source) (u : State) : (ks.foldl moveLost u).Quiet u := by
    induction ks generalizing u with
    | nil => exact .refl u
    | cons k ks ih => exact (ih _).trans (moveLost_controls u k).quiet
  unfold losePosition
  dsimp only
  refine (State.quiet_grant _).trans ?_
  split
  · exact (afcFocusInvalid_controls _).quiet.trans ((hm _ _).trans (.of_eq rfl rfl rfl))
  · exact (hm _ _).trans (.of_eq rfl rfl rfl)

theorem takeStep_quiet (s : State) (m : Move) (sample : LensSample) : (takeStep s m sample).Quiet s := by
  unfold takeStep
  dsimp only
  have hs (l : Lds) : (signalStep (s.setLds l) m.motor).Quiet s :=
    (signalStep_storeOnly ..).quiet.trans (s.quiet_setLds l)
  split
  · exact (losePosition_quiet ..).trans (hs _)
  · split
    · exact (endComplete_controls ..).quiet.trans (hs _)
    · exact (State.quiet_setLds ..).trans (hs _)

theorem boundaryOn_quiet (s : State) (m : Move) (sample : LensSample) : (boundaryOn s m sample).Quiet s := by
  unfold boundaryOn
  split
  · exact (preempt_controls ..).quiet
  · split
    · dsimp only
      split
      · exact (endComplete_controls ..).quiet
      · exact takeStep_quiet ..
    · exact takeStep_quiet ..

theorem stepBoundary_quiet (s : State) (sample : LensSample) (b : Bool) : (stepBoundary s sample b).Quiet s := by
  unfold stepBoundary
  split
  · exact .refl s
  · split
    · split
      · exact boundaryOn_quiet ..
      · exact (endStopped_controls ..).quiet
    · exact boundaryOn_quiet ..

theorem nextPhase_quiet (s : State) (m : Motor) : (nextPhase s m).Quiet s := by
  cases m with
  | iris => exact s.quiet_setLds _
  | focus => exact s.quiet_setLds _
  | zoom => exact (State.quiet_grant _).trans (.of_eq rfl rfl rfl)

theorem referenceStep_quiet (s : State) (sample : LensSample) : (referenceStep s sample).Quiet s := by
  unfold referenceStep
  split
  · exact .refl s
  · next r _ =>
    have hs (l : Lds) : (signalStep (s.setLds l) r.motor).Quiet s :=
      (signalStep_storeOnly ..).quiet.trans (s.quiet_setLds l)
    dsimp only
    split
    · exact (State.quiet_grant _).trans (s.quiet_setLds _)
    · split
      · exact (nextPhase_quiet ..).trans ((State.quiet_setLds ..).trans (hs _))
      · split
        · exact (nextPhase_quiet ..).trans ((State.quiet_raise ..).trans (hs _))
        · exact (State.quiet_setLds ..).trans (hs _)

theorem lensStop_quiet (s : State) : (lensStop s).Quiet s := by
  unfold lensStop
  dsimp only
  split <;> exact .of_eq rfl rfl rfl

/-! ### Motion (R120, R128, R133) -/

theorem rateSample_quiet (s : State) (seq : Nat) (yaw pitch : Int) : (rateSample s seq yaw pitch).Quiet s := by
  unfold rateSample
  dsimp only
  have hg (b : Prop) [Decidable b] : (if b then s else s.raise condMotionGap).Quiet s := by
    split
    · exact .refl s
    · exact s.quiet_raise _
  split
  · exact hg _
  · exact (shiftLimitSample_storeOnly _).quiet.trans ((State.quiet_level ..).trans ((State.quiet_setMou ..).trans (hg _)))

theorem takeReadback_quiet (s : State) (r : AxisPair) : (takeReadback s r).Quiet s := by
  unfold takeReadback
  dsimp only
  repeat' split
  all_goals exact .of_eq rfl rfl rfl

/-! ### Host commands (R176) -/

/-- A command is quiet when its block is. -/
theorem takeCommand_quiet {i : Instr} {s : State} {tag : Tag} {code : Byte} {block : State → State × Answer}
    (h : ∀ u, (block u).1.Quiet u) : (takeCommand i tag code block s).Quiet s := by
  refine State.quiet_ite ?_ (.refl s)
  refine .trans ?_ ((h _).trans (State.quiet_setLnk (l := lnkTake s.lnk tag) rfl rfl))
  exact State.quiet_setLnk rfl rfl

theorem hostCommand_quiet {α : Type} {i : Instr} {s : State} {tag : Tag} {code : Byte} {p : Payload α}
    {block : α → State → State × Answer} (h : ∀ a u, (block a u).1.Quiet u) :
    (hostCommand i tag code p block s).Quiet s :=
  takeCommand_quiet fun u => by
    cases p with
    | args a => exact h a u
    | wrongLength => exact .refl u

theorem aeModeChanges_quiet (s : State) (st : AeState) : (aeModeChanges s st).Quiet s := by
  have h (a : Aec) : (aecEnter (s.setAec a) st).Quiet s := (aecEnter_controls ..).quiet.trans (s.quiet_setAec _)
  exact State.quiet_ite ((State.cancelMove_controls ..).quiet.trans (h _)) (h _)

theorem aeMode_quiet (n : Nat) (s : State) : (aeMode n s).1.Quiet s := by
  unfold aeMode
  split
  · exact .refl s
  · split
    · exact .refl s
    · exact State.quiet_ite (.refl s) (aeModeChanges_quiet ..)

theorem lensSetup_quiet (a : LensSetupArgs) (s : State) : (lensSetup a s).1.Quiet s := by
  unfold lensSetup lensSetupTaken
  dsimp only
  repeat' split
  · exact .refl s
  · exact .refl s
  · exact (afcFocusInvalid_controls _).quiet.trans (s.quiet_setLds _)
  · exact s.quiet_setLds _
  · exact s.quiet_setLds _

theorem focusMove_quiet (a : MoveArgs) (s : State) : (focusMove a s).1.Quiet s := by
  unfold focusMove
  dsimp only
  repeat' split
  iterate 3 exact .refl s
  exact (State.quiet_grant _).trans (State.place_controls ..).quiet

theorem lensReference_quiet (s : State) : (lensReference s).1.Quiet s := by
  unfold lensReference
  repeat' split
  iterate 2 exact .refl s
  exact s.quiet_setLds _

theorem lensPark_quiet (s : State) : (lensPark s).1.Quiet s := by
  unfold lensPark
  repeat' split
  iterate 3 exact .refl s
  exact (State.quiet_grant _).trans (parkRequest_controls ..).quiet

theorem afSetupTaken_quiet (s : State) (c : AfChoice) (a : AfSetupArgs) : (afSetupTaken s c a).Quiet s := by
  unfold afSetupTaken
  dsimp only
  split
  · split
    · exact (afcEnter_controls ..).quiet.trans (s.quiet_setAfc _)
    · exact s.quiet_setAfc _
  · exact s.quiet_setAfc _

theorem afSetup_quiet (a : AfSetupArgs) (s : State) : (afSetup a s).1.Quiet s := by
  unfold afSetup
  repeat' split
  iterate 2 exact .refl s
  exact afSetupTaken_quiet ..

theorem afStart_quiet (s : State) : (afStart s).1.Quiet s := by
  unfold afStart
  split
  · exact .refl s
  · exact (State.quiet_grant _).trans (afcScanStart_controls s).quiet

theorem zoomTo_quiet (a : MoveArgs) (s : State) : (zoomTo a s).1.Quiet s := by
  unfold zoomTo
  split
  · exact .refl s
  · exact (State.quiet_grant _).trans (zmcCommand_controls ..).quiet

theorem zoomBy_quiet (a : ZoomByArgs) (s : State) : (zoomBy a s).1.Quiet s := by
  unfold zoomBy
  split
  · exact .refl s
  · exact (State.quiet_grant _).trans (zmcCommand_controls ..).quiet

theorem storeStart_quiet (s : State) : (storeStart s).1.Quiet s := by
  unfold storeStart
  split
  · exact .refl s
  · dsimp only
    split
    · exact .refl s
    · refine (State.storeOnly_setCst ?_ ?_ ?_).quiet <;> split <;> rfl

theorem triggerCommand_quiet (s : State) : (triggerCommand s).1.Quiet s := by
  unfold triggerCommand
  split
  · exact .refl s
  · exact (takeTrigger_storeOnly s).quiet

/-- A command on one slot is quiet when its effect is the store's alone (R155). -/
theorem slotCommand_quiet {need : SlotState} {effect : State → Nat → State} (h : ∀ s n, (effect s n).StoreOnly s) (n : Nat)
    (s : State) : (slotCommand need effect n s).1.Quiet s := by
  unfold slotCommand
  split
  · exact .refl s
  · split
    · exact (h s n).quiet
    · exact .refl s

theorem acceptSlot_storeOnly (s : State) (n : Nat) : (acceptSlot s n).StoreOnly s :=
  (autoRelease_storeOnly ..).trans (setSlot_storeOnly_of_record fun _ => rfl)

theorem shutterSetup_quiet (a : ShutterSetupArgs) (s : State) : (shutterSetup a s).1.Quiet s := by
  unfold shutterSetup
  split
  · refine State.StoreOnly.quiet ?_
    exact State.storeOnly_setCst rfl rfl rfl
  · exact .refl s

/-- A load writes the pending copy alone (R180). -/
theorem loadTable_quiet (a : TableLoadArgs) (s : State) : (loadTable a s).1.Quiet s := by
  unfold loadTable
  repeat' split
  iterate 3 exact .refl s
  exact {
    fn := rfl
    geometry := rfl
    working := fun id => by
      simp only [State.working, State.table, State.modifyTable, State.setLnk_lnk, lnkModifyTable,
        List.getD_eq_getElem?_getD, getElem?_modifyAt]
      split
      · cases s.lnk.tables[id]? <;> rfl
      · rfl
    dram := rfl
    fetch := rfl
    slots := SlotsFrom.refl ..
    final := rfl }

/-! ### Every command and event but eleven -/

/-- The commands and events after which frame number, geometry, working tables, frame memory, fetch or slots may be
others: the power-on reset, a frame's start, its lines, PATH_SETUP and PATH_STOP, STORE_SETUP, the fetch and its packets,
TABLE_COMMIT and RESET. -/
def touchesFrames : Instr → Bool
  | .powerOnReset _ | .frameStart | .line _ | .pathSetup _ _ | .pathStop _ _ | .storeSetup _ _ | .fetch _ _
  | .sendAbort _ _ | .tableCommit _ _ | .reset _ _ | .packetBoundary => true
  | _ => false

/-- Any other command or event completes and is quiet. -/
theorem exec_quiet {i : Instr} (hi : touchesFrames i = false) (s : State) : ∃ t, exec i s = .next t ∧ t.Quiet s := by
  cases i with
  | powerOnReset | frameStart | line | pathSetup | pathStop | storeSetup | fetch | sendAbort | tableCommit | reset
  | packetBoundary => cases hi
  | frameEnd => exact ⟨_, rfl, frameEndPacket_quiet s⟩
  | frameTimeout => exact ⟨_, rfl, timeoutExpires_quiet s⟩
  | upstreamPacket bytes =>
    refine ⟨_, rfl, State.quiet_setLnk ?_ ?_⟩ <;> unfold lnkReceive <;> split <;> first | rfl | (split <;> rfl)
  | unknownCommand tag code => exact ⟨_, rfl, takeCommand_quiet fun u => .refl u⟩
  | pathStart =>
    refine ⟨_, rfl, hostCommand_quiet fun _ u => ?_⟩
    unfold pathStart
    split
    · exact State.quiet_setIntake rfl rfl
    · exact .refl u
  | statsSetup => exact ⟨_, rfl, hostCommand_quiet fun _ _ => .of_eq rfl rfl rfl⟩
  | aeMode => exact ⟨_, rfl, hostCommand_quiet aeMode_quiet⟩
  | aeSetup =>
    refine ⟨_, rfl, hostCommand_quiet fun _ _ => ?_⟩
    unfold aeSetup
    split <;> exact .of_eq rfl rfl rfl
  | aeManual =>
    refine ⟨_, rfl, hostCommand_quiet fun _ _ => ?_⟩
    unfold aeManual
    repeat' split
    all_goals exact .of_eq rfl rfl rfl
  | lensSetup => exact ⟨_, rfl, hostCommand_quiet lensSetup_quiet⟩
  | focusMove => exact ⟨_, rfl, hostCommand_quiet focusMove_quiet⟩
  | lensStop => exact ⟨_, rfl, hostCommand_quiet fun _ => lensStop_quiet⟩
  | lensReference => exact ⟨_, rfl, hostCommand_quiet fun _ => lensReference_quiet⟩
  | lensPark => exact ⟨_, rfl, hostCommand_quiet fun _ => lensPark_quiet⟩
  | afSetup => exact ⟨_, rfl, hostCommand_quiet afSetup_quiet⟩
  | afStart => exact ⟨_, rfl, hostCommand_quiet fun _ => afStart_quiet⟩
  | afCancel => exact ⟨_, rfl, hostCommand_quiet fun _ u => (afcCancel_controls u).quiet⟩
  | afHistory => exact ⟨_, rfl, hostCommand_quiet fun _ u => .refl u⟩
  | zoomSetup =>
    refine ⟨_, rfl, hostCommand_quiet fun _ _ => ?_⟩
    unfold zoomSetup
    split <;> exact .of_eq rfl rfl rfl
  | zoomTo => exact ⟨_, rfl, hostCommand_quiet zoomTo_quiet⟩
  | zoomBy => exact ⟨_, rfl, hostCommand_quiet zoomBy_quiet⟩
  | zoomStop => exact ⟨_, rfl, hostCommand_quiet fun _ u => (State.quiet_grant _).trans (zmcStop_controls u).quiet⟩
  | stabMode =>
    refine ⟨_, rfl, hostCommand_quiet fun _ _ => ?_⟩
    unfold stabModeCommand
    repeat' split
    all_goals exact .of_eq rfl rfl rfl
  | stabCenter => exact ⟨_, rfl, hostCommand_quiet fun _ u => u.quiet_setMou _⟩
  | stabSetup =>
    refine ⟨_, rfl, hostCommand_quiet fun _ _ => ?_⟩
    unfold stabSetup
    split <;> exact .of_eq rfl rfl rfl
  | storeStart => exact ⟨_, rfl, hostCommand_quiet fun _ => storeStart_quiet⟩
  | storeStop => exact ⟨_, rfl, hostCommand_quiet fun _ u => (storeStop_storeOnly u).quiet⟩
  | trigger => exact ⟨_, rfl, hostCommand_quiet fun _ => triggerCommand_quiet⟩
  | accept => exact ⟨_, rfl, hostCommand_quiet (slotCommand_quiet acceptSlot_storeOnly)⟩
  | discard => exact ⟨_, rfl, hostCommand_quiet (slotCommand_quiet freeSlotAt_storeOnly)⟩
  | release => exact ⟨_, rfl, hostCommand_quiet (slotCommand_quiet freeSlotAt_storeOnly)⟩
  | noticeArm =>
    refine ⟨_, rfl, hostCommand_quiet fun _ _ => State.StoreOnly.quiet ?_⟩
    exact State.storeOnly_setCst rfl rfl rfl
  | shutterSetup => exact ⟨_, rfl, hostCommand_quiet shutterSetup_quiet⟩
  | conditionsSetup =>
    refine ⟨_, rfl, hostCommand_quiet fun _ _ => ?_⟩
    unfold conditionsSetup
    split <;> exact .of_eq rfl rfl rfl
  | conditionsClear =>
    refine ⟨_, rfl, hostCommand_quiet fun _ _ => ?_⟩
    unfold conditionsClear
    split <;> exact .of_eq rfl rfl rfl
  | tableLoad => exact ⟨_, rfl, hostCommand_quiet loadTable_quiet⟩
  | tableRead =>
    refine ⟨_, rfl, hostCommand_quiet fun _ _ => ?_⟩
    unfold readTable
    repeat' split
    all_goals exact .refl _
  | statusQuery => exact ⟨_, rfl, hostCommand_quiet fun _ u => .refl u⟩
  | resetCompletion =>
    refine ⟨_, rfl, ?_⟩
    unfold resetCompletes
    split
    · exact State.quiet_ite (State.quiet_setLnk rfl rfl) (.refl s)
    · exact .refl s
  | stepBoundary => exact ⟨_, rfl, stepBoundary_quiet ..⟩
  | referenceStep => exact ⟨_, rfl, referenceStep_quiet ..⟩
  | writeItemAcknowledged => exact ⟨_, rfl, (itemAcknowledged_controls s).quiet⟩
  | writeItemNotAcknowledged => exact ⟨_, rfl, (itemNotAcknowledged_controls s).quiet⟩
  | rateSample => exact ⟨_, rfl, rateSample_quiet ..⟩
  | readback => exact ⟨_, rfl, takeReadback_quiet ..⟩
  | strobeRise => exact ⟨_, rfl, State.quiet_ite (.refl s) (s.quiet_setMou _)⟩
  | strobeFall => exact ⟨_, rfl, State.quiet_ite (s.quiet_setMou _) (.refl s)⟩
  | shutterLevelChange => exact ⟨_, rfl, (rawChanges_storeOnly ..).quiet⟩
  | debounceExpiry => exact ⟨_, rfl, (debounceExpires_storeOnly ..).quiet⟩
  | gateExpiry => exact ⟨_, rfl, State.quiet_ite (gateExpires_storeOnly s).quiet (.refl s)⟩
  | settleTimeout =>
    exact ⟨_, rfl, State.quiet_ite ((State.quiet_grant _).trans (afcSettleSof_controls ..).quiet) (.refl s)⟩
  | timedLatchExpiry => exact ⟨_, rfl, State.quiet_ite (.refl s) (s.quiet_setCnd _)⟩

end Sys2Proof.Machine
end

section
/-! SUPPORT. What applying the pending commits changes (R182): the tables, AEC's held settings and the conditions. -/

namespace Sys2Proof.Machine

/-- t differs from s at most in AEC, the conditions and the tables. -/
structure State.CommitsOnly (t s : State) : Prop where
  intake : t.intake = s.intake
  pxp : t.pxp = s.pxp
  stats : t.stats = s.stats
  lds : t.lds = s.lds
  afc : t.afc = s.afc
  zmc : t.zmc = s.zmc
  mou : t.mou = s.mou
  cst : t.cst = s.cst
  link : t.lnk = { s.lnk with tables := t.lnk.tables }
  choices : t.choices = s.choices
  pending : t.pending = s.pending

theorem State.CommitsOnly.refl (s : State) : s.CommitsOnly s := by constructor <;> rfl

theorem State.CommitsOnly.trans {s t u : State} (h : u.CommitsOnly t) (k : t.CommitsOnly s) : u.CommitsOnly s where
  intake := h.intake.trans k.intake
  pxp := h.pxp.trans k.pxp
  stats := h.stats.trans k.stats
  lds := h.lds.trans k.lds
  afc := h.afc.trans k.afc
  zmc := h.zmc.trans k.zmc
  mou := h.mou.trans k.mou
  cst := h.cst.trans k.cst
  link := by rw [h.link, k.link]
  choices := h.choices.trans k.choices
  pending := h.pending.trans k.pending

theorem applyCommit_commitsOnly (s : State) (id : Nat) : (applyCommit s id).CommitsOnly s := by
  unfold applyCommit
  split
  · constructor <;> rfl
  · exact .refl s

theorem aecClamp_commitsOnly (s : State) : (aecClamp s).CommitsOnly s := by constructor <;> rfl

theorem applyCommits_commitsOnly (s : State) : (applyCommits s).CommitsOnly s := by
  have hf (ks : List Nat) (u : State) : (ks.foldl applyCommit u).CommitsOnly u := by
    induction ks generalizing u with
    | nil => exact .refl u
    | cons k ks ih => exact (ih _).trans (applyCommit_commitsOnly u k)
  unfold applyCommits
  dsimp only
  split
  · exact (aecClamp_commitsOnly _).trans (hf _ s)
  · exact hf _ s

theorem applyIfStopped_commitsOnly (s : State) : (applyIfStopped s).CommitsOnly s := by
  unfold applyIfStopped
  split
  · exact applyCommits_commitsOnly s
  · exact .refl s

/-! ### Reading the tables through a change of one -/

/-- A table after a change of table id. -/
theorem State.table_modifyTable (s : State) (id k : Nat) (f : Table → Table) :
    (s.modifyTable id f).table k = if id = k ∧ k < s.lnk.tables.length then f (s.table k) else s.table k := by
  simp only [State.table, State.modifyTable, State.setLnk_lnk, lnkModifyTable, List.getD_eq_getElem?_getD, getElem?_modifyAt]
  by_cases hk : k < s.lnk.tables.length
  · by_cases h : id = k <;> simp [h, hk]
  · simp [hk]

@[simp] theorem State.raise_table (s : State) (j k : Nat) : (s.raise j).table k = s.table k := rfl

theorem applyCommit_table (s : State) (id k : Nat) :
    (applyCommit s id).table k =
      if id = k ∧ k < s.lnk.tables.length ∧ (s.table k).commitPending = true then (s.table k).applied else s.table k := by
  unfold applyCommit
  split
  · next h =>
    rw [State.raise_table, State.table_modifyTable]
    by_cases hk : id = k
    · subst hk
      simp [h]
    · simp [hk]
  · next h =>
    by_cases hk : id = k
    · subst hk
      simp [h]
    · simp [hk]

theorem applyCommit_tables_length (s : State) (id : Nat) :
    (applyCommit s id).lnk.tables.length = s.lnk.tables.length := by
  unfold applyCommit
  split
  · exact length_modifyAt ..
  · rfl

/-- Applying a run of commits, each table once. -/
theorem foldl_applyCommit_table (ks : List Nat) (hks : ks.Nodup) (s : State) (k : Nat) :
    (ks.foldl applyCommit s).table k =
      if k ∈ ks ∧ k < s.lnk.tables.length ∧ (s.table k).commitPending = true then (s.table k).applied else s.table k := by
  induction ks generalizing s with
  | nil => simp
  | cons j ks ih =>
    obtain ⟨hj, hks⟩ := List.nodup_cons.1 hks
    rw [List.foldl_cons, ih hks, applyCommit_table, applyCommit_tables_length]
    by_cases h : j = k
    · subst h
      simp [hj]
    · simp [h, Ne.symm h]

theorem applyCommits_table_foldl (s : State) (k : Nat) :
    (applyCommits s).table k = ((List.range 14).foldl applyCommit s).table k := by
  have hc (u : State) : (aecClamp u).table k = u.table k := rfl
  unfold applyCommits
  dsimp only
  split
  · exact hc _
  · rfl

/-- Every table with a commit pending takes its pending copy (R182). -/
theorem applyCommits_table {s : State} (hl : s.lnk.tables.length = 14) (k : Nat) :
    (applyCommits s).table k = if (s.table k).commitPending = true then (s.table k).applied else s.table k := by
  rw [applyCommits_table_foldl, foldl_applyCommit_table _ List.nodup_range]
  by_cases hk : k < 14
  · simp [hl, hk]
  · have : s.table k = resetTable := by
      simp [State.table, List.getD_eq_getElem?_getD, hl, Nat.not_lt.1 hk]
    simp [hk, this, resetTable]

end Sys2Proof.Machine
end

section
/-! SUPPORT. Every frame fits its slot (R3, R140, R145), and so no line is stored or sent beyond the frame memory. -/

namespace Sys2Proof.Machine

/-! ### Sizes (R140) -/

theorem mul_slotSize_le (n : Nat) : n * slotSize n ≤ Config.frameMemoryBytes := Nat.mul_div_le ..

/-- The lines of an output window of geometry g take no more than the bytes of its stored frame. -/
theorem lines_le_storedBytes (g : Geometry) : g.outH * lineBytes g.outW ≤ storedBytes g := by
  unfold lineBytes storedBytes
  rw [Nat.le_div_iff_mul_le (by omega)]
  calc g.outH * (g.outW * 3 / 2) * 2 = g.outH * (g.outW * 3 / 2 * 2) := by ring
    _ ≤ g.outH * (g.outW * 3) := Nat.mul_le_mul_left _ (Nat.div_mul_le_self ..)
    _ = g.outW * g.outH * 3 := by ring

/-- A line of a frame that fits its slot ends within the frame memory. -/
theorem lineAddress_add_le {n i w h k : Nat} (hfit : h * lineBytes w ≤ slotSize n) (hi : i < n) (hk : k < h) :
    lineAddress n i w k + lineBytes w ≤ Config.frameMemoryBytes := by
  have hline : (k + 1) * lineBytes w ≤ slotSize n := (Nat.mul_le_mul_right _ hk).trans hfit
  have hslot : (i + 1) * slotSize n ≤ n * slotSize n := Nat.mul_le_mul_right _ hi
  have := mul_slotSize_le n
  unfold lineAddress
  rw [Nat.add_mul, Nat.one_mul] at hline hslot
  omega

/-! ### Keeping every frame within its slot -/

theorem State.FramesKept.of_eq {s t : State} (hi : t.intake = s.intake) (hc : t.cst = s.cst)
    (hl : t.lnk.sending = s.lnk.sending) : t.FramesKept s where
  geometry := congrArg Intake.geometry hi
  dram := congrArg Cst.dram hc
  fetch := congrArg Cst.fetch hc
  slots := hc ▸ SlotsFrom.refl ..
  final := by unfold sendingFinal; rw [hl]

theorem State.FramesFit.of_framesKept {s t : State} (hs : s.FramesFit) (h : t.FramesKept s) : t.FramesFit := by
  obtain ⟨hgeo, hrec, hfin⟩ := hs
  obtain ⟨hlen, hfrom⟩ := h.slots
  refine ⟨by rw [h.geometry, hlen]; exact hgeo, fun i y r hy hr => ?_, ?_⟩
  · unfold FitsSlot Cst.awaitsAbort
    rw [hlen, h.fetch]
    obtain ⟨hw, hh⟩ | ⟨x, q, hx, hq, hw, hh⟩ := hfrom i y r hy hr
    · rw [hw, hh]
      exact .inl ((lines_le_storedBytes _).trans hgeo)
    · rw [hw, hh]
      exact hrec i x q hx hq
  · rw [h.fetch, h.final]
    exact hfin

/-- Without an aborted fetch every stored frame fits its slot. -/
theorem State.FramesFit.fits_of_fetch {s : State} (hs : s.FramesFit)
    (hf : ∀ f, s.cst.fetch = some f → f.aborted = true → f.freeAtEnd = true → False) {i : Nat} {x : Slot} {r : FrameRecord}
    (hx : s.cst.slots[i]? = some x) (hr : x.record = some r) : FitsSlot s.cst.slots.length r := by
  obtain h | ⟨f, hff, ha, he, -⟩ := hs.2.1 i x r hx hr
  · exact h
  · exact (hf f hff ha he).elim

/-- The fetch may be replaced where no slot is then left that waited for its ABORT packet, and no final line of an aborted
fetch is sent. -/
theorem State.FramesFit.of_fetch {s t : State} (hs : s.FramesFit) (hg : t.intake.geometry = s.intake.geometry)
    (hslots : SlotsFrom s.intake.geometry t.cst.slots s.cst.slots)
    (hfit : (∀ f, s.cst.fetch = some f → f.aborted = true → f.freeAtEnd = true → ∃ f', t.cst.fetch = some f' ∧
      f'.aborted = true ∧ f'.freeAtEnd = true ∧ f'.slot = f.slot))
    (hfin : ∀ f, t.cst.fetch = some f → f.aborted = true → f.image = true ∧ sendingFinal t.lnk = false) : t.FramesFit := by
  obtain ⟨hgeo, hrec, -⟩ := hs
  obtain ⟨hlen, hfrom⟩ := hslots
  refine ⟨by rw [hg, hlen]; exact hgeo, fun i y r hy hr => ?_, hfin⟩
  unfold FitsSlot Cst.awaitsAbort
  rw [hlen]
  obtain ⟨hw, hh⟩ | ⟨x, q, hx, hq, hw, hh⟩ := hfrom i y r hy hr
  · rw [hw, hh]
    exact .inl ((lines_le_storedBytes _).trans hgeo)
  · rw [hw, hh]
    obtain h | ⟨f, hff, ha, he, hsl⟩ := hrec i x q hx hq
    · exact .inl h
    · obtain ⟨f', hf', ha', he', hsl'⟩ := hfit f hff ha he
      exact .inr ⟨f', hf', ha', he', hsl'.trans hsl⟩

theorem State.framesFit_setLnk {s : State} {l : Lnk} (hs : s.FramesFit) (hl : l.sending = s.lnk.sending) :
    (s.setLnk l).FramesFit := hs.of_framesKept (.of_eq rfl rfl hl)

/-- A host command keeps every frame within its slot when its block does. -/
theorem hostCommand_framesFit {α : Type} {i : Instr} {s : State} {tag : Tag} {code : Byte} {p : Payload α}
    {block : α → State → State × Answer} (hs : s.FramesFit)
    (h : ∀ a u, u.FramesFit → (block a u).1.FramesFit) : (hostCommand i tag code p block s).FramesFit := by
  unfold hostCommand takeCommand
  split
  · refine State.framesFit_setLnk ?_ rfl
    have htake := State.framesFit_setLnk (l := lnkTake s.lnk tag) hs rfl
    cases p with
    | args a => exact h a _ htake
    | wrongLength => exact htake
  · exact hs

/-! ### The commands and events that touch frames -/

theorem resetStore_fits : storedBytes resetIntake.geometry ≤ slotSize (List.replicate 12 freeSlot).length := by decide

theorem powerOn_framesFit (lines : LineLevels) (s : State) : (powerOn s lines).FramesFit := by
  refine ⟨resetStore_fits, fun i x r hx hr => ?_, fun f hf => by cases hf⟩
  cases List.eq_of_mem_replicate (List.mem_of_getElem? hx)
  cases hr

theorem sofWork_framesKept (s : State) : (sofWork s).FramesKept s := by
  have hm (u : State) : (mouSof u).1.FramesKept u := by
    unfold mouSof
    dsimp only
    split <;> exact .of_eq rfl rfl rfl
  have hc := applyCommits_commitsOnly s
  have happ : (applyCommits s).FramesKept s := .of_eq hc.intake hc.cst (by rw [hc.link])
  have htimed (u : State) : (timedSof u).FramesKept u := (u.quiet_setCnd _).toFramesKept
  have hsof (subject : List Nat) :=
    (hm _).trans ((aecSof_controls _ subject).quiet.toFramesKept.trans ((htimed _).trans happ))
  have hopen (u : State) : (statsSof (pxpSof u)).FramesKept u := .of_eq rfl rfl rfl
  exact (((State.grant_controls _).trans (afcSof_controls ..)).storeOnly.trans (cstSof_storeOnly ..)).quiet.toFramesKept.trans
    ((hopen _).trans (hsof _))

theorem frameStartPacket_framesKept (s : State) : (frameStartPacket s).FramesKept s := by
  have ho (u : State) : (frameOpens u).FramesKept u :=
    (sofWork_framesKept _).trans { geometry := rfl, dram := rfl, fetch := rfl, slots := .refl .., final := rfl }
  unfold frameStartPacket
  split
  · exact (State.Quiet.refl s).toFramesKept
  · exact ho s
  · exact (ho _).trans (truncateFrame_quiet ..).toFramesKept

/-- R15: in a store whose frames fit, a line of the frame in progress is stored within the frame memory. -/
theorem lineOutside_eq_false {s : State} (hs : s.FramesFit) (y : Nat) : lineOutside s y = false := by
  unfold lineOutside
  split
  · next a ha =>
    simp only [decide_eq_false_iff_not, Nat.not_lt]
    unfold storeAddress at ha
    split at ha
    · next i hi =>
      obtain ⟨x, hx, -, -⟩ := head?_slotsWhere.1 hi
      split at ha
      · next hc =>
        simp only [inCrop, decide_eq_true_eq] at hc
        cases ha
        exact lineAddress_add_le ((lines_le_storedBytes _).trans hs.1) (List.getElem?_eq_some_iff.1 hx).1 (by omega)
      · cases ha
    · cases ha
  · rfl

theorem takeLine_framesFit {s : State} (hs : s.FramesFit) (pixels : List Nat) : (takeLine s pixels).FramesFit := by
  have hw (u : State) (y : Nat) (line : List Nat) (hu : u.FramesFit) : (writeLine u y line).FramesFit := by
    unfold writeLine
    split
    · exact hu
    · exact hu
  have hp : ∀ y fitted, (passLine (s.setIntake { s.intake with lineCounter := s.intake.lineCounter + 1 }) y fitted).FramesFit :=
    fun y fitted => hw _ _ _ hs
  unfold takeLine
  dsimp only
  split
  · exact hp ..
  · exact hp ..

/-- PATH_SETUP takes no geometry whose stored frame exceeds the slot size (R3). -/
theorem pathSetup_framesFit (a : PathSetupArgs) {s : State} (hs : s.FramesFit) : (pathSetup a s).1.FramesFit := by
  unfold pathSetup
  dsimp only
  split
  · exact hs
  · next h =>
    simp only [geometryRefused, Bool.not_eq_true, Bool.or_eq_false_iff, decide_eq_false_iff_not, Nat.not_lt] at h
    repeat' split
    iterate 2 exact hs
    iterate 2 exact ⟨h.2, hs.2.1, hs.2.2⟩

/-- STORE_SETUP takes no slot count whose slots the stored frame exceeds (R145). -/
theorem storeSetup_framesFit (a : StoreSetupArgs) {s : State} (hs : s.FramesFit) : (storeSetup a s).1.FramesFit := by
  have hr (ks : List Nat) {u : State} (hu : u.FramesFit) : (ks.foldl autoRelease u).FramesFit :=
    hu.of_framesKept (foldl_storeOnly autoRelease_storeOnly ks u).quiet.toFramesKept
  unfold storeSetup
  repeat' split
  iterate 2 exact hs
  · exact hs
  · exact hs
  · next h _ =>
    simp only [slotCountRefused, Bool.not_eq_true, Bool.or_eq_false_iff, decide_eq_false_iff_not, Nat.not_lt] at h
    refine hr _ ?_
    by_cases hn : a.slots = s.cst.slots.length
    · simp only [hn, if_true]
      exact hs
    · simp only [hn, if_false]
      refine ⟨by simpa using h.1.2, fun i x r hx hr => ?_, hs.2.2⟩
      cases List.eq_of_mem_replicate (List.mem_of_getElem? hx)
      cases hr

/-- A taken fetch is not aborted (R157). -/
theorem fetchCommand_framesFit (tag : Tag) (a : FetchArgs) {s : State} (hs : s.FramesFit) :
    (fetchCommand tag a s).1.FramesFit := by
  have htake (i : Nat) (f : Fetch) (hf : f.aborted = false) (hn : s.cst.fetch.isSome = false) : (takeFetch s i f).FramesFit := by
    have hset : (s.setCst { s.cst with fetch := some f }).FramesFit := by
      refine hs.of_fetch rfl (.refl ..) (fun g hg => ?_) (fun g hg ha => ?_)
      · rw [hg] at hn
        cases hn
      · cases hg
        rw [hf] at ha
        cases ha
    unfold takeFetch
    dsimp only
    split
    · refine hset.of_framesKept (State.StoreOnly.quiet ?_).toFramesKept
      exact setSlot_storeOnly_of_record fun _ => rfl
    · exact hset
  unfold fetchCommand
  repeat' split
  iterate 2 exact hs
  · exact hs
  · dsimp only
    split
    · exact hs
    · exact htake _ _ rfl (by simpa using ‹¬s.cst.fetch.isSome = true›)
  · exact hs

/-- An aborted fetch is one of an image, whose ABORT packet is still to be sent (R158). -/
theorem abortFetch_framesFit {s : State} (hs : s.FramesFit) : (abortFetch s).FramesFit := by
  unfold abortFetch
  split
  · exact hs
  · next f hf =>
    split
    · exact hs
    · next hfin =>
      split
      · next him =>
        refine .of_framesKept ?_ (slotReturns_storeOnly ..).quiet.toFramesKept
        refine hs.of_fetch rfl (.refl ..) (fun g hg _ he => ?_) (fun g hg _ => ?_)
        · cases hf.symm.trans hg
          exact ⟨_, rfl, rfl, he, rfl⟩
        · cases hg
          exact ⟨him, by simpa using hfin⟩
      · next him =>
        refine hs.of_fetch rfl (.refl ..) (fun g hg ha _ => ?_) (fun g hg => by cases hg)
        cases hf.symm.trans hg
        exact (him (hs.2.2 f hf ha).1).elim

theorem applyCommits_framesFit {s : State} (hs : s.FramesFit) : (applyCommits s).FramesFit :=
  have hc := applyCommits_commitsOnly s
  hs.of_framesKept (.of_eq hc.intake hc.cst (by rw [hc.link]))

theorem applyIfStopped_framesFit {s : State} (hs : s.FramesFit) : (applyIfStopped s).FramesFit :=
  have hc := applyIfStopped_commitsOnly s
  hs.of_framesKept (.of_eq hc.intake hc.cst (by rw [hc.link]))

theorem pathStop_framesFit {s : State} (hs : s.FramesFit) : (pathStop s).1.FramesFit := by
  have htr : (if s.intake.mode = .inFrame then truncateFrame s .stopped else s).FramesFit :=
    hs.of_framesKept (State.quiet_ite (truncateFrame_quiet ..) (.refl s)).toFramesKept
  unfold pathStop
  dsimp only
  split
  · exact hs
  · refine applyCommits_framesFit (.of_framesKept (abortFetch_framesFit (.of_framesKept ?_
      (storeStop_storeOnly _).quiet.toFramesKept)) (afcPathStop_controls _).quiet.toFramesKept)
    exact htr

theorem commitTable_framesFit (id : Nat) {s : State} (hs : s.FramesFit) : (commitTable id s).1.FramesFit := by
  unfold commitTable
  repeat' split
  iterate 3 exact hs
  exact applyIfStopped_framesFit (State.framesFit_setLnk hs rfl)

/-! ### RESET (R162, R184) -/

theorem sendingFinal_lnkFull (l : Lnk) : sendingFinal (lnkFull l) = sendingFinal l := by
  simp only [sendingFinal, lnkFull]
  cases l.sending with
  | none => rfl
  | some p =>
    obtain ⟨bytes, e⟩ := p
    cases e <;> rfl

/-- After RESET FULL a record is left only in the slot of an aborted fetch. -/
theorem slotsFull_record {c : Cst} {i : Nat} {x : Slot} {r : FrameRecord} (hx : (slotsFull c)[i]? = some x)
    (hr : x.record = some r) : ∃ f, c.fetch = some f ∧ f.aborted = true ∧ f.slot = i := by
  unfold slotsFull at hx
  rw [List.getElem?_map] at hx
  obtain ⟨j, hj, hjx⟩ := Option.map_eq_some_iff.1 hx
  obtain ⟨_, hij⟩ := List.getElem?_eq_some_iff.1 hj
  rw [List.getElem_range] at hij
  subst hij
  rw [← hjx] at hr
  split at hr
  · next hk =>
    unfold keptForAbort at hk
    dsimp only at hk
    split at hk
    · next f hf =>
      simp only [Bool.and_eq_true, decide_eq_true_eq] at hk
      obtain ⟨⟨⟨hab, hsl⟩, -⟩, -⟩ := hk
      exact ⟨f, hf, hab, hsl⟩
    · cases hk
  · cases hr

theorem cstFull_framesFit {u t : State} (hu : u.FramesFit) (hg : t.intake.geometry = resetGeometry)
    (hc : t.cst = cstFull u.cst) (hl : t.lnk = lnkFull u.lnk) : t.FramesFit := by
  unfold State.FramesFit
  rw [hg, hc, hl]
  refine ⟨?_, fun i x r hx hr => .inr ?_, fun f hf habort => ?_⟩
  · have hlen : (cstFull u.cst).slots.length = (List.replicate 12 freeSlot).length := by simp [cstFull, slotsFull]
    rw [hlen]
    exact resetStore_fits
  · obtain ⟨f, hf, hab, hsl⟩ := slotsFull_record hx hr
    exact ⟨{ f with freeAtEnd := f.aborted }, by simp [cstFull, hf], hab, hab, hsl⟩
  · obtain ⟨g, hg, rfl⟩ : ∃ g, u.cst.fetch = some g ∧ { g with freeAtEnd := g.aborted } = f :=
      Option.map_eq_some_iff.1 hf
    obtain ⟨him, hfin⟩ := hu.2.2 g hg habort
    exact ⟨him, (sendingFinal_lnkFull u.lnk).trans hfin⟩

theorem resetFull_framesFit {s : State} (hs : s.FramesFit) : (resetFull s).FramesFit :=
  cstFull_framesFit (abortFetch_framesFit hs) rfl rfl rfl

theorem resetPipeline_framesFit {s : State} (hs : s.FramesFit) : (resetPipeline s).FramesFit := by
  have ha := abortFetch_framesFit hs
  unfold resetPipeline
  dsimp only
  generalize abortFetch s = u at ha
  refine applyIfStopped_framesFit (ha.of_framesKept {
    geometry := rfl, dram := rfl, fetch := rfl, final := rfl, slots := SlotsFrom.map fun x r hr => ?_ })
  unfold unfilled at hr
  split at hr
  · cases hr
  · exact ⟨r, hr, rfl, rfl⟩

theorem resetCommand_framesFit {i : Instr} {tag : Tag} {p : Payload Nat} {s : State} (hs : s.FramesFit) :
    (resetCommand i tag p s).FramesFit := by
  have htake := State.framesFit_setLnk (l := lnkTake s.lnk tag) hs rfl
  have hans (u : State) (hu : u.FramesFit) (l : Lnk) (hl : l.sending = u.lnk.sending) : (u.setLnk l).FramesFit :=
    State.framesFit_setLnk hu hl
  have hscope (b : Bool) : (resetScope b (s.setLnk (lnkTake s.lnk tag))).FramesFit := by
    unfold resetScope
    split
    · exact resetFull_framesFit htake
    · exact resetPipeline_framesFit htake
  unfold resetCommand
  dsimp only
  repeat' split
  · unfold resetTaken
    dsimp only
    split
    · exact hans _ (hscope _) _ rfl
    · exact hans _ (hscope _) _ rfl
  · exact hans _ htake _ rfl
  · exact hans _ htake _ rfl
  · exact hs

/-! ### PACKET_BOUNDARY (R157, R158, R178) -/

/-- With the packet gone that was being sent, a fetch may end unless a slot waits for its ABORT packet. -/
theorem endFetch_framesFit {s : State} (hs : s.FramesFit)
    (hf : ∀ f, s.cst.fetch = some f → f.aborted = true → f.freeAtEnd = true → False) : (endFetch s).FramesFit :=
  hs.of_fetch rfl (.refl ..) (fun f h ha he => (hf f h ha he).elim) fun f h => by cases h

/-- The packet being sent is let go. -/
theorem State.FramesFit.setSending {s : State} (hs : s.FramesFit) (p : Option Sending) (h : p.all (·.atEnd ≠ .line true)) :
    (s.setLnk { s.lnk with sending := p }).FramesFit := by
  refine hs.of_fetch rfl (.refl ..) (fun f hf ha he => ⟨f, hf, ha, he, rfl⟩) fun f hf ha => ⟨(hs.2.2 f hf ha).1, ?_⟩
  cases p with
  | none => rfl
  | some p => simpa [sendingFinal] using h

theorem recordSent_framesFit {s : State} (hs : s.FramesFit) (i order : Nat) : (recordSent s i order).FramesFit := by
  unfold recordSent
  dsimp only
  have hmark : (match s.cst.slots[i]? with
      | some x => if holdsFrame x order then autoRelease (setSlot s i fun y => { y with recordSent := true }) i else s
      | none => s).StoreOnly s := by
    split
    · split
      · exact (autoRelease_storeOnly ..).trans (setSlot_storeOnly_of_record fun _ => rfl)
      · exact .refl s
    · exact .refl s
  have hu := hs.of_framesKept hmark.quiet.toFramesKept
  split
  · next f hf =>
    split
    · exact hu
    · next h =>
      refine endFetch_framesFit hu fun g hg ha _ => h ?_
      cases hf.symm.trans hg
      simp [(hu.2.2 f hf ha).1]
  · exact hu

/-- The fetch whose final line has been sent is not aborted, and ends (R157). -/
theorem imageSent_framesFit {s : State} (hs : s.FramesFit) (ha : ∀ f, s.cst.fetch = some f → f.aborted = false) :
    (imageSent s).FramesFit := by
  unfold imageSent
  split
  · next f hf =>
    have hm : (setSlot s f.slot markImageSent).StoreOnly s := setSlot_storeOnly_of_record fun x => by
      unfold markImageSent
      split <;> rfl
    refine .of_framesKept (endFetch_framesFit (hs.of_framesKept hm.quiet.toFramesKept) fun g hg hab _ => ?_)
      (slotReturns_storeOnly ..).quiet.toFramesKept
    rw [hm.fetch] at hg
    simp [ha g hg] at hab
  · exact hs

/-- Once the ABORT packet is sent, the slot that waited for it is freed (R162). -/
theorem abortSent_framesFit {s : State} (hs : s.FramesFit) : (abortSent s).FramesFit := by
  unfold abortSent
  split
  · next f hf =>
    split
    · refine ⟨?_, fun i y r hy hr => .inl ?_, fun g hg => by cases hg⟩
      · exact (length_modifyAt ..).symm ▸ hs.1
      · have hy' : (modifyAt (fun x => { freeSlot with order := x.order }) s.cst.slots f.slot)[i]? = some y := hy
        rw [getElem?_modifyAt] at hy'
        split at hy'
        · obtain ⟨x, -, rfl⟩ := Option.map_eq_some_iff.1 hy'
          cases hr
        · next hne =>
          unfold FitsSlot
          rw [show (freeSlotAt (endFetch s) f.slot).cst.slots.length = s.cst.slots.length from length_modifyAt ..]
          obtain h | ⟨g, hg, -, -, hsl⟩ := hs.2.1 i y r hy' hr
          · exact h
          · cases hf.symm.trans hg
            exact (hne hsl).elim
    · next he =>
      refine endFetch_framesFit hs fun g hg _ hge => ?_
      cases hf.symm.trans hg
      exact he hge
  · exact hs

theorem packetEnds_framesFit {s : State} (hs : s.FramesFit) : (packetEnds s).FramesFit := by
  unfold packetEnds
  split
  · exact hs
  · next p hp =>
    have hu := hs.setSending none rfl
    dsimp only
    split
    · exact hu
    · exact recordSent_framesFit hu _ _
    · next b hb =>
      split
      · next hfin =>
        refine imageSent_framesFit hu fun f hf => ?_
        by_contra hab
        have := (hs.2.2 f hf (by simpa using hab)).2
        simp [sendingFinal, hp, hb, hfin] at this
      · exact hu
    · exact abortSent_framesFit hu

/-- A fetch that offers a line is not aborted. -/
theorem fetchOffer_line {f : Fetch} {r : Option FrameRecord} {k outW : Nat} {final : Bool}
    (h : fetchOffer f r = .line k outW final) :
    f.aborted = false ∧ ∃ q, r = some q ∧ outW = q.outW ∧ k < q.outH := by
  unfold fetchOffer at h
  split at h
  · cases h
  · next ha =>
    split at h
    · cases h
    · next q _ =>
      split at h
      · next hi =>
        simp only [Bool.and_eq_true, decide_eq_true_eq] at hi
        cases h
        exact ⟨by simpa using ha, q, rfl, rfl, hi.2⟩
      · cases h
    · cases h

theorem nextClass_fetch {s : State} {f : Fetch} (h : nextClass s = .fetch f) : s.cst.fetch = some f := by
  unfold nextClass at h
  split at h
  · cases h
  · cases h
  · split at h
    · cases h
    · split at h
      iterate 3
        · cases h
          assumption
      · split at h <;> cases h

/-- What a state offers of its fetch. -/
theorem State.offer_of_fetch {s : State} {f : Fetch} (h : s.cst.fetch = some f) :
    s.offer = fetchOffer f (s.cst.slots.getD f.slot freeSlot).record := by
  unfold State.offer
  rw [h]

/-- R157: in a store whose frames fit, a line of the fetch lies within the frame memory. -/
theorem fetchOutside_eq_false {s : State} (hs : s.FramesFit) : fetchOutside s = false := by
  unfold fetchOutside
  split
  · next f k outW final hc ho =>
    have hf := nextClass_fetch hc
    rw [State.offer_of_fetch hf] at ho
    obtain ⟨ha, q, hq, rfl, hk⟩ := fetchOffer_line ho
    simp only [decide_eq_false_iff_not, Nat.not_lt]
    have hx : ∃ x, s.cst.slots[f.slot]? = some x ∧ x.record = some q := by
      rw [List.getD_eq_getElem?_getD] at hq
      cases h : s.cst.slots[f.slot]? with
      | none => simp [h, freeSlot] at hq
      | some x => exact ⟨x, rfl, by simpa [h] using hq⟩
    obtain ⟨x, hx, hr⟩ := hx
    refine lineAddress_add_le (hs.fits_of_fetch (fun g hg hab _ => ?_) hx hr) (List.getElem?_eq_some_iff.1 hx).1 hk
    cases hf.symm.trans hg
    simp [ha] at hab
  · rfl

theorem sendNext_framesFit {s : State} (hs : s.FramesFit) : (sendNext s).FramesFit := by
  have hbegin (u : State) (hu : u.FramesFit) (p : Packet) (e : SendEnd) (he : e ≠ .line true) : (beginPacket u p e).FramesFit :=
    hu.setSending _ (by simpa using he)
  unfold sendNext
  split
  · exact hbegin _ hs _ _ (by decide)
  · exact hbegin _ (State.framesFit_setLnk hs rfl) _ _ (by decide)
  · exact hbegin _ hs _ _ (by decide)
  · next f hc =>
    have hf := nextClass_fetch hc
    have hrec (g : Fetch) (hg : g.aborted = f.aborted ∧ g.freeAtEnd = f.freeAtEnd ∧ g.slot = f.slot ∧ g.image = f.image) :
        (s.setCst { s.cst with fetch := some g }).FramesFit := by
      obtain ⟨h1, h2, h3, h4⟩ := hg
      refine hs.of_fetch rfl (.refl ..) (fun q hq ha he => ?_) (fun q hq ha => ?_)
      · cases hf.symm.trans hq
        exact ⟨g, rfl, h1.trans ha, h2.trans he, h3⟩
      · cases hq
        rw [h4]
        exact hs.2.2 f hf (h1 ▸ ha)
    rw [State.offer_of_fetch hf]
    generalize ho : fetchOffer f _ = o
    cases o with
    | none => exact hs
    | abort => exact hbegin _ hs _ _ (by decide)
    | record p => exact hbegin _ (hrec { f with record := none } ⟨rfl, rfl, rfl, rfl⟩) _ (.record f.slot f.order) (by simp)
    | line k outW final =>
      have ha := (fetchOffer_line ho).1
      refine (hrec { f with nextLine := k + 1 } ⟨rfl, rfl, rfl, rfl⟩).of_fetch rfl (.refl ..)
        (fun g hg hab he => ⟨g, hg, hab, he, rfl⟩) fun g hg hab => ?_
      cases hg
      simp [ha] at hab
  · exact hbegin _ hs _ _ (by decide)
  · exact hs

/-! ### Every command and event -/

/-- Every command and event of a state whose frames fit completes, in a state whose frames fit. -/
theorem exec_framesFit (i : Instr) {s : State} (hs : s.FramesFit) : ∃ t, exec i s = .next t ∧ t.FramesFit := by
  by_cases hi : touchesFrames i = false
  · obtain ⟨t, ht, hq⟩ := exec_quiet hi s
    exact ⟨t, ht, hs.of_framesKept hq.toFramesKept⟩
  · cases i with
    | powerOnReset lines => exact ⟨_, rfl, powerOn_framesFit lines s⟩
    | frameStart => exact ⟨_, rfl, hs.of_framesKept (frameStartPacket_framesKept s)⟩
    | line pixels =>
      simp only [exec, execLine]
      split
      · exact ⟨_, rfl, hs⟩
      · split
        · exact ⟨_, rfl, hs⟩
        · rw [lineOutside_eq_false hs]
          exact ⟨_, rfl, takeLine_framesFit hs pixels⟩
    | pathSetup => exact ⟨_, rfl, hostCommand_framesFit hs fun a _ => pathSetup_framesFit a⟩
    | pathStop => exact ⟨_, rfl, hostCommand_framesFit hs fun _ _ => pathStop_framesFit⟩
    | storeSetup => exact ⟨_, rfl, hostCommand_framesFit hs fun a _ => storeSetup_framesFit a⟩
    | fetch tag => exact ⟨_, rfl, hostCommand_framesFit hs fun a _ => fetchCommand_framesFit tag a⟩
    | sendAbort => exact ⟨_, rfl, hostCommand_framesFit hs fun _ _ => abortFetch_framesFit⟩
    | tableCommit => exact ⟨_, rfl, hostCommand_framesFit hs fun id _ => commitTable_framesFit id⟩
    | reset => exact ⟨_, rfl, resetCommand_framesFit hs⟩
    | packetBoundary =>
      have hp := packetEnds_framesFit hs
      simp only [exec, execPacketBoundary, fetchOutside_eq_false hp]
      exact ⟨_, rfl, sendNext_framesFit hp⟩
    | _ => exact (hi rfl).elim

/-- Settles O4: a step is exec of the front of the queue, and the queue bears on no frame. -/
theorem everyStepCompletes : Obligations.EveryStepCompletes := by
  intro s hs
  unfold step
  split
  · exact ⟨s, rfl, hs⟩
  · exact exec_framesFit _ hs

end Sys2Proof.Machine
end

section
/-! SUPPORT. What the fetch, the packets, PATH_SETUP and STORE_SETUP leave alone: INTAKE's registers, the tables and the
frame memory; and where a working table or the frame number changes (R6, R182). -/

namespace Sys2Proof.Machine

/-- INTAKE, the tables and the frame memory are the same. -/
structure State.MemoriesKept (t s : State) : Prop where
  intake : t.intake = s.intake
  tables : t.lnk.tables = s.lnk.tables
  dram : t.cst.dram = s.cst.dram

theorem State.MemoriesKept.refl (s : State) : s.MemoriesKept s := ⟨rfl, rfl, rfl⟩

theorem State.MemoriesKept.trans {s t u : State} (h : u.MemoriesKept t) (k : t.MemoriesKept s) : u.MemoriesKept s :=
  ⟨h.intake.trans k.intake, h.tables.trans k.tables, h.dram.trans k.dram⟩

theorem State.StoreOnly.memoriesKept {s t : State} (h : t.StoreOnly s) : t.MemoriesKept s :=
  ⟨h.intake, congrArg Lnk.tables h.lnk, h.dram⟩

theorem hostCommand_memoriesKept {α : Type} {i : Instr} {s : State} {tag : Tag} {code : Byte} {p : Payload α}
    {block : α → State → State × Answer} (h : ∀ a u, (block a u).1.MemoriesKept u) :
    (hostCommand i tag code p block s).MemoriesKept s := by
  unfold hostCommand takeCommand
  split
  · cases p with
    | args a =>
      have hb := (h a (s.setLnk (lnkTake s.lnk tag))).trans (u := (block a (s.setLnk (lnkTake s.lnk tag))).1) (s := s) ⟨rfl, rfl, rfl⟩
      exact ⟨hb.intake, hb.tables, hb.dram⟩
    | wrongLength => exact ⟨rfl, rfl, rfl⟩
  · exact .refl s

theorem abortFetch_memoriesKept (s : State) : (abortFetch s).MemoriesKept s := by
  unfold abortFetch
  split
  · exact .refl s
  · split
    · exact .refl s
    · split
      · exact (slotReturns_storeOnly ..).memoriesKept.trans ⟨rfl, rfl, rfl⟩
      · exact ⟨rfl, rfl, rfl⟩

theorem takeFetch_memoriesKept (s : State) (i : Nat) (f : Fetch) : (takeFetch s i f).MemoriesKept s := by
  unfold takeFetch
  dsimp only
  split <;> exact ⟨rfl, rfl, rfl⟩

theorem fetchCommand_memoriesKept (tag : Tag) (a : FetchArgs) (s : State) : (fetchCommand tag a s).1.MemoriesKept s := by
  unfold fetchCommand
  repeat' split
  iterate 3 exact .refl s
  · dsimp only
    split
    · exact .refl s
    · exact takeFetch_memoriesKept ..
  · exact .refl s

theorem storeSetup_memoriesKept (a : StoreSetupArgs) (s : State) : (storeSetup a s).1.MemoriesKept s := by
  have hr (ks : List Nat) (u : State) := (foldl_storeOnly autoRelease_storeOnly ks u).memoriesKept
  unfold storeSetup
  repeat' split
  iterate 4 exact .refl s
  exact (hr _ _).trans ⟨rfl, rfl, rfl⟩

theorem endFetch_memoriesKept (s : State) : (endFetch s).MemoriesKept s := ⟨rfl, rfl, rfl⟩

theorem recordSent_memoriesKept (s : State) (i order : Nat) : (recordSent s i order).MemoriesKept s := by
  have hmark : (match s.cst.slots[i]? with
      | some x => if holdsFrame x order then autoRelease (setSlot s i fun y => { y with recordSent := true }) i else s
      | none => s).MemoriesKept s := by
    split
    · split
      · exact (autoRelease_storeOnly ..).memoriesKept.trans ⟨rfl, rfl, rfl⟩
      · exact .refl s
    · exact .refl s
  unfold recordSent
  dsimp only
  split
  · split
    · exact hmark
    · exact (endFetch_memoriesKept _).trans hmark
  · exact hmark

theorem packetEnds_memoriesKept (s : State) : (packetEnds s).MemoriesKept s := by
  have hl : (s.setLnk { s.lnk with sending := none }).MemoriesKept s := ⟨rfl, rfl, rfl⟩
  unfold packetEnds
  split
  · exact .refl s
  · dsimp only
    split
    · exact hl
    · exact (recordSent_memoriesKept ..).trans hl
    · split
      · unfold imageSent
        split
        · exact (slotReturns_storeOnly ..).memoriesKept.trans ⟨rfl, rfl, rfl⟩
        · exact hl
      · exact hl
    · unfold abortSent
      split
      · split <;> exact ⟨rfl, rfl, rfl⟩
      · exact hl

theorem sendNext_memoriesKept (s : State) : (sendNext s).MemoriesKept s := by
  unfold sendNext
  split
  · exact ⟨rfl, rfl, rfl⟩
  · exact ⟨rfl, rfl, rfl⟩
  · exact ⟨rfl, rfl, rfl⟩
  · cases s.offer <;> exact ⟨rfl, rfl, rfl⟩
  · exact ⟨rfl, rfl, rfl⟩
  · exact .refl s

theorem execPacketBoundary_memoriesKept {s t : State} (h : execPacketBoundary s = .next t) : t.MemoriesKept s := by
  unfold execPacketBoundary at h
  dsimp only at h
  split at h
  · cases h
  · cases h
    exact (sendNext_memoriesKept _).trans (packetEnds_memoriesKept s)

/-! ### PATH_SETUP, PATH_STOP and RESET on number, tables and frame memory -/

/-- PATH_SETUP leaves the frame number, the tables and the frame memory (R3). -/
theorem pathSetup_keeps (a : PathSetupArgs) (s : State) :
    (pathSetup a s).1.intake.fn = s.intake.fn ∧ (pathSetup a s).1.lnk = s.lnk ∧ (pathSetup a s).1.cst = s.cst := by
  unfold pathSetup
  dsimp only
  repeat' split
  all_goals exact ⟨rfl, rfl, rfl⟩

/-- What PATH_STOP does before it applies the pending commits (R5). -/
def pathHalted (s : State) : State :=
  let u := if s.intake.mode = .inFrame then truncateFrame s .stopped else s
  afcPathStop (abortFetch (storeStop (u.setIntake { u.intake with mode := .stopped, timer := none })))

theorem stopPath_eq (s : State) : stopPath s = applyCommits (pathHalted s) := rfl

theorem truncateFrame_lnk (s : State) (c : TruncationCause) : (truncateFrame s c).lnk = s.lnk := by
  have h : (truncatedWork (s.setIntake { s.intake with mode := .waiting })).lnk = s.lnk := by
    unfold truncatedWork
    exact (freeFilling_storeOnly _).lnk.trans (by simp)
  unfold truncateFrame
  dsimp only
  split <;> exact h

theorem pathHalted_keeps (s : State) :
    (pathHalted s).intake.fn = s.intake.fn ∧ (pathHalted s).lnk.tables = s.lnk.tables ∧
    (pathHalted s).cst.dram = s.cst.dram := by
  have hu : (if s.intake.mode = .inFrame then truncateFrame s .stopped else s).Quiet s :=
    State.quiet_ite (truncateFrame_quiet ..) (.refl s)
  have hl : (if s.intake.mode = .inFrame then truncateFrame s .stopped else s).lnk = s.lnk := by
    split
    · exact truncateFrame_lnk ..
    · rfl
  unfold pathHalted
  dsimp only
  generalize (if s.intake.mode = .inFrame then truncateFrame s .stopped else s) = u at hu hl
  have h := ((afcPathStop_controls _).storeOnly.memoriesKept.trans (abortFetch_memoriesKept _)).trans
    (storeStop_storeOnly (u.setIntake { u.intake with mode := .stopped, timer := none })).memoriesKept
  exact ⟨(congrArg Intake.fn h.intake).trans hu.fn, h.tables.trans (congrArg Lnk.tables hl), h.dram.trans hu.dram⟩

/-! ### Where a working table changes (R182) -/

/-- Table id of t took the pending copy of s. -/
def State.TookPending (t s : State) (id : Nat) : Prop :=
  t.working id = (s.table id).pending ∧ (t.table id).valid = true

/-- A working table that applying commits changes took its pending copy, of a commit that was pending. -/
theorem applyCommits_working_of_ne {s : State} {id : Nat} (hl : s.lnk.tables.length = 14)
    (h : (applyCommits s).working id ≠ s.working id) :
    (s.table id).commitPending = true ∧ (applyCommits s).TookPending s id := by
  unfold State.TookPending
  unfold State.working at h ⊢
  rw [applyCommits_table hl] at h ⊢
  by_cases hp : (s.table id).commitPending = true
  · simp [hp, Table.applied]
  · simp [hp] at h

theorem applyIfStopped_working_of_ne {s : State} {id : Nat} (hl : s.lnk.tables.length = 14)
    (h : (applyIfStopped s).working id ≠ s.working id) :
    s.intake.mode = .stopped ∧ (applyIfStopped s).TookPending s id := by
  unfold applyIfStopped at h ⊢
  split at h
  · next hm =>
    rw [if_pos hm]
    exact ⟨hm, (applyCommits_working_of_ne hl h).2⟩
  · exact absurd rfl h

/-- TABLE_COMMIT changes a working table only in STOPPED (R182). -/
theorem commitTable_working_of_ne {s : State} {n id : Nat} (hl : s.lnk.tables.length = 14)
    (h : (commitTable n s).1.working id ≠ s.working id) :
    s.intake.mode = .stopped ∧ (commitTable n s).1.TookPending s id := by
  unfold commitTable at h ⊢
  split at h
  · exact absurd rfl h
  · split at h
    · exact absurd rfl h
    · next h14 hp =>
      rw [if_neg h14, if_neg hp]
      split at h
      · exact absurd rfl h
      · have hkeep (k : Nat) : ((s.modifyTable n fun t => { t with commitPending := true }).table k).working = (s.table k).working ∧
            ((s.modifyTable n fun t => { t with commitPending := true }).table k).pending = (s.table k).pending := by
          rw [State.table_modifyTable]
          split <;> exact ⟨rfl, rfl⟩
        obtain ⟨hm, hw, hv⟩ := applyIfStopped_working_of_ne
          (s := s.modifyTable n fun t => { t with commitPending := true })
          (by simpa [State.modifyTable, lnkModifyTable] using hl) fun e => h (e.trans (hkeep id).1)
        exact ⟨hm, hw.trans (hkeep id).2, hv⟩

/-- INTAKE after RESET PIPELINE is stopped only if it was. -/
theorem pipelineMode_eq_stopped {m : IntakeMode} : pipelineMode m = .stopped ↔ m = .stopped := by cases m <;> decide

/-- What RESET PIPELINE does before it applies pending commits (R185). -/
def pipelineHalted (s : State) : State :=
  let u := abortFetch s
  resetConditions false s.cnd
    { u with
      intake := intakePipeline u.intake, pxp := pxpReset u.intake.geometry, stats := statsPipeline u.stats
      aec := aecReset u.aec.params u.aec, lds := ldsPipeline u.lds, afc := afcPipeline u.afc, zmc := zmcPipeline u.zmc
      mou := mouPipeline u.mou, cst := cstPipeline u.cst }

theorem resetPipeline_eq (s : State) : resetPipeline s = applyIfStopped (pipelineHalted s) := rfl

theorem pipelineHalted_keeps (s : State) :
    (pipelineHalted s).intake = intakePipeline s.intake ∧ (pipelineHalted s).lnk.tables = s.lnk.tables ∧
    (pipelineHalted s).cst.dram = s.cst.dram := by
  have h := abortFetch_memoriesKept s
  exact ⟨congrArg intakePipeline h.intake, h.tables, h.dram⟩

/-- What RESET leaves of the frame number, of the working tables and of the frame memory (R16, R185). -/
theorem resetScope_keeps (full : Bool) (s : State) :
    (resetScope full s).intake.fn = (if full then 0 else s.intake.fn) ∧ (resetScope full s).cst.dram = s.cst.dram ∧
    ∀ id, s.lnk.tables.length = 14 → (resetScope full s).working id ≠ s.working id →
      s.intake.mode = .stopped ∧ (resetScope full s).TookPending s id := by
  cases full with
  | true =>
    have h := abortFetch_memoriesKept s
    refine ⟨rfl, h.dram, fun id _ hne => absurd ?_ hne⟩
    have htables : (resetScope true s).lnk.tables = (abortFetch s).lnk.tables.map fun t => { t with commitPending := false } := rfl
    simp only [State.working, State.table, htables, h.tables, List.getD_eq_getElem?_getD, List.getElem?_map]
    cases s.lnk.tables[id]? <;> rfl
  | false =>
    obtain ⟨hi, ht, hd⟩ := pipelineHalted_keeps s
    have hr : resetScope false s = applyIfStopped (pipelineHalted s) := rfl
    have hc := applyIfStopped_commitsOnly (pipelineHalted s)
    rw [hr]
    refine ⟨by rw [hc.intake, hi]; rfl, by rw [hc.cst, hd], fun id hl hne => ?_⟩
    obtain ⟨hm, hw, hv⟩ := applyIfStopped_working_of_ne (s := pipelineHalted s) (by rw [ht]; exact hl)
      fun e => hne (e.trans (State.working_congr ht id))
    rw [hi] at hm
    exact ⟨pipelineMode_eq_stopped.1 hm, by rw [hw, State.table_congr ht], hv⟩

/-! ### A frame's start on number and tables (R6, R182) -/

/-- The work of the blocks at an SOF after its first part, the pending commits (R182). -/
def sofAfterCommits (s : State) : State :=
  let u := timedSof s
  let m := mouSof (aecSof u u.afc.subjectMask)
  let v := cstSof (statsSof (pxpSof m.1)) m.2
  (afcSof v m.2.blurred v.aec.frame.settled).grant

theorem sofWork_eq (s : State) : sofWork s = sofAfterCommits (applyCommits s) := rfl

@[simp] theorem timedSof_lnk (s : State) : (timedSof s).lnk = s.lnk := State.setCnd_lnk ..
@[simp] theorem timedSof_intake (s : State) : (timedSof s).intake = s.intake := State.setCnd_intake ..

@[simp] theorem mouSof_lnk (s : State) : (mouSof s).1.lnk = s.lnk := by
  unfold mouSof
  dsimp only
  split <;> rfl

@[simp] theorem mouSof_intake (s : State) : (mouSof s).1.intake = s.intake := by
  unfold mouSof
  dsimp only
  split <;> rfl

theorem sofAfterCommits_lnk (s : State) : (sofAfterCommits s).lnk = s.lnk := by
  have hc (u : State) (f : FrameFacts) : (cstSof (statsSof (pxpSof u)) f).lnk = u.lnk := (cstSof_storeOnly ..).lnk
  simp [sofAfterCommits, hc]

theorem sofAfterCommits_intake (s : State) : (sofAfterCommits s).intake = s.intake := by
  have hc (u : State) (f : FrameFacts) : (cstSof (statsSof (pxpSof u)) f).intake = u.intake := (cstSof_storeOnly ..).intake
  simp [sofAfterCommits, hc]

theorem sofWork_working (s : State) (id : Nat) :
    (sofWork s).working id = (applyCommits s).working id ∧ (sofWork s).table id = (applyCommits s).table id ∧
    (sofWork s).intake = s.intake := by
  have hl : (sofWork s).lnk = (applyCommits s).lnk := sofAfterCommits_lnk _
  have hi : (sofWork s).intake = (applyCommits s).intake := sofAfterCommits_intake _
  have ht := State.table_congr (congrArg Lnk.tables hl)
  exact ⟨congrArg Table.working (ht id), ht id, hi.trans (applyCommits_commitsOnly s).intake⟩

theorem frameOpens_keeps (s : State) :
    (frameOpens s).intake.fn = (s.intake.fn + 1) % 65536 ∧
    ∀ id, s.lnk.tables.length = 14 → (frameOpens s).working id ≠ s.working id →
      (s.table id).commitPending = true ∧ (frameOpens s).TookPending s id := by
  have hframe : frameOpens s = sofWork (s.setIntake (intakeSof s.intake)) := rfl
  rw [hframe]
  refine ⟨congrArg Intake.fn (sofWork_working _ 0).2.2, fun id hl hne => ?_⟩
  obtain ⟨hw, ht, -⟩ := sofWork_working (s.setIntake (intakeSof s.intake)) id
  unfold State.TookPending
  rw [hw] at hne ⊢
  rw [ht]
  exact applyCommits_working_of_ne (s := s.setIntake (intakeSof s.intake)) hl hne

theorem frameStartPacket_keeps (s : State) (hm : s.intake.mode ≠ .stopped) :
    (frameStartPacket s).intake.fn = (s.intake.fn + 1) % 65536 ∧
    ∀ id, s.lnk.tables.length = 14 → (frameStartPacket s).working id ≠ s.working id →
      (s.table id).commitPending = true ∧ (frameStartPacket s).TookPending s id := by
  unfold frameStartPacket
  split
  · contradiction
  · exact frameOpens_keeps s
  · obtain ⟨hf, hw⟩ := frameOpens_keeps (truncateFrame s .newStart)
    have ht := congrArg Lnk.tables (truncateFrame_lnk s .newStart)
    refine ⟨hf.trans (by rw [(truncateFrame_quiet ..).fn]), fun id hl hne => ?_⟩
    unfold State.TookPending at hw ⊢
    rw [← State.table_congr ht]
    exact hw id (ht ▸ hl) fun e => hne (e.trans (State.working_congr ht id))

/-! ### A line leaves number and tables -/

theorem execLine_keeps {pixels : List Nat} {s t : State} (h : execLine pixels s = .next t) :
    t.intake.fn = s.intake.fn ∧ t.lnk = s.lnk := by
  have hw (u : State) (y : Nat) (line : List Nat) : (passLine u y line).intake = u.intake ∧ (passLine u y line).lnk = u.lnk := by
    unfold passLine writeLine
    dsimp only
    split <;> exact ⟨rfl, rfl⟩
  unfold execLine at h
  split at h
  · cases h
    exact ⟨rfl, rfl⟩
  · split at h
    · cases h
      exact ⟨rfl, rfl⟩
    · split at h
      · cases h
      · cases h
        unfold takeLine
        dsimp only
        split
        · rw [(hw ..).1, (hw ..).2]
          exact ⟨rfl, rfl⟩
        · rw [State.raise_intake, State.raise_lnk, (hw ..).1, (hw ..).2]
          exact ⟨rfl, rfl⟩

/-- A host command changes frame number, working tables and frame memory as its block does. -/
theorem hostCommand_cases {α : Type} (i : Instr) (tag : Tag) (code : Byte) (p : Payload α)
    (block : α → State → State × Answer) (s : State) :
    (hostCommand i tag code p block s).MemoriesKept s ∨
    ∃ a, p = .args a ∧ (hostCommand i tag code p block s).MemoriesKept (block a (s.setLnk (lnkTake s.lnk tag))).1 := by
  unfold hostCommand takeCommand
  split
  · cases p with
    | args a => exact .inr ⟨a, rfl, rfl, rfl, rfl⟩
    | wrongLength => exact .inl ⟨rfl, rfl, rfl⟩
  · exact .inl (.refl s)

/-- A RESET changes nothing of them, or what its scope does (R184). -/
theorem resetCommand_cases (i : Instr) (tag : Tag) (p : Payload Nat) (s : State) :
    (resetCommand i tag p s).MemoriesKept s ∨
    ∃ n full, p = .args n ∧ resetScope? n = some full ∧
      (resetCommand i tag p s).MemoriesKept (resetScope full (s.setLnk (lnkTake s.lnk tag))) := by
  unfold resetCommand
  dsimp only
  split
  · split
    · next n =>
      split
      · next full hf =>
        refine .inr ⟨n, full, rfl, hf, ?_⟩
        unfold resetTaken
        dsimp only
        split <;> exact ⟨rfl, rfl, rfl⟩
      · exact .inl ⟨rfl, rfl, rfl⟩
    · exact .inl ⟨rfl, rfl, rfl⟩
  · exact .inl (.refl s)

theorem resetScope?_eq_some {n : Nat} {full : Bool} (h : resetScope? n = some full) : full = true → n = 1 := by
  unfold resetScope? at h
  split at h <;> simp_all

theorem State.TookPending.of_memoriesKept {s t u : State} {id : Nat} (h : t.TookPending s id) (k : u.MemoriesKept t) :
    u.TookPending s id := by
  unfold State.TookPending
  rw [State.working_congr k.tables, State.table_congr k.tables]
  exact h

/-- R6: the frame number moves only at a FRAME_START that opens a frame, at RESET FULL and at power-on reset. -/
theorem exec_fn_of_ne {i : Instr} {s t : State} (h : exec i s = .next t) (hne : t.intake.fn ≠ s.intake.fn) :
    (i = .frameStart ∧ s.intake.mode ≠ .stopped ∧ t.intake.fn = (s.intake.fn + 1) % 65536) ∨
    (t.intake.fn = 0 ∧ ((∃ tag, i = .reset tag (.args 1)) ∨ ∃ lines, i = .powerOnReset lines)) := by
  by_cases hi : touchesFrames i = false
  · obtain ⟨u, hu, hq⟩ := exec_quiet hi s
    cases hu.symm.trans h
    exact absurd hq.fn hne
  · cases i with
    | powerOnReset lines =>
      cases h
      exact .inr ⟨rfl, .inr ⟨lines, rfl⟩⟩
    | frameStart =>
      cases h
      by_cases hm : s.intake.mode = .stopped
      · simp [frameStartPacket, hm] at hne
      · exact .inl ⟨rfl, hm, (frameStartPacket_keeps s hm).1⟩
    | line => exact absurd (execLine_keeps h).1 hne
    | pathSetup tag p =>
      cases h
      obtain hk | ⟨a, -, hk⟩ := hostCommand_cases (.pathSetup tag p) tag 1 p pathSetup s
      · exact absurd (congrArg Intake.fn hk.intake) hne
      · exact absurd ((congrArg Intake.fn hk.intake).trans (pathSetup_keeps a _).1) hne
    | pathStop tag p =>
      cases h
      obtain hk | ⟨a, -, hk⟩ := hostCommand_cases (.pathStop tag p) tag 3 p (fun _ => pathStop) s
      · exact absurd (congrArg Intake.fn hk.intake) hne
      · refine absurd ((congrArg Intake.fn hk.intake).trans ?_) hne
        unfold pathStop
        dsimp only
        split
        · rfl
        · rw [stopPath_eq, (applyCommits_commitsOnly _).intake]
          exact (pathHalted_keeps _).1
    | storeSetup => cases h; exact absurd (congrArg Intake.fn (hostCommand_memoriesKept storeSetup_memoriesKept).intake) hne
    | fetch tag => cases h; exact absurd (congrArg Intake.fn (hostCommand_memoriesKept (fetchCommand_memoriesKept tag)).intake) hne
    | sendAbort =>
      cases h
      exact absurd (congrArg Intake.fn (hostCommand_memoriesKept fun _ => abortFetch_memoriesKept).intake) hne
    | tableCommit tag p =>
      cases h
      obtain hk | ⟨n, -, hk⟩ := hostCommand_cases (.tableCommit tag p) tag 38 p commitTable s
      · exact absurd (congrArg Intake.fn hk.intake) hne
      · refine absurd ((congrArg Intake.fn hk.intake).trans ?_) hne
        unfold commitTable
        repeat' split
        iterate 3 rfl
        rw [(applyIfStopped_commitsOnly _).intake]
        rfl
    | reset tag p =>
      cases h
      obtain hk | ⟨n, full, rfl, hf, hk⟩ := resetCommand_cases (.reset tag p) tag p s
      · exact absurd (congrArg Intake.fn hk.intake) hne
      · have hfn := (congrArg Intake.fn hk.intake).trans (resetScope_keeps full _).1
        cases full with
        | true => exact .inr ⟨hfn, .inl ⟨tag, by rw [resetScope?_eq_some hf rfl]⟩⟩
        | false => exact absurd hfn hne
    | packetBoundary => exact absurd (congrArg Intake.fn (execPacketBoundary_memoriesKept h).intake) hne
    | _ => exact absurd rfl hi

/-- R182: a working table changes only where pending commits are applied, and takes its pending copy there. -/
theorem exec_working_of_ne {i : Instr} {s t : State} {id : Nat} (hl : s.lnk.tables.length = 14) (h : exec i s = .next t)
    (hne : t.working id ≠ s.working id) (hp : ∀ lines, i ≠ .powerOnReset lines) :
    t.TookPending s id ∧
    ((i = .frameStart ∧ s.intake.mode ≠ .stopped ∧ (s.table id).commitPending = true) ∨
      (∃ tag p, i = .pathStop tag p ∧ s.intake.mode ≠ .stopped ∧ (s.table id).commitPending = true) ∨
      (s.intake.mode = .stopped ∧ ((∃ tag p, i = .tableCommit tag p) ∨ ∃ tag p, i = .reset tag p))) := by
  have hsame {u : State} (k : u.MemoriesKept s) : u.working id = s.working id := State.working_congr k.tables id
  by_cases hi : touchesFrames i = false
  · obtain ⟨u, hu, hq⟩ := exec_quiet hi s
    cases hu.symm.trans h
    exact absurd (hq.working id) hne
  · cases i with
    | powerOnReset lines => exact absurd rfl (hp lines)
    | frameStart =>
      cases h
      by_cases hm : s.intake.mode = .stopped
      · simp [frameStartPacket, hm] at hne
      · obtain ⟨hc, hw⟩ := (frameStartPacket_keeps s hm).2 id hl hne
        exact ⟨hw, .inl ⟨rfl, hm, hc⟩⟩
    | line => exact absurd (State.working_congr (congrArg Lnk.tables (execLine_keeps h).2) id) hne
    | pathSetup tag p =>
      cases h
      obtain hk | ⟨a, -, hk⟩ := hostCommand_cases (.pathSetup tag p) tag 1 p pathSetup s
      · exact absurd (hsame hk) hne
      · exact absurd (State.working_congr (hk.tables.trans (congrArg Lnk.tables (pathSetup_keeps a _).2.1)) id) hne
    | pathStop tag p =>
      cases h
      obtain hk | ⟨a, -, hk⟩ := hostCommand_cases (.pathStop tag p) tag 3 p (fun _ => pathStop) s
      · exact absurd (hsame hk) hne
      · by_cases hm : s.intake.mode = .stopped
        · refine absurd ((State.working_congr hk.tables id).trans ?_) hne
          have hs : (pathStop (s.setLnk (lnkTake s.lnk tag))).1 = s.setLnk (lnkTake s.lnk tag) := if_pos hm
          rw [hs]
          rfl
        · have hs : (pathStop (s.setLnk (lnkTake s.lnk tag))).1 = applyCommits (pathHalted (s.setLnk (lnkTake s.lnk tag))) :=
            if_neg hm
          rw [hs] at hk
          have ht := (pathHalted_keeps (s.setLnk (lnkTake s.lnk tag))).2.1
          obtain ⟨hc, hw, hv⟩ := applyCommits_working_of_ne (s := pathHalted (s.setLnk (lnkTake s.lnk tag))) (id := id)
            (by rw [ht]; exact hl)
            fun e => hne ((State.working_congr hk.tables id).trans (e.trans (State.working_congr ht id)))
          rw [State.table_congr ht] at hc hw
          exact ⟨State.TookPending.of_memoriesKept ⟨hw, hv⟩ hk, .inr (.inl ⟨tag, p, rfl, hm, hc⟩)⟩
    | storeSetup => cases h; exact absurd (hsame (hostCommand_memoriesKept storeSetup_memoriesKept)) hne
    | fetch tag => cases h; exact absurd (hsame (hostCommand_memoriesKept (fetchCommand_memoriesKept tag))) hne
    | sendAbort => cases h; exact absurd (hsame (hostCommand_memoriesKept fun _ => abortFetch_memoriesKept)) hne
    | tableCommit tag p =>
      cases h
      obtain hk | ⟨n, -, hk⟩ := hostCommand_cases (.tableCommit tag p) tag 38 p commitTable s
      · exact absurd (hsame hk) hne
      · obtain ⟨hm, hw⟩ := commitTable_working_of_ne (s := s.setLnk (lnkTake s.lnk tag)) hl
          fun e => hne ((State.working_congr hk.tables id).trans e)
        exact ⟨hw.of_memoriesKept hk, .inr (.inr ⟨hm, .inl ⟨tag, p, rfl⟩⟩)⟩
    | reset tag p =>
      cases h
      obtain hk | ⟨n, full, -, -, hk⟩ := resetCommand_cases (.reset tag p) tag p s
      · exact absurd (hsame hk) hne
      · obtain ⟨hm, hw⟩ := (resetScope_keeps full (s.setLnk (lnkTake s.lnk tag))).2.2 id hl
          fun e => hne ((State.working_congr hk.tables id).trans e)
        exact ⟨hw.of_memoriesKept hk, .inr (.inr ⟨hm, .inr ⟨tag, p, rfl⟩⟩)⟩
    | packetBoundary => exact absurd (hsame (execPacketBoundary_memoriesKept h)) hne
    | _ => exact absurd rfl hi

/-- Settles O15: the frame number by exec_fn_of_ne, the working tables by exec_working_of_ne. -/
theorem frameNumberAndTablesMoveOnlyAtFrameStart : Obligations.FrameNumberAndTablesMoveOnlyAtFrameStart := by
  refine ⟨fun i s t h hne => exec_fn_of_ne h hne, fun i s t id hl h hne hp => ?_⟩
  obtain ⟨⟨hw, hv⟩, hcase⟩ := exec_working_of_ne hl h hne hp
  exact ⟨hw, hv, hcase⟩

/-- R15: the frame memory changes only by a LINE and at power-on reset. -/
theorem exec_dram {i : Instr} {s t : State} (h : exec i s = .next t) (hl : ∀ pixels, i ≠ .line pixels)
    (hp : ∀ lines, i ≠ .powerOnReset lines) : t.cst.dram = s.cst.dram := by
  by_cases hi : touchesFrames i = false
  · obtain ⟨u, hu, hq⟩ := exec_quiet hi s
    cases hu.symm.trans h
    exact hq.dram
  · cases i with
    | powerOnReset lines => exact absurd rfl (hp lines)
    | frameStart => cases h; exact (frameStartPacket_framesKept s).dram
    | line pixels => exact absurd rfl (hl pixels)
    | pathSetup tag p =>
      cases h
      obtain hk | ⟨a, -, hk⟩ := hostCommand_cases (.pathSetup tag p) tag 1 p pathSetup s
      · exact hk.dram
      · exact hk.dram.trans (congrArg Cst.dram (pathSetup_keeps a _).2.2)
    | pathStop tag p =>
      cases h
      obtain hk | ⟨a, -, hk⟩ := hostCommand_cases (.pathStop tag p) tag 3 p (fun _ => pathStop) s
      · exact hk.dram
      · refine hk.dram.trans ?_
        unfold pathStop
        dsimp only
        split
        · rfl
        · rw [stopPath_eq, (applyCommits_commitsOnly _).cst]
          exact (pathHalted_keeps _).2.2
    | storeSetup => cases h; exact (hostCommand_memoriesKept storeSetup_memoriesKept).dram
    | fetch tag => cases h; exact (hostCommand_memoriesKept (fetchCommand_memoriesKept tag)).dram
    | sendAbort => cases h; exact (hostCommand_memoriesKept fun _ => abortFetch_memoriesKept).dram
    | tableCommit tag p =>
      cases h
      obtain hk | ⟨n, -, hk⟩ := hostCommand_cases (.tableCommit tag p) tag 38 p commitTable s
      · exact hk.dram
      · refine hk.dram.trans ?_
        unfold commitTable
        repeat' split
        iterate 3 rfl
        rw [(applyIfStopped_commitsOnly _).cst]
        rfl
    | reset tag p =>
      cases h
      obtain hk | ⟨n, full, -, -, hk⟩ := resetCommand_cases (.reset tag p) tag p s
      · exact hk.dram
      · exact hk.dram.trans (resetScope_keeps full _).2.1
    | packetBoundary => exact (execPacketBoundary_memoriesKept h).dram
    | _ => exact absurd rfl hi

end Sys2Proof.Machine
end

section
/-! SUPPORT. A line on its way through PXP to STATS and the store (R7, R12 to R15, R140, R189): the fitted line, the three
stages pixel by pixel, the packed bytes and where they are stored. -/

namespace Sys2Proof.Machine

/-! ### The fitted line (R7) -/

theorem lastPixel_eq_getLastD (line : List Nat) : lastPixel line = line.getLastD 0 := by
  cases line with
  | nil => rfl
  | cons p rest => cases rest <;> rfl

/-- R7: each place of a fitted line holds its pixel, or beyond the line's end the last one. -/
theorem fitLine_eq_map (w : Nat) (line : List Nat) :
    fitLine w line = (List.range w).map fun x => if x < line.length then line.getD x 0 else line.getLastD 0 := by
  refine List.ext_getElem? fun k => ?_
  rw [List.getElem?_map, fitLine, lastPixel_eq_getLastD]
  by_cases hw : k < w
  · rw [List.getElem?_range hw]
    by_cases hk : k < line.length
    · split <;> simp [List.getElem?_append_left, hk, hw, List.getD_eq_getElem?_getD]
    · have hlt : line.length < w := by omega
      rw [if_pos hlt, List.getElem?_append_right (by omega), List.getElem?_replicate_of_lt (by omega)]
      simp [hk]
  · rw [List.getElem?_eq_none (by split <;> simp <;> omega)]
    simp [Nat.not_lt.1 hw]

@[simp] theorem length_fitLine (w : Nat) (line : List Nat) : (fitLine w line).length = w := by
  rw [fitLine_eq_map]
  simp

/-! ### The three stages (R12 to R14) -/

theorem getElem?_correctFrom (p : Pxp) (g : Geometry) (y x : Nat) (line : List Nat) (k : Nat) :
    (correctFrom p g y x line)[k]? = (line)[k]?.map (correctPixel p g y (x + k)) := by
  induction line generalizing x k with
  | nil => rfl
  | cons raw rest ih =>
    cases k with
    | zero => rfl
    | succ k =>
      rw [correctFrom, List.getElem?_cons_succ, List.getElem?_cons_succ, ih, show x + 1 + k = x + (k + 1) by omega]

@[simp] theorem length_correctFrom (p : Pxp) (g : Geometry) (y x : Nat) (line : List Nat) :
    (correctFrom p g y x line).length = line.length := by
  induction line generalizing x with
  | nil => rfl
  | cons raw rest ih => simp [correctFrom, ih]

/-- The black level of a channel, by the order R, Gr, Gb, B. -/
theorem blackLevel_eq (c : Channels) (ch : Nat) :
    blackLevel c ch = if ch = 0 then c.r else if ch = 1 then c.gr else if ch = 2 then c.gb else c.b := by
  unfold blackLevel
  split
  · rfl
  · rfl
  · rfl
  · rw [if_neg ‹_›, if_neg ‹_›, if_neg ‹_›]

/-- R14: each multiplier is 256 × 2^(d/16) to the nearest integer; both sides are raised to the 16th power. -/
theorem digitalGain_rounded : ∀ d < 32,
    (2 * digitalGain d - 1) ^ 16 ≤ 512 ^ 16 * 2 ^ d ∧ 512 ^ 16 * 2 ^ d < (2 * digitalGain d + 1) ^ 16 := by
  decide

/-- Settles O19: the gains by evaluation, a pixel by getElem?_correctFrom and the definitions of its three stages. -/
theorem pixelStages : Obligations.PixelStages := by
  refine ⟨digitalGain_rounded, fun p g y line x raw black hb hraw hx => ?_⟩
  have hpix : (line)[x]? = some raw := by
    rw [List.getElem?_eq_getElem hx, ← hraw, List.getD_eq_getElem?_getD, List.getElem?_eq_getElem hx]
    rfl
  have hblack : blackOf p x y = blackLevel black (channelOf y x) := by
    unfold blackOf
    rw [hb]
  rw [getElem?_correctFrom, hpix, Option.map_some, Nat.zero_add, correctPixel, hblack, blackLevel_eq]
  rfl

/-! ### The packed line (R15, R189) -/

theorem getElem?_segment (xs : List Nat) (start n k : Nat) (hk : k < n) : (segment xs start n)[k]? = xs[start + k]? := by
  simp [segment, hk, List.getElem?_drop]

theorem length_segment_le (xs : List Nat) (start n : Nat) : (segment xs start n).length ≤ n := by
  simp [segment, List.length_take, List.length_drop]

/-- Two pixels take three bytes (R189). -/
theorem length_packPixels : ∀ xs : List Nat, (packPixels xs).length = 3 * (xs.length / 2)
  | [] => rfl
  | [_] => by simp [packPixels]
  | p :: q :: rest => by
    have := length_packPixels rest
    simp only [packPixels, List.length_cons, this]
    omega

/-- The three bytes of the j-th pair of pixels (R189). -/
theorem getElem?_packPixels : ∀ (xs : List Nat) (j p q : Nat), xs[2 * j]? = some p → xs[2 * j + 1]? = some q →
    (packPixels xs)[3 * j]? = some (byteOf (p / 16)) ∧
    (packPixels xs)[3 * j + 1]? = some (byteOf (p % 16 * 16 + q / 256)) ∧ (packPixels xs)[3 * j + 2]? = some (byteOf q)
  | [], _, _, _ => fun hp => by simp at hp
  | [_], j, _, _ => fun _ hq => by simp at hq
  | a :: b :: rest, j, p, q => fun hp hq => by
    cases j with
    | zero =>
      cases hp
      cases hq
      exact ⟨rfl, rfl, rfl⟩
    | succ j =>
      exact getElem?_packPixels rest j p q hp hq

theorem length_storedLine_le (s : State) (line : List Nat) : (storedLine s line).length ≤ lineBytes s.intake.geometry.outW := by
  have := length_segment_le line s.pxp.cropX s.intake.geometry.outW
  simp only [storedLine, length_packPixels, lineBytes]
  omega

/-! ### Where a line is stored (R15, R140) -/

/-- The FILLING slot of lowest number (R141). -/
theorem fillingSlot_eq_some {slots : List Slot} {i : Nat} :
    fillingSlot slots = some i ↔
      ∃ x, slots[i]? = some x ∧ x.state = .filling ∧ ∀ z ∈ slots.take i, z.state ≠ .filling := by
  unfold fillingSlot
  simp only [head?_slotsWhere, decide_eq_true_eq, decide_eq_false_iff_not, ne_eq]

theorem fillingSlot_eq_none {slots : List Slot} : fillingSlot slots = none ↔ ∀ x ∈ slots, x.state ≠ .filling := by
  unfold fillingSlot
  simp only [List.head?_eq_none_iff, slotsWhere_eq_nil, decide_eq_false_iff_not, ne_eq]

theorem storeAddress_eq_some {s : State} {y a : Nat} :
    storeAddress s y = some a ↔ ∃ i, fillingSlot s.cst.slots = some i ∧ s.pxp.cropY ≤ y ∧
      y < s.pxp.cropY + s.intake.geometry.outH ∧
      a = lineAddress s.cst.slots.length i s.intake.geometry.outW (y - s.pxp.cropY) := by
  unfold storeAddress
  split
  · next i hi =>
    simp only [inCrop, decide_eq_true_eq, Option.ite_none_right_eq_some, Option.some.injEq]
    constructor
    · rintro ⟨⟨hlo, hhi⟩, rfl⟩
      exact ⟨i, hi, hlo, hhi, rfl⟩
    · rintro ⟨j, hj, hlo, hhi, rfl⟩
      cases hi.symm.trans hj
      exact ⟨⟨hlo, hhi⟩, rfl⟩
  · next hn => simp [hn]

/-- A line without a slot or outside the output window is not stored. -/
theorem storeAddress_eq_none {s : State} {y : Nat} (h : (∀ x ∈ s.cst.slots, x.state ≠ .filling) ∨ y < s.pxp.cropY ∨
    s.pxp.cropY + s.intake.geometry.outH ≤ y) : storeAddress s y = none := by
  by_contra hn
  obtain ⟨a, ha⟩ := Option.ne_none_iff_exists'.1 hn
  obtain ⟨i, hi, hlo, hhi, -⟩ := storeAddress_eq_some.1 ha
  obtain hf | hc := h
  · rw [fillingSlot_eq_none.2 hf] at hi
    cases hi
  · omega

/-- The frame memory once corrected line y is stored, or passed over (R15). -/
def storedMemory (s : State) (y : Nat) (line : List Nat) : Memory :=
  match storeAddress s y with
  | some a => memWriteBytes s.cst.dram a (storedLine s line)
  | none => s.cst.dram

/-- The line that a LINE's pixels make in the frame in progress (R7, R12 to R14). -/
def correctedLine (s : State) (pixels : List Nat) : List Nat :=
  correctFrom s.pxp s.intake.geometry s.intake.lineCounter 0 (fitLine s.intake.geometry.w pixels)

theorem writeLine_eq (s : State) (y : Nat) (line : List Nat) :
    writeLine s y line = s.setCst { s.cst with dram := storedMemory s y line } := by
  unfold writeLine storedMemory
  cases storeAddress s y <;> rfl

/-- All that a taken line does (R7, R15, R17). -/
theorem takeLine_eq (s : State) (pixels : List Nat) :
    takeLine s pixels = (((s.setIntake { s.intake with lineCounter := s.intake.lineCounter + 1 }).setStats
        { s.stats with
          measure := s.stats.measure.map fun m => measureLine m s.intake.lineCounter (correctedLine s pixels) }).setCst
        { s.cst with dram := storedMemory s s.intake.lineCounter (correctedLine s pixels) }).setCnd
          (if pixels.length = s.intake.geometry.w then s.cnd else cndRaise s.cnd condLineError) := by
  unfold takeLine passLine
  dsimp only
  rw [writeLine_eq]
  split <;> rfl

/-- R15: a byte that a stored line changes lies among the bytes of that line. -/
theorem storedMemory_of_ne {s : State} {y k : Nat} {line : List Nat}
    (h : memRead (storedMemory s y line) k ≠ memRead s.cst.dram k) :
    ∃ a, storeAddress s y = some a ∧ a ≤ k ∧ k < a + lineBytes s.intake.geometry.outW := by
  unfold storedMemory at h
  split at h
  · next a ha =>
    refine ⟨a, ha, ?_⟩
    by_contra hk
    have := length_storedLine_le s line
    exact h (memRead_memWriteBytes_of_outside _ _ (by omega))
  · exact absurd rfl h

/-- Settles O17: only LINE writes (exec_dram), and a line writes its own bytes (storedMemory_of_ne). -/
theorem frameMemoryWrittenOnlyByLines : Obligations.FrameMemoryWrittenOnlyByLines := by
  refine ⟨fun i s t h hl hp => exec_dram h hl hp, fun pixels s t k h hne => ?_⟩
  simp only [exec, execLine] at h
  split at h
  · cases h
    exact absurd rfl hne
  · next hm =>
    split at h
    · cases h
      exact absurd rfl hne
    · next hy =>
      split at h
      · cases h
      · cases h
        rw [takeLine_eq] at hne
        obtain ⟨a, ha, hlo, hhi⟩ := storedMemory_of_ne hne
        obtain ⟨i, hi, hcl, hch, rfl⟩ := storeAddress_eq_some.1 ha
        obtain ⟨x, hx, hxs, hfirst⟩ := fillingSlot_eq_some.1 hi
        exact ⟨by simpa using hm, by omega, i, x, hx, hxs, hfirst, hcl, hch, hlo, hhi⟩

/-! ### LINE (R7) -/

/-- A line below the programmed height of a store whose frames fit is taken. -/
theorem exec_line_eq {s : State} (hs : s.FramesFit) (pixels : List Nat) (hm : s.intake.mode = .inFrame)
    (hy : s.intake.lineCounter < s.intake.geometry.h) : exec (.line pixels) s = .next (takeLine s pixels) := by
  simp only [exec, execLine]
  rw [if_neg (by simp [hm]), if_neg (by omega), lineOutside_eq_false hs]
  rfl

/-- The bytes of a stored line, two pixels in three bytes, read back (R189). -/
theorem memRead_storedMemory_pair {s : State} {y a j : Nat} {line : List Nat} (hwf : memWf s.cst.dram = true)
    (ha : storeAddress s y = some a) (hj : 2 * j + 1 < s.intake.geometry.outW)
    (hw : s.pxp.cropX + (2 * j + 1) < line.length) :
    let pixel := fun k => line.getD (s.pxp.cropX + k) 0
    memRead (storedMemory s y line) (a + 3 * j) = BitVec.ofNat 8 (pixel (2 * j) / 16) ∧
    memRead (storedMemory s y line) (a + 3 * j + 1) =
      BitVec.ofNat 8 (pixel (2 * j) % 16 * 16 + pixel (2 * j + 1) / 256) ∧
    memRead (storedMemory s y line) (a + 3 * j + 2) = BitVec.ofNat 8 (pixel (2 * j + 1) % 256) := by
  have hpix (k : Nat) (hk : k ≤ 2 * j + 1) :
      (segment line s.pxp.cropX s.intake.geometry.outW)[k]? = some (line.getD (s.pxp.cropX + k) 0) := by
    rw [getElem?_segment _ _ _ _ (by omega), List.getD_eq_getElem?_getD, List.getElem?_eq_getElem (by omega)]
    rfl
  obtain ⟨h0, h1, h2⟩ := getElem?_packPixels _ j _ _ (hpix (2 * j) (by omega)) (hpix (2 * j + 1) le_rfl)
  have hread (k : Nat) (b : Byte) (h : (storedLine s line)[k]? = some b) : memRead (storedMemory s y line) (a + k) = b := by
    unfold storedMemory
    rw [ha]
    exact memRead_memWriteBytes_inside _ _ a k b hwf h
  refine ⟨hread _ _ h0, hread _ _ h1, (hread _ _ h2).trans ?_⟩
  unfold byteOf
  rw [← BitVec.toNat_inj]
  simp

/-- Settles O28: a line is discarded, an error, or taken as takeLine_eq says. -/
theorem lineIsMeasuredAndStored : Obligations.LineIsMeasuredAndStored := by
  refine ⟨fun pixels s hm => ?_, fun pixels s hm hy => ?_, fun pixels s hs hwf hm hy => ?_⟩
  · simp only [exec, execLine]
    rw [if_pos hm]
  · simp only [exec, execLine]
    rw [if_neg (by simp [hm]), if_pos hy]
  · dsimp only
    rw [← fitLine_eq_map]
    refine ⟨by simp, takeLine s pixels, exec_line_eq hs pixels hm hy, ?_⟩
    rw [takeLine_eq]
    refine ⟨rfl, rfl, fun h => ?_, fun i x hx hxs hfirst hlo hhi => ?_, rfl, rfl⟩
    · have hmem : storedMemory s s.intake.lineCounter (correctedLine s pixels) = s.cst.dram := by
        unfold storedMemory
        rw [storeAddress_eq_none h]
      rw [hmem]
      rfl
    · have ha := storeAddress_eq_some.2 ⟨i, fillingSlot_eq_some.2 ⟨x, hx, hxs, hfirst⟩, hlo, hhi, rfl⟩
      refine ⟨fun k hk => ?_, fun j hj hw => ?_, rfl⟩
      · by_contra hne
        obtain ⟨a, ha', hak, hka⟩ := storedMemory_of_ne hne
        cases ha.symm.trans ha'
        unfold lineAddress lineBytes slotSize at hak hka
        have hfm : Config.frameMemoryBytes = 268435456 := rfl
        rw [hfm] at hak hka
        omega
      · exact memRead_storedMemory_pair hwf ha hj (by simpa [correctedLine, Nat.add_assoc] using hw)

end Sys2Proof.Machine
end

section
/-! SUPPORT. PATH_SETUP and STATS_SETUP (R2, R3, R28): what their clamps and checks come to. -/

namespace Sys2Proof.Machine

/-! ### Clamps (section 4.6) -/

theorem clampNat_zero (hi n : Nat) : clampNat 0 hi n = min hi n := Nat.zero_max ..

@[simp] theorem clampArg_changed_eq_true {lo hi n : Nat} : (clampArg lo hi n).changed = true ↔ clampNat lo hi n ≠ n := by
  simp [clampArg]

/-- DONE where no clamp has changed anything. -/
theorem clampedStatus_eq {changed : Bool} {p : Prop} [Decidable p] (h : changed = true ↔ ¬ p) (st : Status) :
    clampedStatus changed st = if p then st else .doneClamped := by
  unfold clampedStatus
  by_cases hp : p <;> simp [h, hp]

theorem clampBlack_value (c : Channels) :
    (clampBlack c).value = ⟨min 1023 c.r, min 1023 c.gr, min 1023 c.gb, min 1023 c.b⟩ := by
  simp [clampBlack, clampNat_zero]

@[simp] theorem clampBlack_changed_eq_true {c : Channels} : (clampBlack c).changed = true ↔ (clampBlack c).value ≠ c := by
  simp [clampBlack]

/-! ### STATS_SETUP (R28) -/

theorem exec_statsSetup {s : State} {tag : Tag} {a : StatsSetupArgs} (h : s.turnOf (.statsSetup tag (.args a))) :
    exec (.statsSetup tag (.args a)) s =
      .next ((s.setStats { s.stats with
        clip := min 65535 a.clip, noise := min 255 a.noise, rate := min 15 a.rate, divider := 0 }).replied tag 4
        (answer (if a.clip ≤ 65535 ∧ a.noise ≤ 255 ∧ a.rate ≤ 15 then .done else .doneClamped))) := by
  refine congrArg Host.Outcome.next (hostCommand_replied h rfl ?_)
  unfold statsSetup
  dsimp only
  rw [clampedStatus_eq (p := a.clip ≤ 65535 ∧ a.noise ≤ 255 ∧ a.rate ≤ 15)]
  · simp [clampArg, clampNat_zero]
    rfl
  · simp only [Bool.or_eq_true, clampArg_changed_eq_true, clampNat_zero]
    omega

/-! ### PATH_SETUP (R3) -/

/-- The ranges and constraints of R2. -/
theorem geometryAllowed_eq_true {g : Geometry} : geometryAllowed g = true ↔
    (640 ≤ g.w ∧ g.w ≤ 5120 ∧ g.w % 2 = 0) ∧ (480 ≤ g.h ∧ g.h ≤ 3840 ∧ g.h % 2 = 0) ∧
    (320 ≤ g.outW ∧ g.outW ≤ g.w ∧ g.outW % 2 = 0 ∧ (g.w - g.outW) % 4 = 0) ∧
    (240 ≤ g.outH ∧ g.outH ≤ g.h ∧ g.outH % 2 = 0 ∧ (g.h - g.outH) % 4 = 0) := by
  simp only [geometryAllowed, Bool.and_eq_true, decide_eq_true_eq, and_assoc]

/-- A geometry is refused outside R2, or with a stored frame beyond the slot size. -/
theorem geometryRefused_eq_true {c : Cst} {g : Geometry} : geometryRefused c g = true ↔
    ¬ geometryAllowed g = true ∨ ¬ g.outW * g.outH * 3 / 2 ≤ 268435456 / c.slots.length := by
  rw [geometryRefused, Bool.or_eq_true, decide_eq_true_eq, ← Nat.not_le, Bool.not_eq_true', Bool.not_eq_true]
  rfl

/-- A clamp acted on a PATH_SETUP exactly when a value differs from its argument. -/
theorem pathClamped_eq_true {a : PathSetupArgs} : pathClamped a = true ↔
    ¬ ((clampBlack a.black).value = a.black ∧ clampNat 1 2048 a.b1 = a.b1 ∧ clampNat 1 2048 a.b2 = a.b2 ∧
      clampNat 1 2048 a.b3 = a.b3 ∧ clampNat 10 1000 a.timeout = a.timeout) := by
  simp only [pathClamped, Bool.or_eq_true, clampBlack_changed_eq_true, clampArg_changed_eq_true, ne_eq]
  tauto

section
variable {s : State} {tag : Tag} {a : PathSetupArgs}

/-- PATH_SETUP refused with REFUSED_ARG: its geometry, or its boundaries once clamped. -/
theorem exec_pathSetup_refusedArg (h : s.turnOf (.pathSetup tag (.args a)))
    (hr : geometryRefused s.cst a.geometry = true ∨
      ¬ (clampNat 1 2048 a.b1 < clampNat 1 2048 a.b2 ∧ clampNat 1 2048 a.b2 < clampNat 1 2048 a.b3)) :
    exec (.pathSetup tag (.args a)) s = .next (s.replied tag 1 (answer .refusedArg)) := by
  refine congrArg Host.Outcome.next (hostCommand_unchanged h ?_)
  unfold pathSetup
  by_cases hg : geometryRefused s.cst a.geometry = true
  · exact if_pos hg
  · exact (if_neg hg).trans (if_pos (hr.resolve_left hg))

variable (h : s.turnOf (.pathSetup tag (.args a))) (hg : ¬ geometryRefused s.cst a.geometry = true)
  (hb : clampNat 1 2048 a.b1 < clampNat 1 2048 a.b2 ∧ clampNat 1 2048 a.b2 < clampNat 1 2048 a.b3)
include h hg hb

theorem exec_pathSetup_refusedState (hm : s.intake.mode ≠ .stopped ∧ a.geometry ≠ s.intake.geometry) :
    exec (.pathSetup tag (.args a)) s = .next (s.replied tag 1 (answer .refusedState)) := by
  refine congrArg Host.Outcome.next (hostCommand_unchanged h ?_)
  exact (if_neg hg).trans ((if_neg (not_not_intro hb)).trans (if_pos hm))

theorem exec_pathSetup_taken (hm : ¬ (s.intake.mode ≠ .stopped ∧ a.geometry ≠ s.intake.geometry)) :
    exec (.pathSetup tag (.args a)) s =
      .next (((s.setIntake (intakeSetup s.intake a)).setPxp
        (if a.geometry = s.intake.geometry then s.pxp
         else { s.pxp with cropX := marginX a.geometry / 2, cropY := marginY a.geometry / 2 })).replied tag 1
        (answer (clampedStatus (pathClamped a) .done))) := by
  refine congrArg Host.Outcome.next (hostCommand_replied h rfl ?_)
  exact (if_neg hg).trans ((if_neg (not_not_intro hb)).trans (if_neg hm))

end

/-- Settles O30: the clauses of PATH_SETUP by exec_pathSetup_taken and its two refusals. -/
theorem pathAndStatsSetup : Obligations.PathAndStatsSetup := by
  refine ⟨fun s tag a h => exec_statsSetup h, fun s tag a => ?_⟩
  dsimp only
  rw [← geometryAllowed_eq_true]
  intro h
  have hrefused := geometryRefused_eq_true (c := s.cst) (g := a.geometry)
  refine ⟨fun ha hf h12 h23 hm => ?_, fun hr => ?_, fun ha hf h12 h23 hm hne => ?_⟩
  · rw [exec_pathSetup_taken h (by simp [hrefused, ha, hf]) ⟨h12, h23⟩ (by tauto), intakeSetup,
      clampedStatus_eq pathClamped_eq_true, clampBlack_value]
    rfl
  · refine exec_pathSetup_refusedArg h ?_
    rw [hrefused]
    unfold clampNat
    simp only [not_and_or, Nat.not_lt]
    tauto
  · exact exec_pathSetup_refusedState h (by simp [hrefused, ha, hf]) ⟨h12, h23⟩ ⟨hm, hne⟩

end Sys2Proof.Machine
end

section
/-! SUPPORT. The values right after power-on reset, and the invariants that they meet. -/

namespace Sys2Proof.Machine

theorem memoriesCanonical_reset : State.reset.MemoriesCanonical := by
  refine ⟨rfl, rfl, fun t ht => ?_⟩
  cases List.eq_of_mem_replicate ht
  exact ⟨rfl, rfl⟩

theorem framesFit_reset : State.reset.FramesFit := powerOn_framesFit ⟨⟨false, false, false⟩, false, false, false⟩ State.reset

theorem slotsPartitioned_reset : State.reset.SlotsPartitioned := by
  have hfree : ∀ x ∈ State.reset.cst.slots, x = freeSlot := fun x => List.eq_of_mem_replicate
  refine ⟨by decide, fun _ => by decide, by decide, fun i x hx hs => ?_, fun x hx hs => ?_, nofun⟩
  · rw [hfree x (List.mem_of_getElem? hx)] at hs
    cases hs
  · rw [hfree x hx] at hs
    exact absurd rfl hs

theorem ordered_reset : State.reset.lds.Ordered := by
  refine ⟨by decide, by decide, by decide, by decide, fun src => by cases src <;> decide, fun src r hr => ?_,
    nofun, nofun, List.Pairwise.nil, nofun⟩
  cases src <;> cases hr

theorem conditionsFollow_reset : State.reset.ConditionsFollow := by
  refine ⟨rfl, by decide, fun k hk => ?_, rfl, rfl, rfl, rfl⟩
  have hc : State.reset.cnd.condition k = resetCondition := by
    revert k
    decide
  rw [hc]
  exact ⟨rfl, rfl⟩

theorem inFlightOrdered_reset : State.reset.aec.InFlightOrdered State.reset.intake.fn := ⟨List.Pairwise.nil, by decide⟩

/-- Every invariant of the model holds right after power-on reset. -/
theorem invariants_reset :
    State.reset.MemoriesCanonical ∧ State.reset.FramesFit ∧ State.reset.SlotsPartitioned ∧ State.reset.lds.Ordered ∧
    State.reset.afc.Consistent ∧ State.reset.zmc.Consistent ∧ State.reset.FocusHoldsExposure ∧
    State.reset.ConditionsFollow ∧ State.reset.lnk.Ordered ∧ State.reset.mou.InRange ∧
    State.reset.aec.InFlightOrdered State.reset.intake.fn := by
  refine ⟨memoriesCanonical_reset, framesFit_reset, slotsPartitioned_reset, ordered_reset, ?_, ?_, ?_,
    conditionsFollow_reset, ?_, ?_, inFlightOrdered_reset⟩
  · exact ⟨rfl, rfl, nofun, rfl, nofun, by decide⟩
  · exact ⟨by decide, nofun, nofun⟩
  · exact ⟨nofun, nofun⟩
  · exact ⟨by decide, List.Pairwise.nil, rfl, rfl⟩
  · refine ⟨?_, ?_, by decide, by decide, by decide, rfl⟩ <;> exact ⟨by decide, by decide, by decide, by decide, by decide⟩

theorem table_reset (id : Nat) : State.reset.table id = resetTable := by
  unfold State.table
  rw [List.getD_eq_getElem?_getD]
  cases h : State.reset.lnk.tables[id]? with
  | none => rfl
  | some t => exact List.eq_of_mem_replicate (List.mem_of_getElem? h)

/-- Settles O2: the values by evaluation, the invariants by invariants_reset, power-on reset by the definition of powerOn. -/
theorem resetHoldsSpecValues : Obligations.ResetHoldsSpecValues := by
  refine ⟨⟨rfl, rfl, rfl, rfl, rfl, rfl, rfl, rfl⟩, ⟨rfl, rfl, rfl, rfl, rfl, rfl⟩, ⟨rfl, rfl, rfl, rfl, rfl, rfl⟩,
    fun m => by cases m <;> rfl, ⟨rfl, rfl, rfl⟩, ⟨rfl, rfl, rfl, rfl, rfl⟩, ⟨rfl, rfl, rfl, rfl, rfl⟩,
    ⟨rfl, rfl, rfl, rfl, rfl, rfl, rfl⟩, ⟨rfl, fun x hx => ?_, rfl, rfl, rfl, rfl, rfl⟩, by decide,
    ⟨rfl, rfl, rfl, fun id _ => ?_⟩, invariants_reset, fun s lines => ?_⟩
  · rw [List.eq_of_mem_replicate hx]
    rfl
  · rw [table_reset]
    exact ⟨rfl, rfl, fun _ => rfl⟩
  · exact ⟨powerOn s lines, rfl, rfl, rfl, rfl, rfl, rfl, rfl, rfl, rfl⟩

end Sys2Proof.Machine
end

section
/-! SUPPORT. What raising, following and counting do to one condition (R164 to R166): each changes condition k by a
function of that condition alone, so that two states of the conditions which agree at one place agree there afterwards. -/

namespace Sys2Proof.Machine

/-! ### One condition -/

/-- What a raising makes of its condition (R164). -/
def raised (x : Condition) : Condition := if x.latch then latchAgain x else latchFresh x

/-- What a reported level makes of its condition (R165). -/
def levelled (b : Bool) (x : Condition) : Condition := if x.current = b then x else levelChanged b x

/-- What a clear makes of condition k (R168). -/
def cleared (k : Nat) (x : Condition) : Condition :=
  if x.mode = .level ∨ x.latch = false then x
  else if relatches k x then latchFresh { latchCleared x with latchedLevel := x.current } else latchCleared x

/-- What an SOF makes of condition k (R166). -/
def ticked (k : Nat) (x : Condition) : Condition :=
  if countsFrames x then if x.frames ≤ 1 then cleared k { x with frames := 0 } else { x with frames := x.frames - 1 } else x

@[simp] theorem cndQueueNotice_conditions (c : Cnd) (k : Nat) : (cndQueueNotice c k).conditions = c.conditions := by
  unfold cndQueueNotice
  split <;> rfl

theorem Cnd.condition_eq {c : Cnd} {k : Nat} {x : Condition} (h : c.conditions[k]? = some x) : c.condition k = x := by
  simp [Cnd.condition, List.getD_eq_getElem?_getD, h]

theorem Cnd.getElem?_of_lt {c : Cnd} {k : Nat} (h : k < c.conditions.length) : c.conditions[k]? = some (c.condition k) := by
  simp [Cnd.condition, List.getD_eq_getElem?_getD, List.getElem?_eq_getElem h]

/-- Changing place k by two functions that agree on what stands there is the same. -/
theorem cndModify_conditions_congr {c : Cnd} {k : Nat} {f g : Condition → Condition} (h : f (c.condition k) = g (c.condition k)) :
    modifyAt f c.conditions k = modifyAt g c.conditions k := by
  rcases lt_or_ge k c.conditions.length with hk | hk
  · rw [modifyAt_eq_set (c.getElem?_of_lt hk), modifyAt_eq_set (c.getElem?_of_lt hk), h]
  · rw [modifyAt_of_length_le hk, modifyAt_of_length_le hk]

theorem modifyAt_id_of_condition {c : Cnd} {k : Nat} {g : Condition → Condition} (h : g (c.condition k) = c.condition k) :
    modifyAt g c.conditions k = c.conditions := by
  rw [cndModify_conditions_congr (g := id) h, modifyAt_eq_modify, List.modify_id]

theorem cndRaise_conditions (c : Cnd) (k : Nat) : (cndRaise c k).conditions = modifyAt raised c.conditions k := by
  unfold cndRaise
  split
  · next h => exact cndModify_conditions_congr (by simp [raised, h])
  · next h =>
    rw [cndQueueNotice_conditions]
    exact cndModify_conditions_congr (by simp [raised, h])

theorem cndSetLevel_conditions (c : Cnd) (k : Nat) (b : Bool) :
    (cndSetLevel c k b).conditions = modifyAt (levelled b) c.conditions k := by
  unfold cndSetLevel
  dsimp only
  split
  · next h => exact (modifyAt_id_of_condition (by simp [levelled, h])).symm
  · next h =>
    split
    · exact cndModify_conditions_congr (by simp [levelled, h])
    · rw [cndQueueNotice_conditions]
      exact cndModify_conditions_congr (by simp [levelled, h])

theorem cndClear_conditions (c : Cnd) (k : Nat) : (cndClear c k).conditions = modifyAt (cleared k) c.conditions k := by
  unfold cndClear
  dsimp only
  split
  · next h => exact (modifyAt_id_of_condition (g := cleared k) (if_pos h)).symm
  · next h =>
    split
    · next hr =>
      rw [cndQueueNotice_conditions]
      exact cndModify_conditions_congr ((if_neg h).trans (if_pos hr)).symm
    · next hr => exact cndModify_conditions_congr ((if_neg h).trans (if_neg hr)).symm

theorem cndFrameTick_conditions (c : Cnd) (k : Nat) :
    (cndFrameTick c k).conditions = modifyAt (ticked k) c.conditions k := by
  unfold cndFrameTick
  dsimp only
  split
  · next h =>
    split
    · next hf =>
      have htwice (f g : Condition → Condition) : modifyAt f (modifyAt g c.conditions k) k = modifyAt (f ∘ g) c.conditions k := by
        rw [modifyAt_eq_modify, modifyAt_eq_modify, modifyAt_eq_modify, List.modify_modify_eq]
      rw [cndClear_conditions]
      exact (htwice ..).trans (cndModify_conditions_congr (by simp [ticked, h, hf]))
    · next hf => exact cndModify_conditions_congr (by simp [ticked, h, hf])
  · next h => exact (modifyAt_id_of_condition (by simp [ticked, h])).symm

/-! ### Agreement at one condition -/

/-- Two states of the conditions agree at condition k, and hold as many. -/
def Cnd.AgreeAt (k : Nat) (d c : Cnd) : Prop := d.condition k = c.condition k ∧ d.conditions.length = c.conditions.length

theorem Cnd.AgreeAt.refl (k : Nat) (c : Cnd) : Cnd.AgreeAt k c c := ⟨rfl, rfl⟩

theorem Cnd.AgreeAt.symm {k : Nat} {c d : Cnd} (h : Cnd.AgreeAt k d c) : Cnd.AgreeAt k c d := ⟨h.1.symm, h.2.symm⟩

theorem Cnd.AgreeAt.trans {k : Nat} {c d e : Cnd} (h : Cnd.AgreeAt k e d) (g : Cnd.AgreeAt k d c) : Cnd.AgreeAt k e c :=
  ⟨h.1.trans g.1, h.2.trans g.2⟩

/-- A condition after condition k was changed by g. -/
theorem Cnd.condition_of_modifyAt {c d : Cnd} {k : Nat} {g : Condition → Condition}
    (h : d.conditions = modifyAt g c.conditions k) (j : Nat) :
    d.condition j = if j = k ∧ k < c.conditions.length then g (c.condition j) else c.condition j := by
  unfold Cnd.condition
  rw [List.getD_eq_getElem?_getD, List.getD_eq_getElem?_getD, h, getElem?_modifyAt]
  by_cases hj : j = k
  · subst hj
    by_cases hl : j < c.conditions.length <;> simp [hl]
  · simp [hj, Ne.symm hj]

theorem Cnd.AgreeAt.of_modifyAt {c d : Cnd} {j k : Nat} {g : Condition → Condition}
    (h : d.conditions = modifyAt g c.conditions k) (hj : j ≠ k) : Cnd.AgreeAt j d c :=
  ⟨by rw [Cnd.condition_of_modifyAt h]; simp [hj], by rw [h, length_modifyAt]⟩

/-- Agreement survives the same change on both sides. -/
theorem Cnd.AgreeAt.modifyAt {c d c' d' : Cnd} {j k : Nat} {g : Condition → Condition}
    (h : d.conditions = modifyAt g c.conditions k) (h' : d'.conditions = Machine.modifyAt g c'.conditions k)
    (a : Cnd.AgreeAt j c c') : Cnd.AgreeAt j d d' := by
  constructor
  · rw [Cnd.condition_of_modifyAt h, Cnd.condition_of_modifyAt h', a.1, a.2]
  · rw [h, h', length_modifyAt, length_modifyAt, a.2]

theorem cndRaise_agreeAt_of_ne (c : Cnd) {j k : Nat} (h : j ≠ k) : Cnd.AgreeAt j (cndRaise c k) c :=
  .of_modifyAt (cndRaise_conditions c k) h

theorem cndSetLevel_agreeAt_of_ne (c : Cnd) (b : Bool) {j k : Nat} (h : j ≠ k) : Cnd.AgreeAt j (cndSetLevel c k b) c :=
  .of_modifyAt (cndSetLevel_conditions c k b) h

theorem Cnd.AgreeAt.raise {c d : Cnd} {j : Nat} (a : Cnd.AgreeAt j d c) (k : Nat) :
    Cnd.AgreeAt j (cndRaise d k) (cndRaise c k) :=
  .modifyAt (cndRaise_conditions d k) (cndRaise_conditions c k) a

theorem Cnd.AgreeAt.sof {c d : Cnd} {j : Nat} (a : Cnd.AgreeAt j d c) : Cnd.AgreeAt j (cndSof d) (cndSof c) := by
  unfold cndSof
  induction List.range 25 generalizing c d with
  | nil => exact a
  | cons k ks ih => exact ih (.modifyAt (cndFrameTick_conditions d k) (cndFrameTick_conditions c k) a)

/-- A raised condition is latched (R164). -/
theorem cndRaise_latch {c : Cnd} {k : Nat} (h : k < c.conditions.length) : ((cndRaise c k).condition k).latch = true := by
  rw [Cnd.condition_of_modifyAt (cndRaise_conditions c k)]
  simp only [h, and_self, if_true]
  unfold raised
  split
  · next hl => exact hl
  · rfl

@[simp] theorem length_cndRaise (c : Cnd) (k : Nat) : (cndRaise c k).conditions.length = c.conditions.length := by
  rw [cndRaise_conditions, length_modifyAt]

@[simp] theorem length_cndSetLevel (c : Cnd) (k : Nat) (b : Bool) :
    (cndSetLevel c k b).conditions.length = c.conditions.length := by
  rw [cndSetLevel_conditions, length_modifyAt]

@[simp] theorem length_cndSof (c : Cnd) : (cndSof c).conditions.length = c.conditions.length := by
  unfold cndSof
  induction List.range 25 generalizing c with
  | nil => rfl
  | cons k ks ih =>
    exact (ih (cndFrameTick c k)).trans (by rw [cndFrameTick_conditions, length_modifyAt])

/-- A level that stands is not reported anew (R165). -/
theorem cndSetLevel_of_current {c : Cnd} {k : Nat} {b : Bool} (h : (c.condition k).current = b) : cndSetLevel c k b = c := if_pos h

/-- The level reported is the level that stands (R165). -/
theorem cndSetLevel_current {c : Cnd} {k : Nat} (b : Bool) (h : k < c.conditions.length) :
    ((cndSetLevel c k b).condition k).current = b := by
  rw [Cnd.condition_of_modifyAt (cndSetLevel_conditions c k b)]
  simp only [h, and_self, if_true]
  unfold levelled
  split
  · next hc => exact hc
  · unfold levelChanged
    split
    · rfl
    · split <;> rfl

/-- Reporting the level false a second time changes nothing (R165): the condition is false, or no condition has the number. -/
theorem cndSetLevel_false_twice (c : Cnd) (k : Nat) : cndSetLevel (cndSetLevel c k false) k false = cndSetLevel c k false := by
  refine cndSetLevel_of_current ?_
  rcases lt_or_ge k c.conditions.length with hk | hk
  · exact cndSetLevel_current false hk
  · rw [Cnd.condition, List.getD_eq_getElem?_getD, List.getElem?_eq_none (by simpa using hk)]
    rfl

end Sys2Proof.Machine
end

section
/-! SUPPORT. What the focus, the zoom and the lens controllers, and the grant, leave of the exposure controller (all but its
state, SETTLED and the break counter) and of the conditions (those from number 12 on); what the exposure controller's own
work at a frame leaves of the conditions. -/

namespace Sys2Proof.Machine

/-! ### The conditions of the other blocks -/

/-- No condition from PAN on is touched: those of MOU, CST, INTAKE and the tables (R163). -/
structure State.CondKept (t s : State) : Prop where
  agreeAt : ∀ k, 12 ≤ k → Cnd.AgreeAt k t.cnd s.cnd

theorem State.CondKept.of_eq {s t : State} (h : t.cnd = s.cnd) : t.CondKept s :=
  ⟨fun k _ => h ▸ .refl k _⟩

theorem State.CondKept.trans {s t u : State} (h : u.CondKept t) (g : t.CondKept s) : u.CondKept s :=
  ⟨fun k hk => (h.agreeAt k hk).trans (g.agreeAt k hk)⟩

theorem State.condKept_raise (s : State) {k : Nat} (h : k < 12) : (s.raise k).CondKept s :=
  ⟨fun _ hj => cndRaise_agreeAt_of_ne _ (by omega)⟩

theorem State.condKept_level (s : State) {k : Nat} (b : Bool) (h : k < 12) : (s.level k b).CondKept s :=
  ⟨fun _ hj => cndSetLevel_agreeAt_of_ne _ b (by omega)⟩

theorem State.condKept_setAec (s : State) (a : Aec) : (s.setAec a).CondKept s := .of_eq rfl

theorem State.condKept_ite {p : Prop} [Decidable p] {s t u : State} (h : t.CondKept s) (g : u.CondKept s) :
    (if p then t else u).CondKept s := by
  split
  · exact h
  · exact g

/-! ### The focus, zoom and lens controllers -/

/-- What the focus, zoom and lens controllers may change of the exposure controller and of the conditions. -/
structure State.FocusOnly (t s : State) : Prop where
  cond : t.CondKept s
  aec : t.aec = { s.aec with state := t.aec.state, settled := t.aec.settled, breakCount := t.aec.breakCount }

theorem State.FocusOnly.of_eq {s t : State} (ha : t.aec = s.aec) (hc : t.cnd = s.cnd) : t.FocusOnly s :=
  ⟨.of_eq hc, by rw [ha]⟩

theorem State.FocusOnly.refl (s : State) : s.FocusOnly s := .of_eq rfl rfl

theorem State.FocusOnly.trans {s t u : State} (h : u.FocusOnly t) (g : t.FocusOnly s) : u.FocusOnly s :=
  ⟨h.cond.trans g.cond, by rw [h.aec, g.aec]⟩

theorem State.focusOnly_raise (s : State) {k : Nat} (h : k < 12) : (s.raise k).FocusOnly s := ⟨s.condKept_raise h, rfl⟩

theorem State.focusOnly_ite {p : Prop} [Decidable p] {s t u : State} (h : t.FocusOnly s) (g : u.FocusOnly s) :
    (if p then t else u).FocusOnly s := by
  split
  · exact h
  · exact g

theorem aecJudge_focus (s : State) : (aecJudge s).FocusOnly s := ⟨(State.condKept_level _ _ (by decide)).trans (.of_eq rfl), rfl⟩

theorem aecEnter_focus (s : State) (st : AeState) : (aecEnter s st).FocusOnly s := (aecJudge_focus _).trans ⟨.of_eq rfl, rfl⟩

theorem aecFollowFocus_focus (s : State) (b : Bool) : (aecFollowFocus s b).FocusOnly s := by
  unfold aecFollowFocus
  exact State.focusOnly_ite (State.focusOnly_ite ((aecEnter_focus ..).trans ⟨.of_eq rfl, rfl⟩) (.refl s))
    (State.focusOnly_ite (aecEnter_focus ..) (.refl s))

theorem State.focusOnly_place (s : State) (src : Source) (r : Request) : (s.place src r).FocusOnly s := .of_eq rfl rfl

theorem State.focusOnly_cancelMove (s : State) (src : Source) : (s.cancelMove src).FocusOnly s := .of_eq rfl rfl

theorem State.focusOnly_setAfc (s : State) (a : Afc) : (s.setAfc a).FocusOnly s := .of_eq rfl rfl

theorem State.focusOnly_setZmc (s : State) (z : Zmc) : (s.setZmc z).FocusOnly s := .of_eq rfl rfl

theorem State.focusOnly_setLds (s : State) (l : Lds) : (s.setLds l).FocusOnly s := .of_eq rfl rfl

theorem afcEnter_focus (s : State) (st : AfState) : (afcEnter s st).FocusOnly s :=
  (aecFollowFocus_focus ..).trans (s.focusOnly_setAfc _)

/-- AFC enters a state after an update beside the exposure controller and the conditions. -/
theorem afcEnter_focus_of {s t : State} (h : t.FocusOnly s) (st : AfState) : (afcEnter t st).FocusOnly s :=
  (afcEnter_focus t st).trans h

theorem afcFail_focus (s : State) (r : FailReason) : (afcFail s r).FocusOnly s :=
  afcEnter_focus_of ((State.focusOnly_raise _ (by decide)).trans (.of_eq (by rfl) (by rfl))) .failed

theorem afcRequest_focus (s : State) (pos : Nat) : (afcRequest s pos).FocusOnly s := s.focusOnly_place ..

theorem afcBeginCoarse_focus (s : State) (inf near : Nat) : (afcBeginCoarse s inf near).FocusOnly s :=
  (afcRequest_focus ..).trans (afcEnter_focus_of (s.focusOnly_setAfc _) .coarse)

theorem afcScanStart_focus (s : State) : (afcScanStart s).FocusOnly s :=
  (afcBeginCoarse_focus ..).trans (s.focusOnly_setAfc _)

theorem afcCancel_focus (s : State) : (afcCancel s).FocusOnly s := by
  unfold afcCancel
  split
  · exact s.focusOnly_setAfc _
  iterate 3 exact afcEnter_focus_of (s.focusOnly_setAfc _) .idle
  · exact afcEnter_focus_of (.of_eq (by rfl) (by rfl)) .idle

theorem afcS1Release_focus (s : State) : (afcS1Release s).FocusOnly s := by
  unfold afcS1Release
  split
  iterate 3 exact afcCancel_focus s
  · exact afcEnter_focus_of (s.focusOnly_setAfc _) .idle
  · exact .refl s

theorem afcAbort_focus (s : State) (b : Bool) : (afcAbort s b).FocusOnly s :=
  afcEnter_focus_of ((State.focusOnly_raise _ (by decide)).trans (.of_eq (by rfl) (by rfl))) .idle

theorem afcZoomGranted_focus (s : State) : (afcZoomGranted s).FocusOnly s :=
  State.focusOnly_ite (afcAbort_focus ..) (.refl s)

theorem afcPathStop_focus (s : State) : (afcPathStop s).FocusOnly s := State.focusOnly_ite (afcAbort_focus ..) (.refl s)

theorem afcZoomIdle_focus (s : State) : (afcZoomIdle s).FocusOnly s := by
  unfold afcZoomIdle
  dsimp only
  refine State.focusOnly_ite (State.focusOnly_ite ?_ (s.focusOnly_setAfc _)) (.refl s)
  split
  · exact (afcScanStart_focus _).trans (s.focusOnly_setAfc _)
  · exact s.focusOnly_setAfc _

theorem afcDisturbance_focus (s : State) : (afcDisturbance s).FocusOnly s := by
  unfold afcDisturbance
  exact State.focusOnly_ite
    (State.focusOnly_ite ((afcFail_focus ..).trans (s.focusOnly_setAfc _)) (afcEnter_focus_of (.of_eq (by rfl) (by rfl)) .settle)) (.refl s)

theorem afcSettleSof_focus (s : State) (b : Bool) : (afcSettleSof s b).FocusOnly s := by
  unfold afcSettleSof
  refine State.focusOnly_ite ?_ (State.focusOnly_ite ((afcFail_focus ..).trans (s.focusOnly_setAfc _)) (s.focusOnly_setAfc _))
  split
  · exact afcBeginCoarse_focus ..
  · exact .refl s

theorem afcSof_focus (s : State) (b c : Bool) : (afcSof s b c).FocusOnly s := by
  unfold afcSof
  split
  · exact afcSettleSof_focus ..
  iterate 4 exact s.focusOnly_setAfc _
  · exact .refl s

theorem afcMoveComplete_focus (s : State) : (afcMoveComplete s).FocusOnly s := by
  unfold afcMoveComplete
  split
  · exact .refl s
  · refine State.focusOnly_ite ?_ (.refl s)
    split
    · exact s.focusOnly_setAfc _
    · exact afcEnter_focus_of
        ((State.focusOnly_setZmc _ _).trans ((State.focusOnly_raise _ (by decide)).trans (s.focusOnly_setAfc _))) .locked
    · exact .refl s

theorem afcTrackEnded_focus (s : State) : (afcTrackEnded s).FocusOnly s :=
  State.focusOnly_ite (s.focusOnly_setAfc _) (.refl s)

theorem afcCoarseEnd_focus (s : State) (sc : Scan) : (afcCoarseEnd s sc).FocusOnly s := by
  unfold afcCoarseEnd
  split
  · exact afcFail_focus ..
  · exact (afcRequest_focus ..).trans (afcEnter_focus_of (s.focusOnly_setAfc _) .fine)

theorem afcLockChoice_focus (s : State) (sc : Scan) : (afcLockChoice s sc).FocusOnly s := by
  unfold afcLockChoice
  split
  · exact State.focusOnly_ite (afcFail_focus ..) ((afcRequest_focus ..).trans (s.focusOnly_setAfc _))
  · exact afcFail_focus ..

theorem afcNextPosition_focus (s : State) (sc : Scan) : (afcNextPosition s sc).FocusOnly s := by
  unfold afcNextPosition
  split
  · exact (afcRequest_focus ..).trans (s.focusOnly_setAfc _)
  · exact State.focusOnly_ite (afcCoarseEnd_focus ..) (afcLockChoice_focus ..)

theorem afcEntry_focus (s : State) (sc : Scan) (b : Bool) (fn : Nat) (rs : List WindowRecord) :
    (afcEntry s sc b fn rs).FocusOnly s := by
  unfold afcEntry
  refine State.focusOnly_ite (afcFail_focus ..) (State.focusOnly_ite (State.focusOnly_ite ?_ ?_) ?_)
  · exact (afcCoarseEnd_focus ..).trans (s.focusOnly_setAfc _)
  all_goals exact (afcNextPosition_focus ..).trans (s.focusOnly_setAfc _)

theorem afcReferenceFrame_focus (s : State) (k : Lock) (n : Nat) : (afcReferenceFrame s k n).FocusOnly s := by
  unfold afcReferenceFrame
  refine State.focusOnly_ite (State.focusOnly_ite (afcEnter_focus_of (s.focusOnly_setAfc _) .monitor) (s.focusOnly_setAfc _))
    (State.focusOnly_ite (State.focusOnly_ite ?_ (s.focusOnly_setAfc _)) (.refl s))
  split
  · exact afcScanStart_focus s
  · exact s.focusOnly_setAfc _

theorem afcFigures_focus (s : State) (fn : Nat) (rs : List WindowRecord) : (afcFigures s fn rs).FocusOnly s := by
  have hscan : (match s.afc.scan with
      | some sc => match sc.wait with | .eof blurred => afcEntry s sc blurred fn rs | _ => s
      | none => s).FocusOnly s := by
    split
    · split
      · exact afcEntry_focus ..
      · exact .refl s
    · exact .refl s
  unfold afcFigures
  split
  iterate 2 exact hscan
  iterate 2
    split
    · dsimp only
      split
      · exact State.focusOnly_ite (s.focusOnly_setAfc _) ((afcReferenceFrame_focus ..).trans (s.focusOnly_setAfc _))
      · exact s.focusOnly_setAfc _
    · exact .refl s
  · exact .refl s

theorem zmcPlace_focus (s : State) (e sp : Nat) : (zmcPlace s e sp).FocusOnly s := s.focusOnly_place ..

theorem zmcNextSegment_focus (s : State) (z : ZoomInHand) : (zmcNextSegment s z).FocusOnly s :=
  (zmcPlace_focus ..).trans (s.focusOnly_setZmc _)

theorem zmcTrack_focus (s : State) : (zmcTrack s).FocusOnly s := by
  unfold zmcTrack
  exact State.focusOnly_ite ((State.focusOnly_place ..).trans
    (State.focusOnly_ite (.of_eq (by rfl) (by rfl)) (s.focusOnly_setZmc _))) (.refl s)

theorem zmcIdle_focus (s : State) : (zmcIdle s).FocusOnly s := (afcZoomIdle_focus _).trans (s.focusOnly_setZmc _)

theorem zmcEnd_focus (s : State) (b : Bool) : (zmcEnd s b).FocusOnly s := by
  have hdone : (s.raise condZoomDone).FocusOnly s := s.focusOnly_raise (by decide)
  unfold zmcEnd
  exact (zmcIdle_focus _).trans (State.focusOnly_ite ((State.focusOnly_raise _ (by decide)).trans hdone) hdone)

theorem zmcMoveComplete_focus (s : State) : (zmcMoveComplete s).FocusOnly s := by
  unfold zmcMoveComplete
  split
  · exact State.focusOnly_ite ((zmcEnd_focus ..).trans (zmcTrack_focus s)) ((zmcNextSegment_focus ..).trans (zmcTrack_focus s))
  · exact (zmcEnd_focus ..).trans (zmcTrack_focus s)
  · exact .refl s

theorem parkRequest_focus (s : State) (m : Motor) : (parkRequest s m).FocusOnly s :=
  State.focusOnly_ite (s.focusOnly_setLds _) (s.focusOnly_setLds _)

theorem parkComplete_focus (s : State) : (parkComplete s).FocusOnly s := by
  unfold parkComplete
  split
  iterate 2 exact parkRequest_focus ..
  · exact (State.focusOnly_raise _ (by decide)).trans (s.focusOnly_setLds _)
  · exact s.focusOnly_setLds _

theorem moveComplete_focus (s : State) (src : Source) : (moveComplete s src).FocusOnly s := by
  cases src with
  | park => exact parkComplete_focus s
  | track => exact afcTrackEnded_focus s
  | zoom => exact zmcMoveComplete_focus s
  | iris => exact .refl s
  | af => exact afcMoveComplete_focus s
  | manual => exact s.focusOnly_raise (by decide)

theorem tellGrant_focus (s : State) (src : Source) : (tellGrant s src).FocusOnly s :=
  State.focusOnly_ite (afcZoomGranted_focus s) (.refl s)

theorem grantOne_focus (s : State) (m : Move) : (grantOne s m).2.FocusOnly s := by
  unfold grantOne
  split
  · exact (moveComplete_focus ..).trans (tellGrant_focus ..)
  · exact (tellGrant_focus ..).trans (s.focusOnly_setLds _)

theorem grantLoop_focus (k : Nat) (s : State) : (grantLoop k s).FocusOnly s := by
  induction k generalizing s with
  | zero => exact .refl s
  | succ k ih =>
    have hone (l : Lds) (m : Move) : (grantOne (s.setLds l) m).2.FocusOnly s := (grantOne_focus ..).trans (s.focusOnly_setLds _)
    unfold grantLoop
    refine State.focusOnly_ite ?_ (.refl s)
    split
    · exact .refl s
    all_goals exact State.focusOnly_ite ((ih _).trans (hone ..)) (hone ..)

theorem State.grant_focus (s : State) : s.grant.FocusOnly s := grantLoop_focus _ s

/-! ### The exposure controller at a frame -/

theorem aecJudgeRecords_focus (s : State) : (aecJudgeRecords s).FocusOnly s := by
  unfold aecJudgeRecords
  split
  iterate 2 exact .refl s
  · exact aecJudge_focus s

theorem aecJudgeRecords_condKept_of {s t : State} (h : t.cnd = s.cnd) : (aecJudgeRecords t).CondKept s :=
  (aecJudgeRecords_focus t).cond.trans (.of_eq h)

theorem writePoint_condKept (s : State) : (writePoint s).CondKept s := by
  have hstart (i : Issue) (r : Bool) : (startSequence s i r).CondKept s :=
    State.condKept_ite (aecJudgeRecords_condKept_of rfl) (.of_eq rfl)
  unfold writePoint
  split
  iterate 2 exact hstart ..
  · exact .of_eq rfl

theorem aecSof_condKept (s : State) (subject : List Nat) : (aecSof s subject).CondKept s :=
  (writePoint_condKept _).trans ((State.condKept_setAec ..).trans (aecJudgeRecords_condKept_of (by rfl)))

theorem requestIris_focus (s : State) (t : Nat) : (requestIris s t).FocusOnly s :=
  State.focusOnly_ite ((State.grant_focus _).trans (s.focusOnly_place ..)) (.refl s)

theorem captureCopy_condKept (s : State) : (captureCopy s).CondKept s := by
  unfold captureCopy
  refine State.condKept_ite ?_ (.of_eq rfl)
  split
  · exact aecJudgeRecords_condKept_of rfl
  · exact .of_eq rfl

theorem issueOff_condKept (s : State) : (issueOff s).CondKept s := by
  unfold issueOff
  split
  · refine State.condKept_ite ?_ (.of_eq rfl)
    exact State.condKept_ite (.of_eq rfl) ((requestIris_focus ..).cond.trans (aecJudgeRecords_condKept_of rfl))
  · exact captureCopy_condKept s

theorem invalidFrame_condKept (s : State) : (invalidFrame s).CondKept s := (aecJudge_focus _).cond.trans (.of_eq rfl)

theorem reportStages_condKept (s : State) (c : Computed) : (reportStages s c).CondKept s :=
  State.condKept_ite ((State.condKept_raise _ (by decide)).trans (.of_eq rfl)) (.of_eq rfl)

theorem settleFrame_condKept (s : State) (c : Computed) (p : Plan) (w : Bool) : (settleFrame s c p w).CondKept s := by
  unfold settleFrame
  exact (aecJudge_focus _).cond.trans
    ((State.condKept_setAec ..).trans (State.condKept_ite (s.condKept_raise (by decide)) (.of_eq rfl)))

theorem issueDecision_condKept (s : State) (p : Plan) (w : Bool) : (issueDecision s p w).CondKept s := by
  unfold issueDecision
  exact State.condKept_ite (State.condKept_ite ((requestIris_focus ..).cond.trans (.of_eq rfl)) (.of_eq rfl)) (.of_eq rfl)

theorem measuredFrame_condKept (s : State) (z : ZoneSet) : (measuredFrame s z).1.CondKept s := by
  have hset (p : Plan) (w : Bool) : (settleFrame (reportStages s (computeStages s z)) (computeStages s z) p w).CondKept s :=
    (settleFrame_condKept ..).trans (reportStages_condKept ..)
  unfold measuredFrame
  dsimp only
  split
  · exact (State.condKept_setAec ..).trans (hset ..)
  · exact (issueDecision_condKept ..).trans (hset ..)

theorem aecEof_condKept (s : State) (z : Option ZoneSet) : (aecEof s z).1.CondKept s := by
  unfold aecEof
  dsimp only
  repeat' split
  iterate 2 exact .of_eq rfl
  · exact issueOff_condKept s
  · exact captureCopy_condKept s
  · exact (captureCopy_condKept _).trans (reportStages_condKept ..)
  · exact captureCopy_condKept s
  · exact invalidFrame_condKept s
  · exact measuredFrame_condKept s _
  · exact invalidFrame_condKept s

end Sys2Proof.Machine
end

section
/-! SUPPORT. The slots freed by the store (R141, R144, R149): what freeing one slot does, and that freeing every FILLING slot
empties them all and reports STORE_FULL false; a frame that ends truncated, written out (R9). -/

namespace Sys2Proof.Machine

/-- A slot that is FREE (R141), its storing order kept (log entries 41, 72). -/
def freed (x : Slot) : Slot := { freeSlot with order := x.order }

theorem storeFull_eq_decide (slots : List Slot) : storeFull slots = decide (∀ x ∈ slots, x.state ≠ .free) := by
  rw [storeFull, Bool.eq_iff_iff, Bool.not_eq_true', List.any_eq_false, decide_eq_true_iff]
  simp only [decide_eq_true_eq, ne_eq]

theorem storeFull_eq_false {slots : List Slot} {x : Slot} (hx : x ∈ slots) (h : x.state = .free) : storeFull slots = false := by
  rw [storeFull_eq_decide, decide_eq_false]
  exact fun hall => hall x hx h

/-- A change of a slot that is there, STORE_FULL following (R141). -/
theorem setSlot_eq_set {s : State} {i : Nat} {x : Slot} (f : Slot → Slot) (hx : s.cst.slots[i]? = some x) :
    setSlot s i f = (s.setCst { s.cst with slots := s.cst.slots.set i (f x) }).setCnd
      (cndSetLevel s.cnd condStoreFull (storeFull (s.cst.slots.set i (f x)))) := by
  rw [← modifyAt_eq_set hx]
  rfl

/-- Freeing a slot that is there: STORE_FULL is false. -/
theorem freeSlotAt_eq {s : State} {i : Nat} (hi : i < s.cst.slots.length) :
    freeSlotAt s i = (s.setCst { s.cst with slots := modifyAt freed s.cst.slots i }).setCnd
      (cndSetLevel s.cnd condStoreFull false) := by
  have hfree : freed s.cst.slots[i] ∈ modifyAt freed s.cst.slots i :=
    List.mem_of_getElem? (i := i) (by rw [getElem?_modifyAt, if_pos rfl, List.getElem?_eq_getElem hi]; rfl)
  have hfull := storeFull_eq_false hfree rfl
  change (s.setCst { s.cst with slots := modifyAt freed s.cst.slots i }).setCnd
    (cndSetLevel s.cnd condStoreFull (storeFull (modifyAt freed s.cst.slots i))) = _
  rw [hfull]

/-- Slots freed one after the other. -/
theorem foldl_freeSlotAt (ks : List Nat) (s : State) (h : ∀ k ∈ ks, k < s.cst.slots.length) :
    ks.foldl freeSlotAt s = (s.setCst { s.cst with slots := ks.foldl (modifyAt freed) s.cst.slots }).setCnd
      (if ks = [] then s.cnd else cndSetLevel s.cnd condStoreFull false) := by
  induction ks generalizing s with
  | nil => rfl
  | cons k ks ih =>
    have hk := h k (.head _)
    have hrest : ∀ j ∈ ks, j < (freeSlotAt s k).cst.slots.length := fun j hj => by
      rw [freeSlotAt_eq hk]
      exact (length_modifyAt ..).symm ▸ h j (.tail _ hj)
    rw [List.foldl_cons, ih _ hrest, freeSlotAt_eq hk, if_neg (List.cons_ne_nil k ks)]
    change (s.setCst { s.cst with slots := ks.foldl (modifyAt freed) (modifyAt freed s.cst.slots k) }).setCnd
      (if ks = [] then cndSetLevel s.cnd condStoreFull false
       else cndSetLevel (cndSetLevel s.cnd condStoreFull false) condStoreFull false) = _
    rw [cndSetLevel_false_twice, ite_self]
    rfl

theorem getElem?_foldl_modifyAt {α : Type} (f : α → α) (ks : List Nat) (hk : ks.Nodup) (l : List α) (j : Nat) :
    (ks.foldl (modifyAt f) l)[j]? = if j ∈ ks then l[j]?.map f else l[j]? := by
  induction ks generalizing l with
  | nil => simp
  | cons k ks ih =>
    obtain ⟨hnot, hks⟩ := List.nodup_cons.1 hk
    rw [List.foldl_cons, ih hks, getElem?_modifyAt]
    by_cases hj : j = k
    · subst hj; simp [hnot]
    · simp [hj, Ne.symm hj]

theorem nodup_slotsWhere (p : Slot → Bool) (slots : List Slot) : (slotsWhere p slots).Nodup :=
  List.Nodup.filter _ List.nodup_range

/-- Every FILLING slot is freed, and STORE_FULL is reported false where there was one (R144, R149). -/
theorem freeFilling_eq (s : State) :
    freeFilling s = (s.setCst { s.cst with slots := s.cst.slots.map unfilled }).setCnd
      (if ∃ x ∈ s.cst.slots, x.state = .filling then cndSetLevel s.cnd condStoreFull false else s.cnd) := by
  have hlt : ∀ k ∈ slotsWhere (fun x => decide (x.state = .filling)) s.cst.slots, k < s.cst.slots.length := fun k hk => by
    obtain ⟨x, hx, -⟩ := mem_slotsWhere.1 hk
    exact (List.getElem?_eq_some_iff.1 hx).1
  have hslots : (slotsWhere (fun x => decide (x.state = .filling)) s.cst.slots).foldl (modifyAt freed) s.cst.slots =
      s.cst.slots.map unfilled := by
    refine List.ext_getElem? fun j => ?_
    rw [getElem?_foldl_modifyAt _ _ (nodup_slotsWhere ..), List.getElem?_map]
    cases hj : s.cst.slots[j]? with
    | none => simp
    | some x =>
      by_cases hx : x.state = .filling <;> simp [mem_slotsWhere, hj, hx, unfilled, freed]
  have hnone : slotsWhere (fun x => decide (x.state = .filling)) s.cst.slots = [] ↔ ¬ ∃ x ∈ s.cst.slots, x.state = .filling := by
    simp [slotsWhere_eq_nil]
  unfold freeFilling
  rw [foldl_freeSlotAt _ s hlt, hslots]
  by_cases hx : ∃ x ∈ s.cst.slots, x.state = .filling
  · rw [if_pos hx, if_neg (by rwa [hnone, not_not])]
  · rw [if_neg hx, if_pos (hnone.2 hx)]

theorem unfilled_state_ne (x : Slot) : (unfilled x).state ≠ .filling := by
  unfold unfilled
  split
  · exact SlotState.noConfusion
  · assumption

theorem freeFilling_not_filling (s : State) : ∀ x ∈ (freeFilling s).cst.slots, x.state ≠ .filling := by
  rw [freeFilling_eq]
  intro x hx
  obtain ⟨y, -, rfl⟩ := List.mem_map.1 (show x ∈ s.cst.slots.map unfilled from hx)
  exact unfilled_state_ne y

/-! ### A frame that ends truncated (R9) -/

/-- INTAKE, MOU and STATS at a truncated EOF, before AEC (R9, R27, R127). -/
def cutShort (s : State) : State := (s.setMou (mouEof s.mou)).setStats (statsTruncated s.stats)

/-- What a truncated EOF leaves, once AEC has left the state r (R9, R102, R149). -/
theorem truncatedWork_eq {s r : State} (hr : (aecEof (cutShort s) none).1 = r) :
    truncatedWork s = ((r.setAfc (afcTruncated r.afc)).setCst { s.cst with slots := s.cst.slots.map unfilled }).setCnd
      (if ∃ x ∈ s.cst.slots, x.state = .filling then cndSetLevel r.cnd condStoreFull false else r.cnd) := by
  have hc : r.cst = s.cst := by rw [← hr]; exact (aecEof_controls ..).cst
  have h : truncatedWork s = freeFilling (r.setAfc (afcTruncated r.afc)) := by rw [← hr]; rfl
  rw [h, freeFilling_eq, State.setAfc_cst, State.setAfc_cnd, hc]

theorem truncatedWork_controls (s : State) : (aecEof (cutShort s) none).1.ControlsOnly (cutShort s) := aecEof_controls ..

theorem truncatedWork_mou_stats (s : State) :
    (truncatedWork s).mou = mouEof s.mou ∧ (truncatedWork s).stats = statsTruncated s.stats ∧
    (truncatedWork s).intake = s.intake ∧ (truncatedWork s).pxp = s.pxp ∧ (truncatedWork s).lnk = s.lnk := by
  have h := truncatedWork_controls s
  rw [truncatedWork_eq rfl]
  exact ⟨h.mou, h.stats, h.intake, h.pxp, h.lnk⟩

/-- The length of the conditions stands through a truncated EOF, and so does every event condition of another block. -/
theorem truncatedWork_agreeAt (s : State) {k : Nat} (h12 : 12 ≤ k) (hk : k ≠ condStoreFull) :
    Cnd.AgreeAt k (truncatedWork s).cnd s.cnd := by
  have h : Cnd.AgreeAt k (aecEof (cutShort s) none).1.cnd s.cnd := (aecEof_condKept ..).agreeAt k h12
  rw [truncatedWork_eq rfl]
  change Cnd.AgreeAt k (if _ then _ else _) _
  split
  · exact (cndSetLevel_agreeAt_of_ne _ _ hk).trans h
  · exact h

theorem truncatedWork_not_filling (s : State) : ∀ x ∈ (truncatedWork s).cst.slots, x.state ≠ .filling :=
  freeFilling_not_filling _

/-- A truncation of a kind that latches FRAME_TRUNCATED (R9). -/
theorem truncateFrame_of_latches (s : State) {c : TruncationCause} (h : c.latches = true) :
    truncateFrame s c = (truncatedWork (s.setIntake { s.intake with mode := .waiting })).raise condFrameTruncated := if_pos h

theorem truncateFrame_stopped (s : State) :
    truncateFrame s .stopped = truncatedWork (s.setIntake { s.intake with mode := .waiting }) := rfl

end Sys2Proof.Machine
end

section
/-! SUPPORT. The blocks' work at an SOF (R11): what AEC, MOU and CST leave to the blocks after them; FRAME_START opens a
frame. -/

namespace Sys2Proof.Machine

/-! ### The store at an SOF leaves the frame's exposure and SHIFT_LIMIT -/

/-- The exposure fixed for the frame and the condition SHIFT_LIMIT are the same. -/
structure State.FrameFixed (t s : State) : Prop where
  frame : t.aec.frame = s.aec.frame
  limit : Cnd.AgreeAt condShiftLimit t.cnd s.cnd

theorem State.FrameFixed.of_eq {s t : State} (ha : t.aec = s.aec) (hc : t.cnd = s.cnd) : t.FrameFixed s :=
  ⟨congrArg Aec.frame ha, hc ▸ .refl ..⟩

theorem State.FrameFixed.refl (s : State) : s.FrameFixed s := .of_eq rfl rfl

theorem State.FrameFixed.trans {s t u : State} (h : u.FrameFixed t) (g : t.FrameFixed s) : u.FrameFixed s :=
  ⟨h.frame.trans g.frame, h.limit.trans g.limit⟩

theorem State.FocusOnly.frameFixed {s t : State} (h : t.FocusOnly s) : t.FrameFixed s :=
  ⟨by rw [h.aec], h.cond.agreeAt _ (by decide)⟩

theorem State.frameFixed_setCst (s : State) (c : Cst) : (s.setCst c).FrameFixed s := .of_eq rfl rfl

theorem State.frameFixed_raise (s : State) {k : Nat} (h : condShiftLimit ≠ k) : (s.raise k).FrameFixed s :=
  ⟨rfl, cndRaise_agreeAt_of_ne _ h⟩

theorem passWithheld_focus (s : State) : (passWithheld s).FocusOnly s :=
  State.focusOnly_ite
    (State.focusOnly_ite (.of_eq (by rfl) (by rfl)) ((afcS1Release_focus _).trans (.of_eq (by rfl) (by rfl)))) (.refl s)

theorem captureEnds_frameFixed (s : State) (st : CaptureState) : (captureEnds s st).FrameFixed s := by
  have htell : (tellCaptureEnd s).FrameFixed s := by
    unfold tellCaptureEnd
    split
    · exact ⟨rfl, .refl ..⟩
    · exact .refl s
  exact (passWithheld_focus _).frameFixed.trans ((State.frameFixed_setCst ..).trans htell)

theorem checkCaptureDone_frameFixed (s : State) : (checkCaptureDone s).FrameFixed s := by
  unfold checkCaptureDone
  split
  · exact (captureEnds_frameFixed ..).trans (s.frameFixed_raise (by decide))
  · exact .refl s

theorem gateSof_frameFixed (s : State) : (gateSof s).FrameFixed s := by
  unfold gateSof
  split
  · split
    · exact s.frameFixed_setCst _
    · split
      · unfold gateExpires
        split
        · exact s.frameFixed_setCst _
        · exact (captureEnds_frameFixed ..).trans (s.frameFixed_raise (by decide))
      · exact s.frameFixed_setCst _
  · exact .refl s

theorem setSlot_frameFixed (s : State) (i : Nat) (f : Slot → Slot) : (setSlot s i f).FrameFixed s :=
  ⟨rfl, cndSetLevel_agreeAt_of_ne _ _ (by decide)⟩

theorem missFrame_frameFixed (s : State) (part : Part) : (missFrame s part).FrameFixed s :=
  (checkCaptureDone_frameFixed _).trans (s.frameFixed_setCst _)

theorem storeFrame_frameFixed (s : State) (part : Part) (f : FrameFacts) (n : Nat) : (storeFrame s part f n).FrameFixed s := by
  have hopen (u : State) (i : Nat) : (openSlot u i part f n).FrameFixed u :=
    (setSlot_frameFixed ..).trans (u.frameFixed_setCst _)
  unfold storeFrame
  split
  · exact hopen ..
  · split
    · exact (hopen ..).trans (setSlot_frameFixed ..)
    · exact missFrame_frameFixed ..

theorem cstSof_frameFixed (s : State) (f : FrameFacts) : (cstSof s f).FrameFixed s := by
  unfold cstSof
  dsimp only
  refine State.FrameFixed.trans ?_ (gateSof_frameFixed s)
  generalize gateSof s = u
  split
  · exact .refl u
  · unfold storePre
    split
    · split
      · exact (storeFrame_frameFixed ..).trans (setSlot_frameFixed ..)
      · exact missFrame_frameFixed ..
    · exact storeFrame_frameFixed ..
  · unfold storeFiltered
    dsimp only
    split
    · exact u.frameFixed_setCst _
    · exact (storeFrame_frameFixed ..).trans (u.frameFixed_setCst _)

/-! ### AEC and MOU at an SOF -/

/-- AEC's work at an SOF is an update of AEC and of the conditions. -/
theorem aecSof_eq_set (s : State) (subject : List Nat) : ∃ a c, aecSof s subject = (s.setAec a).setCnd c := by
  have hjudge (u : State) : ∃ a c, aecJudgeRecords u = (u.setAec a).setCnd c := by
    unfold aecJudgeRecords
    split
    iterate 2 exact ⟨u.aec, u.cnd, rfl⟩
    · exact ⟨_, _, rfl⟩
  have hstart (u : State) (i : Issue) (b : Bool) : ∃ a c, startSequence u i b = (u.setAec a).setCnd c := by
    unfold startSequence
    dsimp only
    split
    · obtain ⟨a, c, h⟩ := hjudge (u.setAec (completeSequence { u.aec with awaiting := none, retry := none } u.intake.fn i))
      exact ⟨a, c, h⟩
    · exact ⟨startItem _, u.cnd, rfl⟩
  have hwrite (u : State) : ∃ a c, writePoint u = (u.setAec a).setCnd c := by
    unfold writePoint
    split
    iterate 2 exact hstart ..
    · exact ⟨u.aec, u.cnd, rfl⟩
  obtain ⟨a, c, h⟩ := hjudge (s.setAec { s.aec with inFlight := pruneInFlight s.intake.fn s.aec.inFlight })
  unfold aecSof
  dsimp only
  rw [h]
  obtain ⟨a', c', h'⟩ := hwrite _
  exact ⟨a', c', h'⟩

/-- MOU finds that the crop clamp acts at an SOF on either axis (R132). -/
def cropActs (s : State) : Bool :=
  cropClamped (marginX s.intake.geometry) s.mou.yaw.residual s.mou.params.ppu ||
  cropClamped (marginY s.intake.geometry) s.mou.pitch.residual s.mou.params.ppu

/-- MOU's work at an SOF on the machine, written out (R132, R136). -/
theorem mouSof_fst (s : State) : (mouSof s).1 =
    (((s.setMou { s.mou with queue := s.mou.queue.tail }).setPxp
      { s.pxp with
        cropX := cropOf (marginX s.intake.geometry) s.mou.yaw.residual s.mou.params.ppu
        cropY := cropOf (marginY s.intake.geometry) s.mou.pitch.residual s.mou.params.ppu }).setCnd
      (if cropActs s then cndRaise s.cnd condShiftLimit else s.cnd)) := by
  unfold mouSof cropActs
  dsimp only
  split <;> rfl

/-! ### The frame opened -/

/-- The work at an SOF of AEC, MOU, PXP and STATS, on a machine whose commits and timed latches have had theirs. -/
def sofMeasured (u : State) : State := statsSof (pxpSof (mouSof (aecSof u u.afc.subjectMask)).1)

/-- After STATS the SOF is the store's and the focus controller's. -/
theorem sofAfterCommits_of_measured (s : State) :
    (sofAfterCommits s).StoreOnly (sofMeasured (timedSof s)) ∧ (sofAfterCommits s).FrameFixed (sofMeasured (timedSof s)) := by
  unfold sofAfterCommits sofMeasured
  generalize timedSof s = u
  exact ⟨((State.grant_controls _).trans (afcSof_controls ..)).storeOnly.trans (cstSof_storeOnly ..),
    ((State.grant_focus _).trans (afcSof_focus ..)).frameFixed.trans (cstSof_frameFixed ..)⟩

/-- What the blocks before CST leave, AEC and the conditions but for SHIFT_LIMIT apart. -/
theorem sofMeasured_eq (u : State) : ∃ a c,
    Cnd.AgreeAt condShiftLimit c (if cropActs u then cndRaise u.cnd condShiftLimit else u.cnd) ∧
    sofMeasured u = ((((u.setAec a).setMou { u.mou with queue := u.mou.queue.tail }).setPxp
      { black := some u.intake.black
        shading := some ⟨bandOf u.intake u.lds.zoom, if u.tableValid (shadingId (bandOf u.intake u.lds.zoom))
          then some (u.working (shadingId (bandOf u.intake u.lds.zoom))) else none⟩
        dg := digitalGain a.frame.gD
        cropX := cropOf (marginX u.intake.geometry) u.mou.yaw.residual u.mou.params.ppu
        cropY := cropOf (marginY u.intake.geometry) u.mou.pitch.residual u.mou.params.ppu }).setStats
      { u.stats with measure := some (openMeasurement u) }).setCnd c := by
  obtain ⟨a, c, h⟩ := aecSof_eq_set u u.afc.subjectMask
  have hagree : Cnd.AgreeAt condShiftLimit c u.cnd := by
    have hkept := (aecSof_condKept u u.afc.subjectMask).agreeAt condShiftLimit (by decide)
    rwa [h] at hkept
  refine ⟨a, if cropActs u then cndRaise c condShiftLimit else c, ?_, ?_⟩
  · split
    · exact hagree.raise _
    · exact hagree
  · unfold sofMeasured
    rw [mouSof_fst, h]
    rfl

/-- The machine at an SOF when its first part is done: the frame open, the commits and the timed latches (R6, R166, R182). -/
def sofStarted (s : State) : State := timedSof (applyCommits (s.setIntake (intakeSof s.intake)))

theorem frameOpens_of_measured (s : State) :
    (frameOpens s).StoreOnly (sofMeasured (sofStarted s)) ∧ (frameOpens s).FrameFixed (sofMeasured (sofStarted s)) :=
  sofAfterCommits_of_measured (applyCommits (s.setIntake (intakeSof s.intake)))

/-- Applying commits raises TABLE_APPLIED alone. -/
theorem applyCommits_agreeAt (s : State) {k : Nat} (hk : k ≠ condTableApplied) : Cnd.AgreeAt k (applyCommits s).cnd s.cnd := by
  have hone (u : State) (id : Nat) : Cnd.AgreeAt k (applyCommit u id).cnd u.cnd := by
    unfold applyCommit
    split
    · exact cndRaise_agreeAt_of_ne _ hk
    · exact .refl ..
  have hall (ids : List Nat) (u : State) : Cnd.AgreeAt k (ids.foldl applyCommit u).cnd u.cnd := by
    induction ids generalizing u with
    | nil => exact .refl ..
    | cons id ids ih => exact (ih _).trans (hone u id)
  have hfold := hall (List.range 14) s
  unfold applyCommits
  dsimp only
  generalize (List.range 14).foldl applyCommit s = u at hfold
  split
  · exact hfold
  · exact hfold

theorem sofStarted_commitsOnly (s : State) :
    ∃ w : State, w.CommitsOnly (s.setIntake (intakeSof s.intake)) ∧ Cnd.AgreeAt condShiftLimit w.cnd s.cnd ∧
      sofStarted s = w.setCnd (cndSof w.cnd) :=
  ⟨_, applyCommits_commitsOnly _, applyCommits_agreeAt (s.setIntake (intakeSof s.intake)) (by decide), rfl⟩

/-- A frame opens: what each block holds for it (R6, R12 to R14, R17, R132, R136). -/
theorem frameOpens_values (s : State) :
    let t := frameOpens s
    t.intake = intakeSof s.intake ∧
    t.pxp = { black := some s.intake.black
              shading := some ⟨bandOf s.intake s.lds.zoom, if t.tableValid (bandOf s.intake s.lds.zoom)
                then some (t.working (bandOf s.intake s.lds.zoom)) else none⟩
              dg := digitalGain t.aec.frame.gD
              cropX := cropOf (marginX s.intake.geometry) s.mou.yaw.residual s.mou.params.ppu
              cropY := cropOf (marginY s.intake.geometry) s.mou.pitch.residual s.mou.params.ppu } ∧
    Cnd.AgreeAt condShiftLimit t.cnd (if cropActs s then cndRaise (cndSof s.cnd) condShiftLimit else cndSof s.cnd) ∧
    t.stats = { s.stats with measure := some (openMeasurement s) } ∧ t.mou = { s.mou with queue := s.mou.queue.tail } ∧
    (∀ m, (t.lds.motor m).pos = (s.lds.motor m).pos) ∧ t.cst.dram = s.cst.dram ∧
    t.lnk = { s.lnk with tables := t.lnk.tables } ∧ t.choices = s.choices := by
  obtain ⟨hstore, hfixed⟩ := frameOpens_of_measured s
  obtain ⟨w, hw, hlimit, hstart⟩ := sofStarted_commitsOnly s
  rw [hstart] at hstore hfixed
  obtain ⟨a, c, hc, hm⟩ := sofMeasured_eq (w.setCnd (cndSof w.cnd))
  rw [hm] at hstore hfixed
  have hmargin : cropActs (w.setCnd (cndSof w.cnd)) = cropActs s := by
    unfold cropActs
    rw [State.setCnd_intake, State.setCnd_mou, hw.intake, hw.mou]
    rfl
  have hcrop : Cnd.AgreeAt condShiftLimit (frameOpens s).cnd
      (if cropActs s then cndRaise (cndSof s.cnd) condShiftLimit else cndSof s.cnd) := by
    refine (hfixed.limit.trans hc).trans ?_
    rw [hmargin, State.setCnd_cnd]
    split
    · exact hlimit.sof.raise _
    · exact hlimit.sof
  generalize cndSof w.cnd = d at hstore hfixed
  have hgain : (frameOpens s).aec.frame.gD = a.frame.gD := by rw [hfixed.frame]; simp
  have hlnk : (frameOpens s).lnk = w.lnk := hstore.lnk.trans (by simp)
  have htable (k : Nat) : (frameOpens s).table k = w.table k := State.table_congr (congrArg Lnk.tables hlnk) k
  have hlds : w.lds = s.lds := hw.lds
  refine ⟨hstore.intake.trans hw.intake, hstore.pxp.trans ?_, hcrop, hstore.stats.trans ?_, hstore.mou.trans ?_, fun m => ?_,
    hstore.dram.trans (congrArg Cst.dram hw.cst), ?_, hstore.choices.trans hw.choices⟩
  · simp only [State.tableValid, State.working, htable, hgain]
    simp [hw.intake, hw.lds, hw.mou, intakeSof, shadingId, State.table, bandOf]
  · simp [hw.stats, openMeasurement, hw.intake, hw.afc, intakeSof]
  · simp [hw.mou]
  · cases m with
    | zoom => exact congrArg MotorState.pos (hstore.zoom.trans (congrArg Lds.zoom hlds))
    | focus => exact congrArg MotorState.pos (hstore.focus.trans (congrArg Lds.focus hlds))
    | iris => exact congrArg MotorState.pos (hstore.iris.trans (congrArg Lds.iris hlds))
  · rw [hlnk]
    exact hw.link

end Sys2Proof.Machine
end

section
/-! SUPPORT. FRAME_START from each state of INTAKE (R6, R9). -/

namespace Sys2Proof.Machine

theorem bandOf_eq (i : Intake) (z : MotorState) :
    bandOf i z = if z.valid = false ∨ z.pos < i.b1 then 0 else if z.pos < i.b2 then 1 else if z.pos < i.b3 then 2 else 3 := by
  unfold bandOf
  cases z.valid <;> simp

theorem exec_frameStart_of_stopped {s : State} (h : s.intake.mode = .stopped) : exec .frameStart s = .next s := by
  change Host.Outcome.next (frameStartPacket s) = _
  rw [frameStartPacket, h]

theorem exec_frameStart_of_waiting {s : State} (h : s.intake.mode = .waiting) : exec .frameStart s = .next (frameOpens s) := by
  change Host.Outcome.next (frameStartPacket s) = _
  rw [frameStartPacket, h]

theorem exec_frameStart_of_inFrame {s : State} (h : s.intake.mode = .inFrame) :
    exec .frameStart s = .next (frameOpens (truncateFrame s .newStart)) := by
  change Host.Outcome.next (frameStartPacket s) = _
  rw [frameStartPacket, h]

theorem truncateFrame_intake (s : State) {c : TruncationCause} (h : c.latches = true) :
    (truncateFrame s c).intake = { s.intake with mode := .waiting } := by
  rw [truncateFrame_of_latches s h]
  exact (truncatedWork_mou_stats _).2.2.1

/-- Settles O26, from what the blocks hold once a frame is open and from what a truncated frame leaves. -/
theorem frameStartOpensFrame : Obligations.FrameStartOpensFrame := by
  refine ⟨fun s h => exec_frameStart_of_stopped h, fun s h => ?_, fun s h hlen => ?_⟩
  · obtain ⟨hintake, hpxp, hlimit, hstats, hmou, hpos, hdram, hlnk, hchoices⟩ := frameOpens_values s
    have hacts : (cropClamped (s.intake.geometry.w - s.intake.geometry.outW) s.mou.yaw.residual s.mou.params.ppu = true ∨
        cropClamped (s.intake.geometry.h - s.intake.geometry.outH) s.mou.pitch.residual s.mou.params.ppu = true) ↔
        cropActs s = true := by simp [cropActs, marginX, marginY]
    refine ⟨frameOpens s, exec_frameStart_of_waiting h, hintake, ?_, ?_, ?_, ?_, ?_, ?_, fun hc hlen => ?_, hstats, hmou,
      hpos, hdram, hlnk, hchoices⟩
    · rw [hpxp]
    · rw [hpxp, bandOf_eq]
    · exact congrArg Pxp.dg hpxp
    · exact congrArg Pxp.cropX hpxp
    · exact congrArg Pxp.cropY hpxp
    · rw [hlimit.1]
      simp only [hacts]
    · rw [hlimit.1, if_pos (hacts.1 hc)]
      refine cndRaise_latch ?_
      rw [length_cndSof, hlen]
      decide
  · have hwait : (truncateFrame s .newStart).intake = { s.intake with mode := .waiting } := truncateFrame_intake s rfl
    have hmode := congrArg Intake.mode hwait
    have hcut := truncateFrame_of_latches s (c := .newStart) rfl
    refine ⟨_, _, rfl, hmode, ?_, ?_, ?_, exec_frameStart_of_inFrame h, exec_frameStart_of_waiting hmode, ?_, ?_⟩
    · rw [hcut]
      exact congrArg Stats.measure (truncatedWork_mou_stats _).2.1
    · rw [hcut]
      exact truncatedWork_not_filling _
    · rw [hcut]
      refine cndRaise_latch ?_
      rw [(truncatedWork_agreeAt _ (k := condFrameTruncated) (by decide) (by decide)).2]
      exact hlen ▸ (by decide : condFrameTruncated < 25)
    · rw [(frameOpens_values _).1]
      rfl
    · rw [(frameOpens_values _).1, hwait]
      rfl

end Sys2Proof.Machine
end

section
/-! SUPPORT. The exposure controller at an SOF, written out (R35, R36, R38, R48, R49, R51): the record in effect, the records
dropped, SETTLED, the frame's exposure and the write point. -/

namespace Sys2Proof.Machine

/-! ### The record in effect (R38) -/

/-- A record after which all take effect later is the one in effect, whatever stands before it. -/
theorem inEffect_append_cons {fn : Nat} (older : List InFlight) {r : InFlight} {rest : List InFlight}
    (hr : fnLater r.effective fn = false) (hrest : ∀ x ∈ rest, fnLater x.effective fn = true) :
    inEffect fn (older ++ r :: rest) = some r := by
  have hstay (b : Option InFlight) :
      rest.foldl (fun best r => if fnLater r.effective fn then best else some r) b = b := by
    induction rest with
    | nil => rfl
    | cons x xs ih =>
      rw [List.foldl_cons, hrest x (.head _), if_pos rfl]
      exact ih fun y hy => hrest y (.tail _ hy)
  unfold inEffect
  rw [List.foldl_append, List.foldl_cons, hr, hstay]
  rfl

theorem inEffect_eq_none {fn : Nat} {rs : List InFlight} (h : ∀ x ∈ rs, fnLater x.effective fn = true) :
    inEffect fn rs = none := by
  unfold inEffect
  induction rs with
  | nil => rfl
  | cons x xs ih =>
    rw [List.foldl_cons, h x (.head _), if_pos rfl]
    exact ih fun y hy => h y (.tail _ hy)

theorem pruneInFlight_append_cons {fn : Nat} (older : List InFlight) {r : InFlight} {rest : List InFlight}
    (hr : fnLater r.effective fn = false) (hrest : ∀ x ∈ rest, fnLater x.effective fn = true) :
    pruneInFlight fn (older ++ r :: rest) = r :: rest := by
  induction older with
  | nil => simp [pruneInFlight, inEffect_eq_none hrest]
  | cons x xs ih => simp [pruneInFlight, inEffect_append_cons xs hr hrest, ih]

theorem pruneInFlight_of_later {fn : Nat} {rs : List InFlight} (h : ∀ x ∈ rs, fnLater x.effective fn = true) :
    pruneInFlight fn rs = rs := by
  cases rs with
  | nil => rfl
  | cons x xs => simp [pruneInFlight, inEffect_eq_none fun y hy => h y (.tail _ hy)]

/-- The records that stand at frame fn, and the one of them in effect (R38 step 2). -/
structure InFlightKept (fn : Nat) (rs kept : List InFlight) : Prop where
  prune : pruneInFlight fn rs = kept
  effect : inEffect fn kept = kept.find? fun r => !fnLater r.effective fn

theorem inFlightKept_of {fn : Nat} {rs kept : List InFlight}
    (h : ((∀ r ∈ rs, fnLater r.effective fn = true) ∧ kept = rs) ∨
      ∃ older r rest, rs = older ++ r :: rest ∧ fnLater r.effective fn = false ∧
        (∀ x ∈ rest, fnLater x.effective fn = true) ∧ kept = r :: rest) : InFlightKept fn rs kept := by
  obtain ⟨hall, rfl⟩ | ⟨older, r, rest, rfl, hr, hrest, rfl⟩ := h
  · refine ⟨pruneInFlight_of_later hall, ?_⟩
    rw [inEffect_eq_none hall, eq_comm, List.find?_eq_none]
    intro x hx
    simp [hall x hx]
  · refine ⟨pruneInFlight_append_cons older hr hrest, ?_⟩
    rw [show r :: rest = [] ++ r :: rest from rfl, inEffect_append_cons [] hr hrest]
    simp [hr]

/-! ### The work of AEC up to the write point -/

/-- SETTLED at the SOF of a frame at which the records kept stand (R48): outside RUN and HELD it is judged anew. -/
def settledAtSof (s : State) (kept : List InFlight) : Bool :=
  if s.aec.state = .run ∨ s.aec.state = .held then s.aec.settled
  else decide (s.aec.state ≠ .fault) && s.aec.latest.isSome && kept.all (fun r => !fnLater r.effective s.intake.fn) &&
    s.aec.awaiting.isNone && s.aec.retry.isNone && s.aec.sequence.isNone

/-- The frame's exposure at its SOF (R38 step 3). -/
def frameAtSof (s : State) (kept : List InFlight) : FrameExposure :=
  let aE := min s.irisNow s.aWNow
  match kept.find? fun r => !fnLater r.effective s.intake.fn with
  | some ⟨_, x, program, mark⟩ =>
    ⟨x.tI, aE, x.gA, x.gD, x.tI + aE + x.gA + x.gD, program, mark, s.aec.state, settledAtSof s kept⟩
  | none => ⟨0, aE, 0, 0, aE, .live, none, s.aec.state, settledAtSof s kept⟩

/-- AEC at an SOF before the write point (R38). -/
def aecAtSof (s : State) (subject : List Nat) (kept : List InFlight) : Aec :=
  { s.aec with
    inFlight := kept, settled := settledAtSof s kept, frame := frameAtSof s kept, copy := meterCopy s subject
    irisMoved := s.lds.moving .iris }

/-- The conditions at an SOF after AEC: AE_SETTLED follows SETTLED where it is judged. -/
def cndAtSof (s : State) (kept : List InFlight) : Cnd :=
  if s.aec.state = .run ∨ s.aec.state = .held then s.cnd else cndSetLevel s.cnd condAeSettled (settledAtSof s kept)

/-- The machine as AEC finds it at the write point of an SOF. -/
def atWritePoint (s : State) (subject : List Nat) (kept : List InFlight) : State :=
  (s.setAec (aecAtSof s subject kept)).setCnd (cndAtSof s kept)

/-- SETTLED judged at an SOF, the records dropped (R48). -/
theorem aecJudgeRecords_atSof (s : State) (kept : List InFlight) :
    aecJudgeRecords (s.setAec { s.aec with inFlight := kept }) =
      (s.setAec { s.aec with inFlight := kept, settled := settledAtSof s kept }).setCnd (cndAtSof s kept) := by
  unfold aecJudgeRecords aecJudge settledByRule settledAtSof cndAtSof State.level
  cases h : s.aec.state <;> simp [h, State.setAec, State.setCnd, settledAtSof]

/-- AEC's work at an SOF comes down to the write point (R38, R49). -/
theorem aecSof_of_kept {s : State} (subject : List Nat) {kept : List InFlight}
    (hk : InFlightKept s.intake.fn s.aec.inFlight kept) : aecSof s subject = writePoint (atWritePoint s subject kept) := by
  have hframe (c : Cnd) : frameExposure ((s.setAec { s.aec with inFlight := kept, settled := settledAtSof s kept }).setCnd c) =
      frameAtSof s kept := by
    unfold frameExposure frameAtSof
    dsimp only [State.setCnd_intake, State.setAec_intake, State.setCnd_aec, State.setAec_aec]
    rw [hk.effect]
    cases kept.find? fun r => !fnLater r.effective s.intake.fn <;> rfl
  unfold aecSof
  dsimp only
  rw [hk.prune, aecJudgeRecords_atSof, hframe]
  rfl

/-! ### The write point (R49, R51) -/

/-- At the write point a sequence in hand, or nothing to write, leaves the machine as it is. -/
theorem writePoint_eq_self {s : State} (h : s.aec.sequence.isSome = true ∨ (s.aec.retry = none ∧ s.aec.awaiting = none)) :
    writePoint s = s := by
  unfold writePoint
  obtain h | ⟨hr, ha⟩ := h
  · obtain ⟨w, hw⟩ := Option.isSome_iff_exists.1 h
    rw [hw]
  · cases s.aec.sequence <;> simp [hr, ha]

/-- The byte of an item by its source (R36). -/
theorem itemByte_eq (s : State) (x : Setting) (source value : Nat) :
    itemByte s x source value = BitVec.ofNat 8 (match source with
      | 0 => tbl16 (s.working timeId) (2 + 2 * x.tI) / 256
      | 1 => tbl16 (s.working timeId) (2 + 2 * x.tI)
      | 2 => tbl16 (s.working againId) (2 + 2 * x.gA) / 256
      | 3 => tbl16 (s.working againId) (2 + 2 * x.gA)
      | _ => value) := by
  match source with
  | 0 => rfl
  | 1 => rfl
  | 2 => rfl
  | 3 => rfl
  | _ + 4 => rfl

/-- The items of a write sequence spelled out, each byte by its source (R36, R191). -/
def spelledItems (s : State) (x : Setting) : List SensorItem :=
  let m := s.working sensorWriteId
  (List.range (tbl8 m 1)).map fun j =>
    let lines := tbl16 (s.working timeId) (2 + 2 * x.tI)
    let gain := tbl16 (s.working againId) (2 + 2 * x.gA)
    ⟨tbl8 m 0, tbl16 m (2 + 4 * j), BitVec.ofNat 8 (match tbl8 m (4 + 4 * j) with
      | 0 => lines / 256
      | 1 => lines
      | 2 => gain / 256
      | 3 => gain
      | _ => tbl8 m (5 + 4 * j))⟩

theorem writeItems_eq (s : State) (x : Setting) : writeItems s x = spelledItems s x := by
  have hsource (j : Nat) : 2 + 4 * j + 2 = 4 + 4 * j := by omega
  have hvalue (j : Nat) : 2 + 4 * j + 3 = 5 + 4 * j := by omega
  unfold writeItems
  refine List.map_congr_left fun j _ => ?_
  dsimp only
  rw [hsource, hvalue]
  exact congrArg (SensorItem.mk _ _) (itemByte_eq ..)

theorem writeItems_ne_nil {s : State} (h : tbl8 (s.working sensorWriteId) 1 ≠ 0) (x : Setting) : writeItems s x ≠ [] := by
  simp [writeItems, h]

/-- A write sequence of a record begins on the items of the working template (R36). -/
def begunSequence (s : State) (i : Issue) (retry : Bool) : State :=
  s.setAec { s.aec with
    awaiting := none, retry := none, sequence := some ⟨i, spelledItems s i.setting, retry⟩
    bus := match s.aec.bus with | some b => some b | none => (spelledItems s i.setting).head?.map fun x => ⟨x, true⟩ }

theorem startSequence_eq_begun {s : State} {i : Issue} (retry : Bool) (h : writeItems s i.setting ≠ []) :
    startSequence s i retry = begunSequence s i retry := by
  have hitem (a : Aec) (w : WriteSequence) (hw : w.items ≠ []) : startItem { a with sequence := some w } =
      { a with sequence := some w
               bus := match a.bus with | some b => some b | none => w.items.head?.map fun x => ⟨x, true⟩ } := by
    unfold startItem
    obtain ⟨x, xs, hx⟩ := List.exists_cons_of_ne_nil hw
    cases a.bus <;> simp [hx]
  unfold startSequence
  dsimp only
  rw [if_neg (by simpa using h)]
  unfold begunSequence
  rw [← writeItems_eq]
  exact congrArg s.setAec (hitem { s.aec with awaiting := none, retry := none } ⟨i, _, retry⟩ h)

theorem writePoint_retry {s : State} {i : Issue} (hs : s.aec.sequence = none) (hr : s.aec.retry = some i)
    (h : writeItems s i.setting ≠ []) : writePoint s = begunSequence s i true := by
  unfold writePoint
  rw [hs, hr]
  exact startSequence_eq_begun true h

theorem writePoint_awaiting {s : State} {i : Issue} (hs : s.aec.sequence = none) (hr : s.aec.retry = none)
    (ha : s.aec.awaiting = some i) (h : writeItems s i.setting ≠ []) : writePoint s = begunSequence s i false := by
  unfold writePoint
  rw [hs, hr, ha]
  exact startSequence_eq_begun false h

/-- AEC's work at an SOF: a sequence in hand or nothing due leaves it at that, a retry or an awaiting record begins one. -/
theorem aecSof_spelled {s : State} (subject : List Nat) {kept : List InFlight}
    (hk : InFlightKept s.intake.fn s.aec.inFlight kept) :
    (s.aec.sequence.isSome = true ∨ (s.aec.retry = none ∧ s.aec.awaiting = none) →
      aecSof s subject = atWritePoint s subject kept) ∧
    (s.aec.sequence = none → tbl8 (s.working sensorWriteId) 1 ≠ 0 →
      (∀ i, s.aec.retry = some i → aecSof s subject = begunSequence (atWritePoint s subject kept) i true) ∧
      ∀ i, s.aec.retry = none → s.aec.awaiting = some i →
        aecSof s subject = begunSequence (atWritePoint s subject kept) i false) := by
  rw [aecSof_of_kept subject hk]
  exact ⟨fun h => writePoint_eq_self h, fun hs hm =>
    ⟨fun i hr => writePoint_retry hs hr (writeItems_ne_nil hm _), fun i hr ha => writePoint_awaiting hs hr ha (writeItems_ne_nil hm _)⟩⟩

end Sys2Proof.Machine
end

section
/-! SUPPORT. The store at an SOF, written out (R146 to R148, R150 to R154, R161): the gate, the ring, the slot taken, the
frame missed, and the S1 release passed on at a capture's end. -/

namespace Sys2Proof.Machine

/-! ### A withheld S1 release (R161) -/

theorem passWithheld_of_not {s : State}
    (h : s.cst.withheldRelease = false ∨ s.cst.state = .gating ∨ s.cst.state = .capturing) : passWithheld s = s := by
  refine if_neg ?_
  rintro ⟨hw, hg, hc⟩
  rcases h with h | h | h
  · exact absurd hw (by simp [h])
  · exact hg h
  · exact hc h

/-- A withheld release is passed on once the store is out of GATING and CAPTURING, S1 being released still. -/
theorem passWithheld_of_withheld {s : State} (hw : s.cst.withheldRelease = true) (hs : s.cst.state = .idle ∨ s.cst.state = .armed) :
    passWithheld s = if s.cst.s1.debounced then s.setCst { s.cst with withheldRelease := false }
      else afcS1Release (s.setCst { s.cst with withheldRelease := false }) := by
  refine if_pos ⟨hw, ?_⟩
  rcases hs with h | h <;> rw [h] <;> decide

/-- A withheld release leaves the store but for its own mark. -/
theorem passWithheld_cst (s : State) :
    (passWithheld s).cst = { s.cst with withheldRelease := (passWithheld s).cst.withheldRelease } := by
  unfold passWithheld
  dsimp only
  split
  · split
    · rfl
    · rw [afcS1Release_cst]
      rfl
  · rfl

theorem aecFollowFocus_setLnk (s : State) (b : Bool) (l : Lnk) :
    aecFollowFocus (s.setLnk l) b = (aecFollowFocus s b).setLnk l := by
  unfold aecFollowFocus
  rw [State.setLnk_aec]
  cases b with
  | true =>
    by_cases h : s.aec.state = .run
    · simp only [h, if_true]
      rfl
    · simp only [h, if_true, if_false]
  | false =>
    by_cases h : s.aec.state = .held
    · simp only [h, if_true]
      rfl
    · simp only [h, if_false]
      rfl

theorem afcEnter_setLnk (s : State) (st : AfState) (l : Lnk) : afcEnter (s.setLnk l) st = (afcEnter s st).setLnk l :=
  aecFollowFocus_setLnk (s.setAfc { s.afc with state := st }) st.scanning l

/-- AF_CANCEL's effect does not look at the Link Interface. -/
theorem afcCancel_setLnk (s : State) (l : Lnk) : afcCancel (s.setLnk l) = (afcCancel s).setLnk l := by
  unfold afcCancel
  rw [State.setLnk_afc]
  split
  · rfl
  iterate 3 exact afcEnter_setLnk (s.setAfc _) .idle l
  · exact afcEnter_setLnk ((s.cancelMove .af).setAfc _) .idle l

/-- A release that finds LOCKED, the exposure not held, only lets the lock go (R87). -/
theorem afcS1Release_locked {s : State} (h : s.afc.state = .locked) (ha : s.aec.state ≠ .held) :
    afcS1Release s = s.setAfc { s.afc with
      state := .idle, primary := none, lock := none, primaryFigure := none, frame := none } := by
  unfold afcS1Release
  rw [h]
  change aecFollowFocus _ false = _
  unfold aecFollowFocus
  rw [if_neg Bool.false_ne_true]
  exact if_neg ha

/-- A release that finds a scan in hand cancels it (R87). -/
theorem afcS1Release_inScan {s : State} (h : s.afc.state = .coarse ∨ s.afc.state = .fine ∨ s.afc.state = .settle) :
    afcS1Release s = afcCancel s := by
  unfold afcS1Release
  rcases h with h | h | h <;> rw [h]

theorem afcS1Release_of_idle {s : State} (h : s.afc.state = .idle ∨ s.afc.state = .monitor ∨ s.afc.state = .failed) :
    afcS1Release s = s := by
  unfold afcS1Release
  rcases h with h | h | h <;> rw [h]

/-- AF_CANCEL at its turn does what the release of a scan does. -/
theorem exec_afCancel {s : State} {tag : Tag} (h : s.turnOf (.afCancel tag (.args ()))) :
    ∃ v, exec (.afCancel tag (.args ())) s = .next v ∧ v.setLnk s.lnk = afcCancel s := by
  have hturn := hostCommand_of_turn tag 15 () (fun _ t => (afcCancel t, answer .done)) h
  refine ⟨_, congrArg Host.Outcome.next hturn, ?_⟩
  dsimp only
  rw [afcCancel_setLnk]
  have hl : (afcCancel s).lnk = s.lnk := afcCancel_lnk s
  rw [← hl]
  rfl

/-! ### The end of a capture (R54, R144, R154) -/

/-- A triggered capture ends: AEC is told, and the store enters a state (R144). -/
theorem captureEnds_of_triggered {s : State} (h : s.cst.triggered = true) (st : CaptureState) :
    captureEnds s st = passWithheld ((s.setAec { s.aec with program := .live, markDue := false }).setCst
      { s.cst with state := st, forced := false }) := by
  unfold captureEnds tellCaptureEnd
  rw [if_pos h]
  rfl

theorem triggered_of_gating {c : Cst} (h : c.state = .gating) : c.triggered = true := by simp [Cst.triggered, h]

theorem triggered_of_capturing {c : Cst} (h : c.state = .capturing) (hm : c.params.mode ≠ .stream) : c.triggered = true := by
  simp [Cst.triggered, h, hm]

/-- The post count has reached N_after: CAPTURE_DONE, and the capture ends (R154). -/
theorem checkCaptureDone_eq (s : State) :
    checkCaptureDone s =
      if s.cst.state = .capturing ∧ s.cst.params.mode ≠ .stream ∧ s.cst.params.nAfter ≤ s.cst.counters.post
      then passWithheld (((s.raise condCaptureDone).setAec { s.aec with program := .live, markDue := false }).setCst
        { s.cst with state := .idle, forced := false })
      else s := by
  unfold checkCaptureDone
  split
  · next h => exact captureEnds_of_triggered (s := s.raise condCaptureDone) (triggered_of_capturing h.1 h.2.1) .idle
  · rfl

/-- A frame missed (R147, R154). -/
theorem missFrame_eq (s : State) (part : Part) :
    let n := if part = .post then s.cst.counters.post + 1 else s.cst.counters.post
    let u := s.setCst { s.cst with counters := { s.cst.counters with missed := s.cst.counters.missed + 1, post := n } }
    missFrame s part = if s.cst.state = .capturing ∧ s.cst.params.mode ≠ .stream ∧ s.cst.params.nAfter ≤ n
      then passWithheld (((u.raise condCaptureDone).setAec { s.aec with program := .live, markDue := false }).setCst
        { u.cst with state := .idle, forced := false })
      else u := by
  intro n u
  exact checkCaptureDone_eq u

/-! ### A slot for the frame (R146, R147) -/

theorem modifyAt_const {α : Type} (a : α) (l : List α) (i : Nat) : modifyAt (fun _ => a) l i = l.set i a := by
  refine List.ext_getElem? fun j => ?_
  rw [getElem?_modifyAt, List.getElem?_set]
  by_cases hij : i = j
  · subst hij
    by_cases hi : i < l.length <;> simp [hi]
  · simp [hij]

/-- The slot as it is opened for a frame (R146 step 6). -/
def openedSlot (s : State) (part : Part) (f : FrameFacts) (skipped : Nat) : Slot :=
  ⟨.filling, some (beginRecord s part f skipped), false, false, s.cst.captureId, part, (s.cst.order + 1) % 4294967296, .free⟩

/-- A slot opened with its record and the next storing order, STORE_FULL following (R146 step 6). -/
theorem openSlot_eq (s : State) (i : Nat) (part : Part) (f : FrameFacts) (skipped : Nat) :
    openSlot s i part f skipped =
      (s.setCst { s.cst with
        order := (s.cst.order + 1) % 4294967296
        slots := s.cst.slots.set i (openedSlot s part f skipped) }).setCnd
      (cndSetLevel s.cnd condStoreFull (storeFull (s.cst.slots.set i (openedSlot s part f skipped)))) := by
  rw [← modifyAt_const]
  rfl

/-- The lowest-numbered FREE slot is the first that is FREE (R147). -/
theorem lowestFree_eq_some {slots : List Slot} {i : Nat} {x : Slot} (hx : slots[i]? = some x) (hf : x.state = .free)
    (hlow : ∀ y ∈ slots.take i, y.state ≠ .free) : lowestFree slots = some i := by
  refine head?_slotsWhere.2 ⟨x, hx, by simp [hf], fun y hy => by simp [hlow y hy]⟩

theorem lowestFree_eq_none {slots : List Slot} (h : ∀ x ∈ slots, x.state ≠ .free) : lowestFree slots = none := by
  unfold lowestFree
  rw [slotsWhere_eq_nil.2 fun x hx => by simpa using h x hx]
  rfl

theorem storeFrame_of_free {s : State} {i : Nat} (part : Part) (f : FrameFacts) (n : Nat) (h : lowestFree s.cst.slots = some i) :
    storeFrame s part f n = openSlot s i part f n := by
  unfold storeFrame
  rw [h]

theorem storeFrame_of_overwrite {s : State} {i : Nat} (part : Part) (f : FrameFacts) (n : Nat) (h : lowestFree s.cst.slots = none)
    (ho : s.cst.params.overflow = .overwrite) (hv : overwriteVictim s.cst = some i) :
    storeFrame s part f n = openSlot (freeSlotAt s i) i part f n := by
  unfold storeFrame
  rw [h, ho, hv]

theorem storeFrame_of_miss {s : State} (part : Part) (f : FrameFacts) (n : Nat) (h : lowestFree s.cst.slots = none)
    (ho : s.cst.params.overflow = .stop ∨ overwriteVictim s.cst = none) : storeFrame s part f n = missFrame s part := by
  unfold storeFrame
  rw [h]
  rcases ho with ho | ho
  · rw [ho]
  · rw [ho]
    cases s.cst.params.overflow <;> rfl

/-! ### The ring and the gate (R148, R151) -/

theorem ringSize_eq (c : Cst) : ringSize c = c.slots.countP fun x =>
    decide ((x.part = .pre ∧ x.captureId = c.captureId) ∧ (x.state = .ready ∨ x.state = .held ∨ x.state = .sending)) := by
  rw [List.countP_eq_length_filter]
  refine congrArg (fun p => (c.slots.filter p).length) (funext fun x => ?_)
  simp only [inRing, Bool.decide_and]

theorem ringVictim_eq (c : Cst) : ringVictim c = (readyList c.slots).find? fun i =>
    decide ((c.slots.getD i freeSlot).state = .ready ∧
      ((c.slots.getD i freeSlot).part = .pre ∧ (c.slots.getD i freeSlot).captureId = c.captureId)) := by
  unfold ringVictim firstReady
  refine congrArg (fun p => (readyList c.slots).find? p) (funext fun i => ?_)
  by_cases h : (c.slots.getD i freeSlot).state = .ready
  · simp only [inRing, h, true_or, true_and, decide_true, Bool.and_true, Bool.true_and]
  · simp only [inRing, h, false_and, decide_false, Bool.false_and]

/-- A PRE frame by the ring's size and its oldest READY slot (R148). -/
theorem storePre_eq (s : State) (f : FrameFacts) :
    storePre s f = if ringSize s.cst < s.cst.params.nPre then storeFrame s .pre f 0
      else match ringVictim s.cst with | some i => storeFrame (freeSlotAt s i) .pre f 0 | none => missFrame s .pre := by
  unfold storePre
  by_cases h : ringSize s.cst < s.cst.params.nPre
  · exact (if_neg (Nat.not_le.2 h)).trans (if_pos h).symm
  · exact (if_pos (Nat.not_lt.1 h)).trans (if_neg h).symm

theorem gatePasses_iff (s : State) : gatePasses s = true ↔
    s.aec.frame.mark = some s.cst.trigger ∧ (s.cst.params.gate.aeSettled = true → s.aec.frame.settled = true) ∧
    (s.cst.params.gate.afLocked = true → s.afc.state = .locked ∨ s.afc.state = .monitor) ∧
    (s.cst.params.gate.shakeOk = true → s.mou.shake = .still ∨ s.mou.shake = .normal) := by
  have hlocked (x : AfState) : x.lockedOn = true ↔ x = .locked ∨ x = .monitor := by cases x <;> decide
  simp [gatePasses, ← hlocked, imp_iff_not_or, and_assoc]

theorem gateSof_of_not_gating {s : State} (h : s.cst.state ≠ .gating) : gateSof s = s := if_neg h

theorem gateSof_of_passes {s : State} (h : s.cst.state = .gating) (hp : gatePasses s = true) :
    gateSof s = s.setCst { s.cst with state := .capturing, forced := false } := by
  unfold gateSof
  rw [if_pos h, if_pos hp]

theorem gateSof_of_waits {s : State} (h : s.cst.state = .gating) (hp : ¬ gatePasses s = true)
    (hc : s.cst.gateCount ≠ s.cst.params.gateTimeout) : gateSof s = s.setCst { s.cst with gateCount := s.cst.gateCount + 1 } := by
  unfold gateSof
  rw [if_pos h, if_neg hp, if_neg hc]

theorem gateSof_of_expires {s : State} (h : s.cst.state = .gating) (hp : ¬ gatePasses s = true)
    (hc : s.cst.gateCount = s.cst.params.gateTimeout) : gateSof s = gateExpires s := by
  unfold gateSof
  rw [if_pos h, if_neg hp, if_pos hc]

/-! ### The store's work by its state (R146) -/

/-- What the store does with a frame once the gate has been tested (R146 steps 2 to 6). -/
theorem cstSof_of_gate {s u : State} (f : FrameFacts) (h : gateSof s = u) :
    cstSof s f = match framePart u.cst with
      | none => u
      | some .pre => storePre u f
      | some part => storeFiltered u part f := by
  subst h
  rfl

/-- A gate test that ends out of GATING is that of the state it leaves. -/
theorem cstSof_eq_of_gate {s u : State} (f : FrameFacts) (h : gateSof s = u) (hu : u.cst.state ≠ .gating) :
    cstSof s f = cstSof u f := by
  rw [cstSof_of_gate f h, cstSof_of_gate f (gateSof_of_not_gating hu)]

theorem meetsFilter_iff (s : State) (blurred : Bool) : meetsFilter s blurred = true ↔
    (s.cst.params.filter.blurred = true ∧ blurred = true) ∨
    (s.cst.params.filter.irisMoving = true ∧ s.lds.moving .iris = true) ∨
    (s.cst.params.filter.zoomMoving = true ∧ s.lds.moving .zoom = true) ∨
    (s.cst.params.filter.focusMoving = true ∧ s.lds.moving .focus = true) ∨
    (s.cst.params.filter.aeUnsettled = true ∧ s.aec.frame.settled = false) := by
  simp [meetsFilter, or_assoc]

/-- A STREAM or POST frame by the skip filter (R153). -/
theorem storeFiltered_eq (s : State) (part : Part) (f : FrameFacts) :
    storeFiltered s part f = if ((s.cst.params.filter.blurred = true ∧ f.blurred = true) ∨
        (s.cst.params.filter.irisMoving = true ∧ s.lds.moving .iris = true) ∨
        (s.cst.params.filter.zoomMoving = true ∧ s.lds.moving .zoom = true) ∨
        (s.cst.params.filter.focusMoving = true ∧ s.lds.moving .focus = true) ∨
        (s.cst.params.filter.aeUnsettled = true ∧ s.aec.frame.settled = false)) ∧ s.cst.skips < s.cst.params.skipMax
      then s.setCst { s.cst with
        skips := s.cst.skips + 1, counters := { s.cst.counters with skipped := s.cst.counters.skipped + 1 } }
      else storeFrame (s.setCst { s.cst with skips := 0 }) part f s.cst.skips := by
  unfold storeFiltered
  simp only [Bool.and_eq_true, decide_eq_true_eq, meetsFilter_iff]

/-- A capturing store puts the frame behind the skip filter (R146, R153). -/
theorem cstSof_of_capturing {s : State} (f : FrameFacts) (h : s.cst.state = .capturing) :
    cstSof s f = storeFiltered s (if s.cst.params.mode = .stream then .stream else .post) f := by
  rw [cstSof_of_gate f (gateSof_of_not_gating (by rw [h]; decide))]
  simp only [framePart, h]
  by_cases hm : s.cst.params.mode = .stream <;> simp only [hm, if_true, if_false]

/-- An armed store files the frame as PRE (R146, R148). -/
theorem cstSof_of_armed {s : State} (f : FrameFacts) (h : s.cst.state = .armed) : cstSof s f = storePre s f := by
  rw [cstSof_of_gate f (gateSof_of_not_gating (by rw [h]; decide))]
  simp only [framePart, h]

theorem cstSof_of_idle {s : State} (f : FrameFacts) (h : s.cst.state = .idle) : cstSof s f = s := by
  rw [cstSof_of_gate f (gateSof_of_not_gating (by rw [h]; decide))]
  simp only [framePart, h]

/-- A gate that waits files the frame as PRE in PRETRIGGER, and stores nothing in BURST (R146, R151). -/
theorem cstSof_of_waits {s : State} (f : FrameFacts) (h : s.cst.state = .gating) (hp : ¬ gatePasses s = true)
    (hc : s.cst.gateCount ≠ s.cst.params.gateTimeout) :
    cstSof s f = if s.cst.params.mode = .pretrigger then storePre (s.setCst { s.cst with gateCount := s.cst.gateCount + 1 }) f
      else s.setCst { s.cst with gateCount := s.cst.gateCount + 1 } := by
  rw [cstSof_of_gate f (gateSof_of_waits h hp hc)]
  by_cases hm : s.cst.params.mode = .pretrigger <;> simp only [framePart, State.setCst_cst, h, hm, if_true, if_false]

/-- An expired gate that cancels ends the capture (R152). -/
theorem gateExpires_of_cancel {s : State} (h : s.cst.state = .gating) (hc : s.cst.params.timeoutAction = .cancel) :
    gateExpires s = passWithheld (((s.raise condTriggerTimeout).setAec { s.aec with program := .live, markDue := false }).setCst
      { s.cst with state := if s.cst.params.mode = .pretrigger then .armed else .idle, forced := false }) := by
  unfold gateExpires
  rw [hc]
  exact captureEnds_of_triggered (s := s.raise condTriggerTimeout) (triggered_of_gating h) _

theorem gateExpires_of_proceed {s : State} (hc : s.cst.params.timeoutAction = .proceed) :
    gateExpires s = s.setCst { s.cst with state := .capturing, forced := true } := by
  unfold gateExpires
  rw [hc]

end Sys2Proof.Machine
end

section
/-! SUPPORT. The order of frame numbers (section 4.3), the zones of a window and the subject mask (R23, R84), and what MOU
and AFC supply for a frame (R132, R136, R137); what a frame start has AEC and CST do. -/

namespace Sys2Proof.Machine

theorem fnLater_iff {a b : Nat} (ha : a < 65536) (hb : b < 65536) :
    fnLater a b = true ↔ ∃ d, 1 ≤ d ∧ d ≤ 32767 ∧ a = (b + d) % 65536 := by
  unfold fnLater
  rw [decide_eq_true_iff]
  constructor
  · rintro ⟨h1, h2⟩
    exact ⟨_, h1, h2, by omega⟩
  · rintro ⟨d, h1, h2, rfl⟩
    omega

/-! ### The subject mask (R84) -/

/-- A zone lies in a window by its column and row (R23). -/
theorem mem_zones {w : Window} {z : Nat} :
    z ∈ w.zones ↔ z < 192 ∧ w.fc ≤ z % 16 ∧ z % 16 < w.fc + w.nc ∧ w.fr ≤ z / 16 ∧ z / 16 < w.fr + w.nr := by
  simp only [Window.zones, List.mem_flatMap, List.mem_map, List.mem_range, Window.usedRows, Window.usedColumns]
  constructor
  · rintro ⟨r, hr, c, hc, rfl⟩
    omega
  · rintro ⟨hz, h1, h2, h3, h4⟩
    exact ⟨z / 16 - w.fr, by omega, z % 16 - w.fc, by omega, by omega⟩

theorem mem_unionZones {ws : List Window} {z : Nat} : z ∈ unionZones ws ↔ z < 192 ∧ ∃ w ∈ ws, z ∈ w.zones := by
  simp [unionZones]

theorem lockedOn_iff (x : AfState) : x.lockedOn = true ↔ x = .locked ∨ x = .monitor := by cases x <;> decide

/-- The subject mask by its windows (R84). -/
theorem mem_subjectMask {a : Afc} {z : Nat} :
    z ∈ a.subjectMask ↔ z < 192 ∧ ∃ k x, a.windows[k]? = some x ∧
      (if a.state = .locked ∨ a.state = .monitor then a.primary = some k else x.enabled = true) ∧
      x.fc ≤ z % 16 ∧ z % 16 < x.fc + x.nc ∧ x.fr ≤ z / 16 ∧ z / 16 < x.fr + x.nr := by
  unfold Afc.subjectMask
  simp only [← lockedOn_iff]
  split
  · cases hp : a.primary with
    | none => simp
    | some w =>
      cases hw : a.windows[w]? with
      | none =>
        constructor
        · intro h
          simp [hw] at h
        · rintro ⟨-, k, x, hx, hk, -⟩
          cases hk
          simp [hw] at hx
      | some x =>
        simp only [hw, mem_zones]
        constructor
        · rintro ⟨hz, hin⟩
          exact ⟨hz, w, x, hw, rfl, hin⟩
        · rintro ⟨hz, k, y, hy, hk, hin⟩
          cases hk
          cases hw.symm.trans hy
          exact ⟨hz, hin⟩
  · rw [mem_unionZones]
    constructor
    · rintro ⟨hz, x, hx, hin⟩
      obtain ⟨hmem, he⟩ := List.mem_filter.1 hx
      obtain ⟨k, hk⟩ := List.mem_iff_getElem?.1 hmem
      exact ⟨hz, k, x, hk, he, (mem_zones.1 hin).2⟩
    · rintro ⟨hz, k, x, hk, he, hin⟩
      exact ⟨hz, x, List.mem_filter.2 ⟨List.mem_of_getElem? hk, he⟩, mem_zones.2 ⟨hz, hin⟩⟩

/-! ### What goes with a frame to the store -/

/-- What MOU and AFC supply at an SOF (R84, R132, R136, R137). -/
theorem mouSof_snd (s : State) : (mouSof s).2 =
    { blur := s.mou.queue.head?
      blurred := match s.mou.queue.head? with | some b => isBlurred s.mou.params b | none => false
      cropClamped := cropActs s
      afState := s.afc.state
      primary := if s.afc.state.lockedOn then s.afc.primary else none
      primaryFigure := if s.afc.state.lockedOn then s.afc.primaryFigure else none } := rfl

theorem blurred_iff (q : List BlurRecord) (p : StabParams) :
    (match q.head? with | some b => isBlurred p b | none => false) = true ↔
      ∃ b, q.head? = some b ∧ p.blurLimit < max b.yaw b.pitch := by
  cases q <;> simp [isBlurred]

/-- A frame start by the machine u that the SOF's first part leaves: what AEC, MOU and AFC supply to the store (R11). -/
theorem mouSof_aecSof_snd (u : State) (subject : List Nat) : (mouSof (aecSof u subject)).2 = (mouSof u).2 := by
  obtain ⟨a, c, h⟩ := aecSof_eq_set u subject
  rw [h]
  rfl

/-- Settles O27, from the records in effect and the write point, the subject mask, the gate, the ring, the slot taken and
the release passed on, each written out above. -/
theorem exposureAndStoreAtFrameStart : Obligations.ExposureAndStoreAtFrameStart := by
  refine ⟨fun a b ha hb => fnLater_iff ha hb, fun s hmode => ?_, fun s subject kept => ?_, fun s f => ?_,
    fun s part f skipped => ?_, fun s i x hx => ?_, fun s part => missFrame_eq s part, fun s => ?_⟩
  · intro n applied u v w
    have happlied : applied.CommitsOnly (s.setIntake (intakeSof s.intake)) := applyCommits_commitsOnly _
    have hacts : cropActs u = cropActs s := by
      unfold cropActs
      rw [show u.intake = applied.intake from State.setCnd_intake .., show u.mou = applied.mou from State.setCnd_mou ..,
        happlied.intake, happlied.mou]
      rfl
    have hv : v.2 = (mouSof u).2 := mouSof_aecSof_snd ..
    have hfacts := hv.trans (mouSof_snd u)
    refine ⟨exec_frameStart_of_waiting hmode, congrArg FrameFacts.blur hfacts, ?_, ?_, fun z => mem_subjectMask,
      congrArg FrameFacts.afState hfacts, ?_, ?_⟩
    · rw [congrArg FrameFacts.blurred hfacts]
      exact blurred_iff ..
    · rw [congrArg FrameFacts.cropClamped hfacts]
      dsimp only
      rw [hacts]
      simp [cropActs, marginX, marginY]
    · rw [congrArg FrameFacts.primary hfacts]
      simp only [lockedOn_iff]
    · rw [congrArg FrameFacts.primaryFigure hfacts]
      simp only [lockedOn_iff]
  · intro later hkept
    exact aecSof_spelled subject (inFlightKept_of hkept)
  · intro g passes mine ring victim pre filter filtered part
    have hpre (u : State) (hu : u.cst.slots = s.cst.slots) (hid : u.cst.captureId = s.cst.captureId) : storePre u f = pre u := by
      have h := storePre_eq u f
      rw [ringSize_eq, ringVictim_eq, hu, hid] at h
      exact h
    have hpasses : gatePasses s = true ↔ passes := gatePasses_iff s
    refine ⟨cstSof_of_idle f, fun h => (cstSof_of_armed f h).trans (hpre s rfl rfl),
      fun h => (cstSof_of_capturing f h).trans (storeFiltered_eq ..), fun h hp => ?_, fun h hp hc => ?_, fun h hp hc => ⟨fun ha => ?_, fun ha => ?_⟩⟩
    · exact cstSof_eq_of_gate f (gateSof_of_passes h (hpasses.2 hp)) CaptureState.noConfusion
    · intro u
      rw [← hpre u rfl rfl]
      exact cstSof_of_waits f h (mt hpasses.1 hp) hc
    · exact cstSof_eq_of_gate f ((gateSof_of_expires h (mt hpasses.1 hp) hc).trans (gateExpires_of_proceed ha))
        CaptureState.noConfusion
    · refine cstSof_eq_of_gate f ((gateSof_of_expires h (mt hpasses.1 hp) hc).trans (gateExpires_of_cancel h ha)) ?_
      rw [passWithheld_cst]
      dsimp only [State.setCst_cst]
      split <;> exact CaptureState.noConfusion
  · intro g k order opened none_ victim
    have hopened (u : State) (i : Nat) (hr : beginRecord u part f skipped = beginRecord s part f skipped)
        (hid : u.cst.captureId = s.cst.captureId) (ho : u.cst.order = s.cst.order) : openSlot u i part f skipped = opened u i := by
      rw [openSlot_eq, openedSlot, storeFull_eq_decide, hr, hid, ho]
      cases part <;> rfl
    refine ⟨fun i x hx hf hlow => ?_, fun i hnone ho hv => ?_, fun hnone ho => storeFrame_of_miss part f skipped (lowestFree_eq_none hnone) ho⟩
    · rw [storeFrame_of_free part f skipped (lowestFree_eq_some hx hf hlow), hopened s i rfl rfl rfl]
    · rw [storeFrame_of_overwrite part f skipped (lowestFree_eq_none hnone) ho hv, hopened (freeSlotAt s i) i rfl rfl rfl]
  · have hi : i < s.cst.slots.length := (List.getElem?_eq_some_iff.1 hx).1
    rw [freeSlotAt_eq hi, modifyAt_eq_set hx]
    rfl
  · intro u
    refine ⟨passWithheld_of_not, fun hw hs hkeep => ?_, fun hw hs hs1 => ⟨fun hl ha => ?_, fun hscan tag hturn => ?_⟩⟩
    · rw [passWithheld_of_withheld hw hs]
      rcases hkeep with h1 | hafc
      · exact if_pos h1
      · rw [afcS1Release_of_idle (s := u) hafc, ite_self]
    · rw [passWithheld_of_withheld hw hs, hs1]
      exact afcS1Release_locked (s := u) hl ha
    · obtain ⟨v, hexec, hv⟩ := exec_afCancel hturn
      refine ⟨v, hexec, ?_⟩
      rw [passWithheld_of_withheld hw hs, hs1]
      exact (afcS1Release_inScan (s := u) hscan).trans hv.symm

end Sys2Proof.Machine
end

section
/-! SUPPORT. The exposure controller at a truncated EOF (R40, R52, R53), and the frame that ends truncated, spelled out (R8 to
R10, R102, R127, R149). -/

namespace Sys2Proof.Machine

/-! ### AEC without a zone set (R40, R52, R53) -/

theorem waitingFrame_iff (a : Aec) (fn : Nat) : waitingFrame a fn = true ↔
    (∃ r ∈ a.inFlight, fnLater r.effective fn = true) ∨ a.awaiting.isSome = true ∨ a.retry.isSome = true ∨
      a.sequence.isSome = true := by
  simp [waitingFrame, or_assoc]

theorem scanning_iff (x : AfState) : x.scanning = true ↔ x = .coarse ∨ x = .fine := by cases x <;> decide

theorem aecEof_of_waiting {s : State} (z : Option ZoneSet) (h : waitingFrame s.aec s.intake.fn = true ∨ s.aec.state = .fault) :
    aecEof s z = (s, false, false) := by
  unfold aecEof
  dsimp only
  split
  · rfl
  · next hw => rw [h.resolve_left hw]

/-- In RUN and HELD a frame without a zone set is invalid (R40). -/
theorem aecEof_none_counted {s : State} (hw : ¬ waitingFrame s.aec s.intake.fn = true)
    (hs : s.aec.state = .run ∨ s.aec.state = .held) : aecEof s none = (invalidFrame s, false, false) := by
  unfold aecEof
  dsimp only
  rw [if_neg hw]
  rcases hs with hs | hs <;> rw [hs]

theorem aecEof_none_locked {s : State} (hw : ¬ waitingFrame s.aec s.intake.fn = true) (hs : s.aec.state = .locked) :
    aecEof s none = (captureCopy s, false, false) := by
  unfold aecEof
  dsimp only
  rw [if_neg hw, hs]

theorem aecEof_none_off {s : State} (hw : ¬ waitingFrame s.aec s.intake.fn = true) (hs : s.aec.state = .off) :
    aecEof s none = (issueOff s, false, false) := by
  unfold aecEof
  dsimp only
  rw [if_neg hw, hs]

/-- The counters set to 0 settle a frame only where none is asked for (R40, R48). -/
theorem invalidFrame_eq {s : State} (hs : s.aec.state = .run ∨ s.aec.state = .held) :
    invalidFrame s = (s.setAec { s.aec with
      settledCount := 0, breakCount := 0, settled := decide (s.aec.params.settleCount = 0) }).setCnd
        (cndSetLevel s.cnd condAeSettled (decide (s.aec.params.settleCount = 0))) := by
  have hrule : settledByRule { s.aec with settledCount := 0, breakCount := 0 } s.intake.fn =
      decide (s.aec.params.settleCount = 0) := by
    unfold settledByRule
    rcases hs with hs | hs <;> simp only [hs, Nat.le_zero]
  unfold invalidFrame aecJudge
  dsimp only [State.setAec_aec, State.setAec_intake]
  rw [hrule]
  rfl

/-- A record issued in OFF or LOCKED awaits its write point, so that SETTLED is false (R48, R52, R53). -/
def issuedRecord (s : State) (a : Aec) (x : Setting) : State :=
  (s.setAec { a with
    awaiting := some ⟨x, a.program, if a.program = .capture then some a.trigger else none⟩, markDue := false
    settled := false }).setCnd (cndSetLevel s.cnd condAeSettled false)

theorem aecJudgeRecords_issueRecord {s : State} {a : Aec} (ha : a.state = .off ∨ a.state = .locked) (x : Setting) :
    aecJudgeRecords (s.setAec (issueRecord a x)) = issuedRecord s a x := by
  have hrule (fn : Nat) : settledByRule (issueRecord a x) fn = false := by
    unfold settledByRule
    rcases ha with ha | ha <;> simp [issueRecord, ha]
  have hjudge : aecJudge (s.setAec (issueRecord a x)) = issuedRecord s a x := by
    unfold aecJudge
    dsimp only [State.setAec_aec, State.setAec_intake]
    rw [hrule]
    rfl
  unfold aecJudgeRecords
  rw [State.setAec_aec, show (issueRecord a x).state = a.state from rfl]
  rcases ha with ha | ha <;> rw [ha] <;> exact hjudge

theorem captureCopy_eq_self {s : State} (h : s.aec.latest = none ∨ s.aec.markDue = false ∨ s.afc.state.scanning = true) :
    captureCopy s = s := by
  unfold captureCopy
  split
  · next hdue =>
    obtain ⟨hm, hs⟩ : s.aec.markDue = true ∧ s.afc.state.scanning = false := by simpa using hdue
    rcases h with h | h | h
    · rw [h]
    · exact absurd hm (by simp [h])
    · exact absurd h (by simp [hs])
  · rfl

theorem captureCopy_eq_issued {s : State} {x : Setting} (ha : s.aec.state = .off ∨ s.aec.state = .locked)
    (hl : s.aec.latest = some x) (hm : s.aec.markDue = true) (hs : ¬ s.afc.state.scanning = true) :
    captureCopy s = issuedRecord s s.aec x := by
  unfold captureCopy
  rw [hm, hl, if_pos (by simp [hs])]
  exact aecJudgeRecords_issueRecord ha x

theorem issueOff_none {s : State} (h : s.aec.manual = none) : issueOff s = captureCopy s := by
  unfold issueOff
  rw [h]

/-- A manual setting equal to the latest, with no mark due, is dropped (R52). -/
theorem issueOff_same {s : State} {x : Setting} (h : s.aec.manual = some x) (hm : s.aec.markDue = false)
    (hl : s.aec.latest = some x) : issueOff s = s.setAec { s.aec with manual := none } := by
  unfold issueOff
  rw [h]
  exact if_neg (by simp [hm, differs, hl])

theorem issueOff_differs {s : State} {x : Setting} (h : s.aec.manual = some x)
    (hd : s.aec.markDue = true ∨ s.aec.latest ≠ some x) : issueOff s = issueManual s x := by
  unfold issueOff
  rw [h]
  exact if_pos (by simpa [differs] using hd)

/-- A manual setting is issued, and the iris requested toward it unless a move toward it is in hand (R52). -/
theorem issueManual_eq {s : State} (hs : s.aec.state = .off) (hscan : ¬ s.afc.state.scanning = true) (x : Setting) :
    issueManual s x =
      if s.lds.iris.valid = true ∧ s.lds.hasMoveToward .iris x.iris = false
      then ((issuedRecord s { s.aec with manual := none } x).setLds (ldsPlace s.lds .iris ⟨.iris, x.iris, 0⟩)).grant
      else issuedRecord s { s.aec with manual := none } x := by
  unfold issueManual
  rw [if_neg hscan, aecJudgeRecords_issueRecord (a := { s.aec with manual := none }) (.inl hs)]
  have hl : (issuedRecord s { s.aec with manual := none } x).lds = s.lds := rfl
  unfold requestIris State.place
  rw [hl]
  simp only [Bool.and_eq_true, Bool.not_eq_true']

/-! ### The frame that ends truncated, spelled out -/

/-- MOU's work at an EOF (R127). -/
theorem mouEof_eq (u : Mou) : mouEof u = { u with
    shake := if ¬ u.sampleSeen then u.shake else if u.panSeen then .panning else if u.peak < u.params.stillRef then .still
      else if u.params.shakyRef ≤ u.peak then .shaky else .normal
    peak := 0, panSeen := false, sampleSeen := false } := by
  unfold mouEof shakeClass
  simp only [Bool.not_eq_true']
  cases u.sampleSeen <;> rfl

/-- A sample frame is passed over (R102). -/
theorem afcTruncated_eq (a : Afc) : afcTruncated a = { a with
    frame := none
    scan := a.scan.map fun sc => { sc with wait := match sc.wait with | .eof _ => .sof | w => w } } := by
  have h (sc : Scan) : (match sc.wait with | .eof _ => { sc with wait := .sof } | _ => sc) =
      { sc with wait := match sc.wait with | .eof _ => .sof | w => w } := by
    obtain ⟨_, _, _, _, _, _, _, _, _, w, _⟩ := sc
    cases w <;> rfl
  unfold afcTruncated
  exact congrArg (fun g => { a with frame := none, scan := a.scan.map g }) (funext h)

end Sys2Proof.Machine
end

section
/-! SUPPORT. A frame that ends complete (R8, R26, R29, R30, R149, R154, R159): the packet of statistics, the order in which
figures and a disturbance reach AFC, and the FILLING slot filed. -/

namespace Sys2Proof.Machine

/-! ### The one FILLING slot -/

/-- Where at most one slot is in a state, a slot found in it is the one. -/
theorem slot_unique {st : SlotState} {slots : List Slot} (h : countState st slots ≤ 1) {i j : Nat} {x y : Slot}
    (hi : slots[i]? = some x) (hj : slots[j]? = some y) (hx : x.state = st) (hy : y.state = st) : i = j := by
  have htwo {a b : Nat} {u v : Slot} (hab : a < b) (ha : slots[a]? = some u) (hb : slots[b]? = some v) (hu : u.state = st)
      (hv : v.state = st) : False := by
    have hleft : 0 < (slots.take b).countP fun z => decide (z.state = st) :=
      List.countP_pos_iff.2 ⟨u, List.mem_of_getElem? (i := a) (by rw [List.getElem?_take_of_lt hab, ha]), by simp [hu]⟩
    have hright : 0 < (slots.drop b).countP fun z => decide (z.state = st) :=
      List.countP_pos_iff.2 ⟨v, List.mem_of_getElem? (i := 0) (by rw [List.getElem?_drop, Nat.add_zero, hb]), by simp [hv]⟩
    have hsum := List.countP_append (p := fun z : Slot => decide (z.state = st)) (l₁ := slots.take b) (l₂ := slots.drop b)
    rw [List.take_append_drop] at hsum
    unfold countState at h
    omega
  rcases Nat.lt_trichotomy i j with hij | hij | hij
  · exact (htwo hij hi hj hx hy).elim
  · exact hij
  · exact (htwo hij hj hi hy hx).elim

/-- The FILLING slot is the first FILLING slot where there is at most one. -/
theorem fillingSlots_eq {slots : List Slot} (h : countState .filling slots ≤ 1) {i : Nat} {x : Slot}
    (hx : slots[i]? = some x) (hs : x.state = .filling) :
    ∃ rest, slotsWhere (fun y => decide (y.state = .filling)) slots = i :: rest := by
  have hmem : i ∈ slotsWhere (fun y => decide (y.state = .filling)) slots := mem_slotsWhere.2 ⟨x, hx, by simp [hs]⟩
  obtain ⟨j, rest, hl⟩ := List.exists_cons_of_ne_nil (List.ne_nil_of_mem hmem)
  obtain ⟨y, hy, hys⟩ := mem_slotsWhere.1 (hl ▸ List.mem_cons_self .. : j ∈ slotsWhere (fun y => decide (y.state = .filling)) slots)
  have hij : i = j := slot_unique h hx hy hs (by simpa using hys)
  exact ⟨rest, hij ▸ hl⟩

/-! ### STATS (R29, R30) -/

theorem statsEof_measure (st : Stats) (fn : Nat) : (statsEof st fn).measure = none := by
  unfold statsEof
  cases h : st.measure
  · exact h
  · rfl

theorem statsEof_of_off {st : Stats} (fn : Nat) (h : st.rate = 0) :
    (statsEof st fn).waiting = st.waiting ∧ (statsEof st fn).divider = st.divider := by
  unfold statsEof statsDivide
  cases st.measure <;> simp [h]

theorem statsEof_of_waits {st : Stats} {m : Measurement} (fn : Nat) (hm : st.measure = some m) (h0 : st.rate ≠ 0)
    (h : st.divider + 1 < st.rate) : (statsEof st fn).waiting = st.waiting ∧ (statsEof st fn).divider = st.divider + 1 := by
  have hle : ¬ st.rate ≤ st.divider + 1 := by omega
  simp [statsEof, statsDivide, hm, h0, hle]

theorem statsEof_of_due {st : Stats} {m : Measurement} (fn : Nat) (hm : st.measure = some m) (h0 : st.rate ≠ 0)
    (h : st.rate ≤ st.divider + 1) : (statsEof st fn).divider = 0 ∧
      (statsEof st fn).waiting = some (statsPacket m fn st.replaced) ∧
      (statsEof st fn).replaced = if st.waiting.isSome then min 65535 (st.replaced + 1) else st.replaced := by
  simp [statsEof, statsDivide, offerStats, hm, h0, h]

/-! ### AFC (R89, R95, R99) -/

/-- The figures of frame fn reach AFC, and the drive is granted. -/
def figuresWork (fn : Nat) (records : List WindowRecord) (u : State) : State := (afcFigures u fn records).grant

/-- A disturbance reaches AFC, and the drive is granted. -/
def disturbedWork (u : State) : State := (afcDisturbance u).grant

/-- Figures and disturbance reach AFC in one order or the other (log entry 6). -/
theorem focusEof_cases (s : State) (records : List WindowRecord) (b : Bool) :
    (b = false → focusEof s records b = figuresWork s.intake.fn records s) ∧
    (b = true → focusEof s records b =
        figuresWork s.intake.fn records (disturbedWork (s.setChoices (focusEof s records b).choices)) ∨
      focusEof s records b =
        disturbedWork (figuresWork s.intake.fn records (s.setChoices (focusEof s records b).choices))) := by
  have hfigures {c : Nat} {w : State} (h : w = figuresWork s.intake.fn records (disturbedWork (s.setChoices c))) :
      w = figuresWork s.intake.fn records (disturbedWork (s.setChoices w.choices)) := by
    have hw : w.choices = c := by rw [h]; simp [figuresWork, disturbedWork]
    rw [hw]
    exact h
  have hdisturbed {c : Nat} {w : State} (h : w = disturbedWork (figuresWork s.intake.fn records (s.setChoices c))) :
      w = disturbedWork (figuresWork s.intake.fn records (s.setChoices w.choices)) := by
    have hw : w.choices = c := by rw [h]; simp [figuresWork, disturbedWork]
    rw [hw]
    exact h
  have hfn (u : State) : (afcFigures (disturbedWork u) (disturbedWork u).intake.fn records).grant =
      figuresWork u.intake.fn records (disturbedWork u) := by simp [figuresWork, disturbedWork]
  refine ⟨by rintro rfl; rfl, ?_⟩
  rintro rfl
  by_cases ha : awaitsFigures s.afc = true
  · by_cases hc : Config.figuresFirst s.choices = true
    · refine .inr (hdisturbed (c := s.choices + 1) ?_)
      simp only [focusEof, ha, hc, if_true]
      rfl
    · refine .inl (hfigures (c := s.choices + 1) ?_)
      simp only [focusEof, ha, hc, if_true]
      exact hfn _
  · refine .inl (hfigures (c := s.choices) ?_)
    simp only [focusEof, ha, if_true]
    exact hfn s

/-! ### The slot filed (R149, R154, R159) -/

/-- Out of GATING and CAPTURING no release stays withheld (R161). -/
theorem passWithheld_cst_of_left {s : State} (hs : s.cst.state = .idle ∨ s.cst.state = .armed) :
    (passWithheld s).cst = { s.cst with withheldRelease := false } := by
  cases hw : s.cst.withheldRelease with
  | false =>
    rw [passWithheld_of_not (.inl hw)]
    exact (congrArg (fun b => { s.cst with withheldRelease := b }) hw.symm).symm
  | true =>
    rw [passWithheld_of_withheld hw hs]
    split
    · rfl
    · exact afcS1Release_cst ..

theorem cstEof_of_not_filling {s : State} (b : Bool) (h : ∀ x ∈ s.cst.slots, x.state ≠ .filling) : cstEof s b = s := by
  unfold cstEof
  rw [slotsWhere_eq_nil.2 fun x hx => by simpa using h x hx]

theorem cstEof_of_filling {s : State} {i : Nat} {x : Slot} {r : FrameRecord} (b : Bool)
    (h : countState .filling s.cst.slots ≤ 1) (hx : s.cst.slots[i]? = some x) (hs : x.state = .filling)
    (hr : x.record = some r) : cstEof s b = fileFrame s i x r b := by
  obtain ⟨rest, hl⟩ := fillingSlots_eq h hx hs
  unfold cstEof
  rw [hl]
  dsimp only
  rw [hx]
  dsimp only
  rw [hr]

/-- The notices of a filed frame, written out (R159). -/
def filedNotice (c : Cst) (held : Bool) (k : Cnd) : Cnd :=
  if held = true then if c.params.notice ≠ .none then cndRaise k condFrameHeld else k
  else if c.params.notice = .every ∨ (c.params.notice = .first ∧ c.noticeArmed = true) then cndRaise k condFrameReady else k

theorem noticeFiled_eq (s : State) (held : Bool) :
    noticeFiled s held = (s.setCst { s.cst with
      noticeArmed := s.cst.noticeArmed && !decide (s.cst.params.notice = .first ∧ held = false) }).setCnd
        (filedNotice s.cst held s.cnd) := by
  unfold noticeFiled filedNotice
  cases hn : s.cst.params.notice with
  | none => cases held <;> simp <;> rfl
  | first =>
    cases held with
    | true => simp; rfl
    | false =>
      cases ha : s.cst.noticeArmed with
      | true => simp; rfl
      | false =>
        simp only [Bool.false_and, Bool.false_eq_true, and_false, or_false, reduceCtorEq, if_false]
        exact (congrArg (fun b => (s.setCst { s.cst with noticeArmed := b }).setCnd s.cnd) ha)
  | every => cases held <;> simp <;> rfl
  | heldOnly => cases held <;> simp <;> rfl

/-- The record of a filed frame, completed (R142). -/
def completedRecord (r : FrameRecord) (clipped : Bool) : FrameRecord := { r with clippedSubject := clipped }

/-- The store with slot i filed READY or HELD, the frame counted and a FIRST notice used up (R149, R159). -/
def filedCst (c : Cst) (i : Nat) (x : Slot) (r : FrameRecord) (held : Bool) : Cst :=
  { c with
    slots := c.slots.set i { x with state := if held then .held else .ready, record := some r }
    counters := countFiled c.counters x.part
    noticeArmed := c.noticeArmed && !decide (c.params.notice = .first ∧ held = false) }

/-- The machine once a frame is filed and noticed, before CAPTURE_DONE is tested. -/
def filedState (s : State) (i : Nat) (x : Slot) (r : FrameRecord) (held : Bool) : State :=
  (s.setCst (filedCst s.cst i x r held)).setCnd
    (filedNotice s.cst held (cndSetLevel s.cnd condStoreFull (storeFull (filedCst s.cst i x r held).slots)))

theorem fileFrame_eq {s : State} {i : Nat} {x : Slot} (r : FrameRecord) (b : Bool) (hx : s.cst.slots[i]? = some x) :
    fileFrame s i x r b = checkCaptureDone
      (filedState s i x (completedRecord r b) (meetsHold s.cst.params.hold (completedRecord r b))) := by
  have hfiled (r : FrameRecord) (held : Bool) :
      (let u := setSlot s i fun y => { y with state := if held then .held else .ready, record := some r }
       noticeFiled (u.setCst { u.cst with counters := countFiled u.cst.counters x.part }) held) = filedState s i x r held := by
    dsimp only
    rw [setSlot_eq_set _ hx, noticeFiled_eq]
    rfl
  exact congrArg checkCaptureDone (hfiled (completedRecord r b) _)

end Sys2Proof.Machine
end

section
/-! SUPPORT. What the end of a frame leaves in each block (R8 to R10, R154). -/

namespace Sys2Proof.Machine

/-! ### CAPTURE_DONE (R154) -/

/-- The post count of the store has reached N_after in a triggered capture (R154). -/
abbrev Cst.captureComplete (c : Cst) : Prop := c.state = .capturing ∧ c.params.mode ≠ .stream ∧ c.params.nAfter ≤ c.counters.post

theorem checkCaptureDone_cst (s : State) : (checkCaptureDone s).cst = { s.cst with
    state := if s.cst.captureComplete then .idle else s.cst.state
    forced := s.cst.forced && !decide s.cst.captureComplete
    withheldRelease := s.cst.withheldRelease && !decide s.cst.captureComplete } := by
  rw [checkCaptureDone_eq]
  by_cases h : s.cst.captureComplete
  · rw [if_pos h, passWithheld_cst_of_left (.inl rfl)]
    simp [h]
  · rw [if_neg h]
    simp [h]

theorem checkCaptureDone_agreeAt (s : State) {k : Nat} (hk : 12 ≤ k) :
    Cnd.AgreeAt k (checkCaptureDone s).cnd (if s.cst.captureComplete then cndRaise s.cnd condCaptureDone else s.cnd) := by
  rw [checkCaptureDone_eq]
  by_cases h : s.cst.captureComplete
  · rw [if_pos h, if_pos h]
    exact (passWithheld_focus _).cond.agreeAt k hk
  · rw [if_neg h, if_neg h]
    exact .refl ..

theorem checkCaptureDone_aec {s : State} (h : s.cst.captureComplete) :
    (checkCaptureDone s).aec.program = .live ∧ (checkCaptureDone s).aec.markDue = false := by
  rw [checkCaptureDone_eq, if_pos h, (passWithheld_focus _).aec]
  exact ⟨rfl, rfl⟩

/-! ### The end of a complete frame (R8) -/

/-- INTAKE, MOU and STATS at an untruncated EOF, before AEC (R8, R26, R127). -/
def measuredEof (s : State) : State :=
  ((s.setIntake { s.intake with mode := .waiting }).setMou (mouEof s.mou)).setStats (statsEof s.stats s.intake.fn)

theorem completeFrame_eq {s : State} {m : Measurement} (hm : s.stats.measure = some m) :
    completeFrame s =
      let r := aecEof (measuredEof s) (some ⟨zoneMeans m, highlightMask m⟩)
      cstEof (focusEof r.1 (windowRecords m) r.2.1) r.2.2 := by
  unfold completeFrame
  rw [hm]
  rfl

/-- What the figures and a disturbance leave alone. -/
theorem focusEof_keeps (s : State) (rs : List WindowRecord) (b : Bool) :
    (focusEof s rs b).intake = s.intake ∧ (focusEof s rs b).pxp = s.pxp ∧ (focusEof s rs b).stats = s.stats ∧
    (focusEof s rs b).mou = s.mou ∧ (focusEof s rs b).cst = s.cst ∧ (focusEof s rs b).lnk = s.lnk ∧
    (focusEof s rs b).CondKept s := by
  have hf (u : State) (fn : Nat) : (figuresWork fn rs u).ControlsOnly u := (State.grant_controls _).trans (afcFigures_controls ..)
  have hd (u : State) : (disturbedWork u).ControlsOnly u := (State.grant_controls _).trans (afcDisturbance_controls _)
  have kf (u : State) (fn : Nat) : (figuresWork fn rs u).CondKept u := ((State.grant_focus _).trans (afcFigures_focus ..)).cond
  have kd (u : State) : (disturbedWork u).CondKept u := ((State.grant_focus _).trans (afcDisturbance_focus _)).cond
  have hboth {t u : State} {c : Nat} (h : t.ControlsOnly (u.setChoices c)) (k : t.CondKept (u.setChoices c)) :
      t.intake = u.intake ∧ t.pxp = u.pxp ∧ t.stats = u.stats ∧ t.mou = u.mou ∧ t.cst = u.cst ∧ t.lnk = u.lnk ∧ t.CondKept u :=
    ⟨h.intake, h.pxp, h.stats, h.mou, h.cst, h.lnk, k.trans (.of_eq rfl)⟩
  obtain ⟨hno, hyes⟩ := focusEof_cases s rs b
  cases b with
  | false =>
    rw [hno rfl]
    exact hboth (c := s.choices) (hf ..) (kf ..)
  | true =>
    rcases hyes rfl with h | h
    · rw [h]
      exact hboth ((hf ..).trans (hd _)) ((kf ..).trans (kd _))
    · rw [h]
      exact hboth ((hd _).trans (hf ..)) ((kd _).trans (kf ..))

theorem exec_frameEnd_of_short {s : State} (h : s.intake.mode = .inFrame) (hs : s.intake.lineCounter < s.intake.geometry.h) :
    exec .frameEnd s = .next (truncateFrame s .shortFrame) := by
  change Host.Outcome.next (frameEndPacket s) = _
  rw [frameEndPacket, h]
  exact congrArg Host.Outcome.next (if_pos hs)

theorem exec_frameEnd_of_complete {s : State} (h : s.intake.mode = .inFrame) (hs : s.intake.geometry.h ≤ s.intake.lineCounter) :
    exec .frameEnd s = .next (completeFrame s) := by
  change Host.Outcome.next (frameEndPacket s) = _
  rw [frameEndPacket, h]
  exact congrArg Host.Outcome.next (if_neg (Nat.not_lt.2 hs))

theorem exec_frameEnd_of_not {s : State} (h : s.intake.mode ≠ .inFrame) : exec .frameEnd s = .next s := by
  change Host.Outcome.next (frameEndPacket s) = _
  unfold frameEndPacket
  split
  · contradiction
  · rfl

theorem exec_frameTimeout_of_not_running {s : State} (h : s.intake.timer = none) : exec .frameTimeout s = .next s := by
  change Host.Outcome.next (timeoutExpires s) = _
  unfold timeoutExpires
  rw [h]
  rfl

/-- The timeout expires outside a frame (R10). -/
theorem exec_frameTimeout_of_not_inFrame {s : State} (h : s.intake.timer.isSome = true) (hm : s.intake.mode ≠ .inFrame) :
    exec .frameTimeout s = .next ((s.raise condSensorStall).setIntake (restartTimeout s.intake)) := by
  change Host.Outcome.next (timeoutExpires s) = _
  unfold timeoutExpires
  rw [if_pos h]
  dsimp only
  rw [if_neg (show (s.raise condSensorStall).intake.mode ≠ .inFrame from hm)]
  rfl

/-- The timeout expires in a frame, which ends truncated (R10). -/
theorem exec_frameTimeout_of_inFrame {s : State} (h : s.intake.timer.isSome = true) (hm : s.intake.mode = .inFrame) :
    exec .frameTimeout s = .next ((truncateFrame (s.raise condSensorStall) .timeout).setIntake
      (restartTimeout (truncateFrame (s.raise condSensorStall) .timeout).intake)) := by
  change Host.Outcome.next (timeoutExpires s) = _
  unfold timeoutExpires
  rw [if_pos h]
  dsimp only
  rw [if_pos (show (s.raise condSensorStall).intake.mode = .inFrame from hm)]

/-- What a frame that ends truncated and latches FRAME_TRUNCATED leaves in each block (R9). -/
theorem truncateFrame_values (s : State) {c : TruncationCause} (hc : c.latches = true) :
    let t := truncateFrame s c
    t.intake = { s.intake with mode := .waiting } ∧ t.stats = { s.stats with measure := none } ∧ t.mou = mouEof s.mou ∧
    (s.cnd.conditions.length = 25 → (t.cnd.condition condFrameTruncated).latch = true) ∧
    (∀ x ∈ t.cst.slots, x.state ≠ .filling) ∧ t.pxp = s.pxp ∧ t.lnk = s.lnk ∧ t.cst.dram = s.cst.dram := by
  dsimp only
  rw [truncateFrame_of_latches s hc]
  obtain ⟨hmou, hstats, hintake, hpxp, hlnk⟩ := truncatedWork_mou_stats (s.setIntake { s.intake with mode := .waiting })
  refine ⟨hintake, hstats, hmou, fun hlen => cndRaise_latch ?_, truncatedWork_not_filling _, hpxp, hlnk, ?_⟩
  · rw [(truncatedWork_agreeAt _ (k := condFrameTruncated) (by decide) (by decide)).2]
    exact hlen ▸ (by decide : condFrameTruncated < 25)
  · rw [State.raise_cst, truncatedWork_eq rfl]
    rfl

/-- A complete frame: what its end leaves beside AEC, AFC and the store (R8). -/
theorem completeFrame_keeps {s : State} {m : Measurement} (hm : s.stats.measure = some m) :
    (completeFrame s).intake = { s.intake with mode := .waiting } ∧ (completeFrame s).stats = statsEof s.stats s.intake.fn ∧
    (completeFrame s).mou = mouEof s.mou ∧ (completeFrame s).pxp = s.pxp ∧ (completeFrame s).lnk = s.lnk := by
  have ha := aecEof_controls (measuredEof s) (some ⟨zoneMeans m, highlightMask m⟩)
  rw [completeFrame_eq hm]
  dsimp only
  generalize aecEof (measuredEof s) (some ⟨zoneMeans m, highlightMask m⟩) = r at ha
  obtain ⟨hi, hp, hst, hmou, -, hl, -⟩ := focusEof_keeps r.1 (windowRecords m) r.2.1
  have h := cstEof_storeOnly (focusEof r.1 (windowRecords m) r.2.1) r.2.2
  exact ⟨h.intake.trans (hi.trans ha.intake), h.stats.trans (hst.trans ha.stats), h.mou.trans (hmou.trans ha.mou),
    h.pxp.trans (hp.trans ha.pxp), h.lnk.trans (hl.trans ha.lnk)⟩

end Sys2Proof.Machine
end

section
/-! SUPPORT. FRAME_END and FRAME_TIMEOUT (R8 to R10): the slot filed at a complete frame, and each case of the statement. -/

namespace Sys2Proof.Machine

/-- The filed frame by the store s before the EOF, in a machine v whose store is that of s (R149, R154, R159). -/
theorem cstEof_values {s v : State} {i : Nat} {x : Slot} {rec : FrameRecord} (b : Bool) (hv : v.cst = s.cst) (hc : v.CondKept s)
    (h1 : countState .filling s.cst.slots ≤ 1) (hx : s.cst.slots[i]? = some x) (hs : x.state = .filling)
    (hr : x.record = some rec) :
    let t := cstEof v b
    let held := meetsHold s.cst.params.hold (completedRecord rec b)
    let c := filedCst s.cst i x (completedRecord rec b) held
    t.cst = { c with
      state := if c.captureComplete then .idle else s.cst.state
      forced := s.cst.forced && !decide c.captureComplete
      withheldRelease := s.cst.withheldRelease && !decide c.captureComplete } ∧
    (∀ k, 12 ≤ k → k ≠ condStoreFull → k ≠ condCaptureDone →
      t.cnd.condition k = (filedNotice s.cst held s.cnd).condition k) ∧
    t.cnd.condition condCaptureDone = (if c.captureComplete then cndRaise s.cnd condCaptureDone else s.cnd).condition condCaptureDone ∧
    (c.captureComplete → t.aec.program = .live ∧ t.aec.markDue = false) := by
  intro t held c
  have hfiled : t = checkCaptureDone (filedState v i x (completedRecord rec b) held) := by
    have heof := (cstEof_of_filling b (hv ▸ h1) (hv ▸ hx) hs hr).trans (fileFrame_eq rec b (hv ▸ hx))
    rw [hv] at heof
    exact heof
  have hcst : (filedState v i x (completedRecord rec b) held).cst = c := congrArg (filedCst · i x (completedRecord rec b) held) hv
  have hnotice {k : Nat} (hk : 12 ≤ k) (hf : k ≠ condStoreFull) :
      Cnd.AgreeAt k (filedState v i x (completedRecord rec b) held).cnd (filedNotice s.cst held s.cnd) := by
    have hlevel : Cnd.AgreeAt k (cndSetLevel v.cnd condStoreFull (storeFull (filedCst v.cst i x (completedRecord rec b) held).slots))
        s.cnd := (cndSetLevel_agreeAt_of_ne _ _ hf).trans (hc.agreeAt k hk)
    change Cnd.AgreeAt k (filedNotice v.cst held _) _
    rw [hv] at hlevel ⊢
    unfold filedNotice
    split
    · split
      · exact hlevel.raise _
      · exact hlevel
    · split
      · exact hlevel.raise _
      · exact hlevel
  refine ⟨?_, fun k hk hf hd => ?_, ?_, fun hdone => ?_⟩
  · rw [hfiled, checkCaptureDone_cst, hcst]
    rfl
  · rw [hfiled, (checkCaptureDone_agreeAt _ hk).1, hcst, ← (hnotice hk hf).1]
    split
    · exact (cndRaise_agreeAt_of_ne _ hd).1
    · rfl
  · have hkept : Cnd.AgreeAt condCaptureDone (filedNotice s.cst held s.cnd) s.cnd := by
      unfold filedNotice
      split
      · split
        · exact cndRaise_agreeAt_of_ne _ (by decide)
        · exact .refl ..
      · split
        · exact cndRaise_agreeAt_of_ne _ (by decide)
        · exact .refl ..
    have hboth := (hnotice (k := condCaptureDone) (by decide) (by decide)).trans hkept
    rw [hfiled, (checkCaptureDone_agreeAt _ (by decide)).1, hcst]
    split
    · exact (hboth.raise _).1
    · exact hboth.1
  · rw [hfiled]
    exact checkCaptureDone_aec (hcst ▸ hdone)

theorem filedNotice_ready (c : Cst) (held : Bool) (k : Cnd) :
    (filedNotice c held k).condition condFrameReady =
      (if held = false ∧ (c.params.notice = .every ∨ (c.params.notice = .first ∧ c.noticeArmed = true))
        then (cndRaise k condFrameReady).condition condFrameReady else k.condition condFrameReady) := by
  unfold filedNotice
  cases held with
  | true =>
    simp only [if_true, reduceCtorEq, false_and, if_false]
    split
    · exact (cndRaise_agreeAt_of_ne _ (by decide)).1
    · rfl
  | false =>
    simp only [Bool.false_eq_true, if_false, true_and]
    split <;> rfl

theorem filedNotice_held (c : Cst) (held : Bool) (k : Cnd) :
    (filedNotice c held k).condition condFrameHeld =
      (if held = true ∧ c.params.notice ≠ .none
        then (cndRaise k condFrameHeld).condition condFrameHeld else k.condition condFrameHeld) := by
  unfold filedNotice
  cases held with
  | true =>
    simp only [if_true, true_and]
    split <;> rfl
  | false =>
    simp only [Bool.false_eq_true, if_false, false_and]
    split
    · exact (cndRaise_agreeAt_of_ne _ (by decide)).1
    · rfl

/-- AEC at a truncated EOF, case by case (R40, R52, R53). -/
theorem aecEof_none_cases (u : State) :
    let a := u.aec
    let waits := (∃ r ∈ a.inFlight, fnLater r.effective u.intake.fn = true) ∨ a.awaiting.isSome = true ∨
      a.retry.isSome = true ∨ a.sequence.isSome = true
    let scanning := u.afc.state = .coarse ∨ u.afc.state = .fine
    let settled := decide (a.params.settleCount = 0)
    (waits ∨ a.state = .fault → aecEof u none = (u, false, false)) ∧
    (¬ waits → a.state = .run ∨ a.state = .held →
      aecEof u none = ((u.setAec { a with settledCount := 0, breakCount := 0, settled := settled }).setCnd
        (cndSetLevel u.cnd condAeSettled settled), false, false)) ∧
    (¬ waits → a.state = .locked ∨ (a.state = .off ∧ a.manual = none) →
      (a.latest = none ∨ a.markDue = false ∨ scanning → aecEof u none = (u, false, false)) ∧
      ∀ x, a.latest = some x → a.markDue = true → ¬ scanning → aecEof u none = (issuedRecord u a x, false, false)) ∧
    ∀ x, ¬ waits → a.state = .off → a.manual = some x →
      (a.markDue = false → a.latest = some x → aecEof u none = (u.setAec { a with manual := none }, false, false)) ∧
      (a.markDue = true ∨ a.latest ≠ some x → scanning → aecEof u none = (u, false, false)) ∧
      (a.markDue = true ∨ a.latest ≠ some x → ¬ scanning →
        let v := issuedRecord u { a with manual := none } x
        aecEof u none = (if u.lds.iris.valid = true ∧ u.lds.hasMoveToward .iris x.iris = false
          then (v.setLds (ldsPlace u.lds .iris ⟨.iris, x.iris, 0⟩)).grant else v, false, false)) := by
  intro a waits scanning settled
  have hwaits : waitingFrame u.aec u.intake.fn = true ↔ waits := waitingFrame_iff ..
  have hscan : u.afc.state.scanning = true ↔ scanning := scanning_iff _
  refine ⟨fun h => aecEof_of_waiting none (h.imp_left hwaits.2), fun hw hs => ?_, fun hw hs => ?_, fun x hw hs hm => ⟨fun hd hl => ?_, fun hd hsc => ?_, fun hd hsc => ?_⟩⟩
  · rw [aecEof_none_counted (mt hwaits.1 hw) hs, invalidFrame_eq hs]
  · have hcopy : aecEof u none = (captureCopy u, false, false) := by
      obtain hs | ⟨hs, hm⟩ := hs
      · exact aecEof_none_locked (mt hwaits.1 hw) hs
      · rw [aecEof_none_off (mt hwaits.1 hw) hs, issueOff_none hm]
    rw [hcopy]
    refine ⟨fun h => ?_, fun x hl hm hsc => ?_⟩
    · rw [captureCopy_eq_self (h.imp_right fun h => h.imp_right hscan.2)]
    · rw [captureCopy_eq_issued (hs.elim .inr fun h => .inl h.1) hl hm (mt hscan.1 hsc)]
  · rw [aecEof_none_off (mt hwaits.1 hw) hs, issueOff_same hm hd hl]
  · rw [aecEof_none_off (mt hwaits.1 hw) hs, issueOff_differs hm hd, issueManual, if_pos (hscan.2 hsc)]
  · rw [aecEof_none_off (mt hwaits.1 hw) hs, issueOff_differs hm hd, issueManual_eq hs (mt hscan.1 hsc)]

/-- Settles O29, from AEC's work without a zone set, the truncated frame spelled out, the order of figures and disturbance,
and the slot filed. -/
theorem frameEndsCompleteOrTruncated : Obligations.FrameEndsCompleteOrTruncated := by
  unfold Obligations.FrameEndsCompleteOrTruncated
  intro shaken cut
  have hshaken (u : Mou) : mouEof u = shaken u := mouEof_eq u
  have hcut (s : State) : truncatedWork (s.setIntake { s.intake with mode := .waiting }) = cut s := by
    have hu : cutShort (s.setIntake { s.intake with mode := .waiting }) =
        ((s.setIntake { s.intake with mode := .waiting }).setMou (shaken s.mou)).setStats { s.stats with measure := none } := by
      unfold cutShort
      rw [hshaken]
      rfl
    rw [truncatedWork_eq rfl, hu, afcTruncated_eq]
    rfl
  have htruncate (s : State) {c : TruncationCause} (hc : c.latches = true) :
      truncateFrame s c = (cut s).raise condFrameTruncated := by rw [truncateFrame_of_latches s hc, hcut]
  refine ⟨fun u => aecEof_none_cases u, fun s h => exec_frameEnd_of_not h, fun s hm hshort => ?_, fun s m hpart hm hfull hmeasure => ?_,
    fun s h => exec_frameTimeout_of_not_running h, fun s h hm => exec_frameTimeout_of_not_inFrame h hm, fun s h hm => ?_⟩
  · obtain ⟨hintake, hstats, hmou, hlatch, hslots, hpxp, hlnk, hdram⟩ := truncateFrame_values s (c := .shortFrame) rfl
    exact ⟨_, exec_frameEnd_of_short hm hshort, htruncate s rfl, hintake, hstats, hmou.trans (hshaken _), hlatch, hslots, hpxp,
      hlnk, hdram⟩
  · obtain ⟨hintake, hstats, hmou, hpxp, hlnk⟩ := completeFrame_keeps hmeasure
    have hpoint : ((s.setIntake (completeFrame s).intake).setMou (completeFrame s).mou).setStats (completeFrame s).stats =
        measuredEof s := by
      rw [hintake, hmou, hstats]
      rfl
    have ha := aecEof_controls (measuredEof s) (some ⟨zoneMeans m, highlightMask m⟩)
    have hk := aecEof_condKept (measuredEof s) (some ⟨zoneMeans m, highlightMask m⟩)
    have ht := completeFrame_eq hmeasure
    dsimp only at ht
    refine ⟨_, exec_frameEnd_of_complete hm hfull, hintake, ?_, fun h0 => ?_, fun h0 hw => ?_, fun h0 hd => ?_,
      hmou.trans (hshaken _), hpxp, hlnk, ?_⟩
    · rw [hstats]
      exact statsEof_measure ..
    · rw [hstats]
      exact statsEof_of_off _ h0
    · rw [hstats]
      exact statsEof_of_waits _ hmeasure h0 hw
    · rw [hstats]
      exact statsEof_of_due _ hmeasure h0 hd
    · rw [hpoint]
      generalize aecEof (measuredEof s) (some ⟨zoneMeans m, highlightMask m⟩) = r at ha hk ht
      obtain ⟨hno, hyes⟩ := focusEof_cases r.1 (windowRecords m) r.2.1
      obtain ⟨-, -, -, -, hcst, -, hcond⟩ := focusEof_keeps r.1 (windowRecords m) r.2.1
      have hfn : r.1.intake.fn = s.intake.fn := by rw [ha.intake]; rfl
      rw [hfn] at hno hyes
      generalize focusEof r.1 (windowRecords m) r.2.1 = v at ht hno hyes hcst hcond
      have hv : v.cst = s.cst := hcst.trans ha.cst
      have hc : v.CondKept s := hcond.trans (hk.trans (.of_eq rfl))
      refine ⟨⟨v, ht, hno, hyes⟩, fun hnone => ?_, fun i x rec hx hs hr => ?_⟩
      · rw [ht, cstEof_of_not_filling _ (hv ▸ hnone), hv]
      · obtain ⟨htcst, hcnd, hdone, haec⟩ := cstEof_values r.2.2 hv hc hpart.1 hx hs hr
        rw [ht]
        exact ⟨htcst, (hcnd _ (by decide) (by decide) (by decide)).trans (filedNotice_ready ..),
          (hcnd _ (by decide) (by decide) (by decide)).trans (filedNotice_held ..),
          hdone.trans (apply_ite (Cnd.condition · condCaptureDone) ..), haec⟩
  · obtain ⟨hintake, hstats, hmou, hlatch, hslots, hpxp, hlnk, hdram⟩ :=
      truncateFrame_values (s.raise condSensorStall) (c := .timeout) rfl
    refine ⟨_, exec_frameTimeout_of_inFrame h hm, ?_, ?_, hstats, hmou.trans (hshaken _), fun hlen => ⟨?_, ?_⟩, hslots, hpxp, hlnk,
      hdram⟩
    · rw [htruncate _ rfl]
      rfl
    · rw [hintake]
      rfl
    · have hkept : Cnd.AgreeAt condSensorStall (truncateFrame (s.raise condSensorStall) .timeout).cnd (s.raise condSensorStall).cnd := by
        rw [truncateFrame_of_latches _ rfl]
        exact (cndRaise_agreeAt_of_ne _ (by decide)).trans (truncatedWork_agreeAt _ (by decide) (by decide))
      exact (congrArg Condition.latch hkept.1).trans (cndRaise_latch (hlen ▸ (by decide : condSensorStall < 25)))
    · exact hlatch ((length_cndRaise ..).trans hlen)

end Sys2Proof.Machine
end

section
/-! SUPPORT. A fetch in progress aborted, written out (R158): the fetch, and the SENDING slot that returns to the state it had
or is freed under AUTO release (R155). -/

namespace Sys2Proof.Machine

/-- A fetch is in progress whose final line is not being sent. -/
abbrev State.fetchAborts (s : State) : Prop := s.cst.fetch.isSome = true ∧ sendingFinal s.lnk = false

/-- The fetch once aborted: one of an image has its ABORT packet to send (R158). -/
def State.abortedFetch (s : State) : Option Fetch :=
  if s.fetchAborts then s.cst.fetch.bind fun f => if f.image then some { f with aborted := true, record := none } else none
  else s.cst.fetch

/-- A slot as it stands once it has returned from SENDING (R155, R158). -/
def returnedFrom (c : Cst) (x : Slot) : Slot :=
  if c.params.release = .auto ∧ x.before = .ready ∧ x.recordSent = true ∧ x.imageSent = true then freed x
  else { x with state := x.before }

/-- A slot once a fetch is aborted. -/
def State.returnedSlot (s : State) (x : Slot) : Slot :=
  if x.state = .sending ∧ s.fetchAborts then returnedFrom s.cst x else x

/-- Only the slot whose image a fetch is sending is SENDING (R157). -/
def State.SendingIsFetched (s : State) : Prop :=
  ∀ (i : Nat) (x : Slot), s.cst.slots[i]? = some x → x.state = .sending → s.cst.sendsImageOf i

theorem slotsKept_of_not_sending {s : State} (h : ¬ s.fetchAborts ∨ ∀ x ∈ s.cst.slots, x.state ≠ .sending) :
    s.cst.slots.map s.returnedSlot = s.cst.slots := by
  refine (List.map_congr_left fun x hx => if_neg ?_).trans (List.map_id _)
  rintro ⟨hs, ha⟩
  rcases h with h | h
  · exact h ha
  · exact h x hx hs

/-- Conditions that differ at STORE_FULL at most. -/
def Cnd.StoreFullOnly (d c : Cnd) : Prop := ∀ k, k ≠ condStoreFull → Cnd.AgreeAt k d c

theorem Cnd.StoreFullOnly.refl (c : Cnd) : c.StoreFullOnly c := fun k _ => .refl k c

theorem Cnd.StoreFullOnly.trans {c d e : Cnd} (h : e.StoreFullOnly d) (g : d.StoreFullOnly c) : e.StoreFullOnly c :=
  fun k hk => (h k hk).trans (g k hk)

theorem cndSetLevel_storeFullOnly (c : Cnd) (b : Bool) : (cndSetLevel c condStoreFull b).StoreFullOnly c :=
  fun _ hk => cndSetLevel_agreeAt_of_ne _ _ hk

/-- A slot tried for AUTO release (R155). -/
def autoReleased (c : Cst) (y : Slot) : Slot :=
  if c.params.release = .auto ∧ y.state = .ready ∧ y.recordSent = true ∧ y.imageSent = true then freed y else y

/-- AUTO release frees a READY slot sent whole (R155). -/
theorem autoRelease_eq {u : State} {i : Nat} {y : Slot} (hy : u.cst.slots[i]? = some y) :
    ∃ c, autoRelease u i = (u.setCst { u.cst with slots := u.cst.slots.set i (autoReleased u.cst y) }).setCnd c ∧
      c.StoreFullOnly u.cnd := by
  unfold autoRelease autoReleased
  rw [hy]
  dsimp only
  split
  · next h =>
    refine ⟨_, ?_, cndSetLevel_storeFullOnly u.cnd false⟩
    rw [freeSlotAt_eq (List.getElem?_eq_some_iff.1 hy).1, modifyAt_eq_set hy]
  · refine ⟨u.cnd, ?_, .refl _⟩
    obtain ⟨hi, rfl⟩ := List.getElem?_eq_some_iff.1 hy
    rw [List.set_getElem_self]
    rfl

/-- A slot that returns from SENDING (R155, R157, R158). -/
theorem slotReturns_eq {s : State} {i : Nat} {x : Slot} (hx : s.cst.slots[i]? = some x) (hs : x.state = .sending) :
    ∃ c, slotReturns s i = (s.setCst { s.cst with slots := s.cst.slots.set i (returnedFrom s.cst x) }).setCnd c ∧
      c.StoreFullOnly s.cnd := by
  have hstand : (s.cst.slots.set i { x with state := x.before })[i]? = some { x with state := x.before } := by
    simp [(List.getElem?_eq_some_iff.1 hx).1]
  have hreturn : slotReturns s i = autoRelease ((s.setCst { s.cst with slots := s.cst.slots.set i { x with state := x.before } }).setCnd
      (cndSetLevel s.cnd condStoreFull (storeFull (s.cst.slots.set i { x with state := x.before })))) i := by
    unfold slotReturns
    rw [hx, ← setSlot_eq_set (fun y => { y with state := y.before }) hx]
    exact if_pos hs
  obtain ⟨c, hc, hfull⟩ := autoRelease_eq (u := (s.setCst { s.cst with slots := s.cst.slots.set i { x with state := x.before } }).setCnd
    (cndSetLevel s.cnd condStoreFull (storeFull (s.cst.slots.set i { x with state := x.before })))) hstand
  refine ⟨c, ?_, hfull.trans (cndSetLevel_storeFullOnly _ _)⟩
  rw [hreturn, hc]
  dsimp only [State.setCnd_cst, State.setCst_cst]
  rw [List.set_set]
  rfl

/-- A fetch in progress aborted (R158): the fetch, the slots, and STORE_FULL. -/
theorem abortFetch_eq {s : State} (h : s.SendingIsFetched) :
    ∃ c, abortFetch s = (s.setCst { s.cst with fetch := s.abortedFetch, slots := s.cst.slots.map s.returnedSlot }).setCnd c ∧
      c.StoreFullOnly s.cnd := by
  unfold abortFetch
  split
  · next hf =>
    have hno : ¬ s.fetchAborts := fun ha => absurd ha.1 (by simp [hf])
    refine ⟨s.cnd, ?_, .refl _⟩
    rw [slotsKept_of_not_sending (.inl hno), State.abortedFetch, if_neg hno]
    rfl
  · next f hf =>
    split
    · next hfin =>
      have hno : ¬ s.fetchAborts := fun ha => absurd ha.2 (by simp [hfin])
      refine ⟨s.cnd, ?_, .refl _⟩
      rw [slotsKept_of_not_sending (.inl hno), State.abortedFetch, if_neg hno]
      rfl
    · next hfin =>
      have ha : s.fetchAborts := ⟨by simp [hf], by simpa using hfin⟩
      have hfetch : s.abortedFetch = if f.image then some { f with aborted := true, record := none } else none := by
        rw [State.abortedFetch, if_pos ha, hf]
        rfl
      have hslot {j : Nat} {x : Slot} (hj : s.cst.slots[j]? = some x) (hx : x.state = .sending) : f.image = true ∧ j = f.slot := by
        obtain ⟨g, hg, him, -, rfl⟩ := h j x hj hx
        cases hf.symm.trans hg
        exact ⟨him, rfl⟩
      have hstay (t : State) (ht : t = s.setCst { s.cst with fetch := s.abortedFetch })
          (hnone : ∀ (j : Nat) (x : Slot), s.cst.slots[j]? = some x → x.state ≠ .sending) :
          ∃ c, t = (s.setCst { s.cst with fetch := s.abortedFetch, slots := s.cst.slots.map s.returnedSlot }).setCnd c ∧
            c.StoreFullOnly s.cnd := by
        refine ⟨s.cnd, ?_, .refl _⟩
        rw [ht, slotsKept_of_not_sending (.inr fun x hx => ?_)]
        · rfl
        · obtain ⟨j, hj⟩ := List.mem_iff_getElem?.1 hx
          exact hnone j x hj
      split
      · next him =>
        rw [if_pos him] at hfetch
        rw [← hfetch]
        by_cases hx : ∃ x, s.cst.slots[f.slot]? = some x ∧ x.state = .sending
        · obtain ⟨x, hx, hs⟩ := hx
          obtain ⟨c, hc, hfull⟩ := slotReturns_eq (s := s.setCst { s.cst with fetch := s.abortedFetch }) hx hs
          refine ⟨c, ?_, hfull⟩
          have hmap : s.cst.slots.map s.returnedSlot = s.cst.slots.set f.slot (returnedFrom s.cst x) := by
            refine List.ext_getElem? fun j => ?_
            rw [List.getElem?_map, List.getElem?_set]
            by_cases hj : f.slot = j
            · subst hj
              rw [if_pos rfl, if_pos (List.getElem?_eq_some_iff.1 hx).1, hx, Option.map_some, State.returnedSlot, if_pos ⟨hs, ha⟩]
            · rw [if_neg hj]
              cases hy : s.cst.slots[j]? with
              | none => rfl
              | some y => rw [Option.map_some, State.returnedSlot, if_neg fun hn => hj (hslot hy hn.1).2.symm]
          rw [hc, hmap]
          rfl
        · refine hstay _ ?_ fun j x hj hs => hx ⟨x, (hslot hj hs).2 ▸ hj, hs⟩
          unfold slotReturns
          split
          · next x hs => exact if_neg fun hn => hx ⟨x, hs, hn⟩
          · rfl
      · next him =>
        rw [if_neg him] at hfetch
        refine hstay _ ?_ fun j x hj hs => him (hslot hj hs).1
        rw [hfetch]
        rfl

end Sys2Proof.Machine
end

section
/-! SUPPORT. The controllers do not look at the command buffer: AEC without a zone set, the grant and a truncated frame do the
same with any buffer, so that a command's own place in it does not matter to what it does. -/

namespace Sys2Proof.Machine

/-- The machine with another command buffer. -/
def State.withBuffer (s : State) (b : List BufferPlace) : State := s.setLnk { s.lnk with buffer := b }

/-- An operation does the same whatever the command buffer holds. -/
def IgnoresBuffer (f : State → State) : Prop := ∀ s b, f (s.withBuffer b) = (f s).withBuffer b

theorem ite_withBuffer {p q : Prop} [Decidable p] [Decidable q] {t t' e e' : State} {b : List BufferPlace} (h : p ↔ q)
    (ht : t' = t.withBuffer b) (he : e' = e.withBuffer b) : (if p then t' else e') = (if q then t else e).withBuffer b := by
  by_cases hq : q
  · rw [if_pos hq, if_pos (h.2 hq), ht]
  · rw [if_neg hq, if_neg (mt h.1 hq), he]

/-! ### AEC and AFC -/

theorem aecJudge_ignores : IgnoresBuffer aecJudge := fun _ _ => rfl

theorem aecJudgeRecords_ignores : IgnoresBuffer aecJudgeRecords := by
  intro s b
  unfold aecJudgeRecords
  rw [show (s.withBuffer b).aec = s.aec from rfl]
  split <;> rfl

theorem afcEnter_ignores (st : AfState) : IgnoresBuffer (afcEnter · st) := by
  intro s b
  change afcEnter (s.setLnk _) st = (afcEnter s st).setLnk { (afcEnter s st).lnk with buffer := b }
  rw [afcEnter_setLnk, afcEnter_lnk]

theorem afcBeginCoarse_ignores (inf near : Nat) : IgnoresBuffer (afcBeginCoarse · inf near) := by
  intro s b
  unfold afcBeginCoarse
  exact congrArg (afcRequest · _) (afcEnter_ignores .coarse (s.setAfc _) b)

theorem afcScanStart_ignores : IgnoresBuffer afcScanStart := fun s b => afcBeginCoarse_ignores _ _ (s.setAfc _) b

theorem afcAbort_ignores (r : Bool) : IgnoresBuffer (afcAbort · r) := fun s b =>
  afcEnter_ignores .idle (((s.cancelMove .af).setAfc _).raise _) b

theorem afcZoomGranted_ignores : IgnoresBuffer afcZoomGranted := fun s b =>
  ite_withBuffer Iff.rfl (afcAbort_ignores _ s b) rfl

theorem afcZoomIdle_ignores : IgnoresBuffer afcZoomIdle := by
  intro s b
  refine ite_withBuffer Iff.rfl (ite_withBuffer Iff.rfl ?_ rfl) rfl
  generalize hu : s.setAfc { s.afc with rescanAfterZoom := false } = u
  have hw : (s.withBuffer b).setAfc { s.afc with rescanAfterZoom := false } = u.withBuffer b := by rw [← hu]; rfl
  change (match afcRangeChecks ((s.withBuffer b).setAfc { s.afc with rescanAfterZoom := false }) with
    | none => afcScanStart ((s.withBuffer b).setAfc { s.afc with rescanAfterZoom := false })
    | some _ => (s.withBuffer b).setAfc { s.afc with rescanAfterZoom := false }) = _
  rw [hw, show afcRangeChecks (u.withBuffer b) = afcRangeChecks u from rfl]
  cases afcRangeChecks u with
  | none => exact afcScanStart_ignores u b
  | some _ => rfl

theorem afcMoveComplete_ignores : IgnoresBuffer afcMoveComplete := by
  intro s b
  unfold afcMoveComplete
  rw [show (s.withBuffer b).afc = s.afc from rfl]
  cases s.afc.scan with
  | none => rfl
  | some sc =>
    refine ite_withBuffer Iff.rfl ?_ rfl
    cases sc.wait with
    | lockMove => exact afcEnter_ignores .locked (((s.setAfc _).raise _).setZmc _) b
    | move => rfl
    | sof => rfl
    | eof _ => rfl

theorem afcTrackEnded_ignores : IgnoresBuffer afcTrackEnded := fun _ _ => ite_withBuffer Iff.rfl rfl rfl

/-! ### ZMC and the park -/

theorem place_withBuffer {t t' : State} {src : Source} {r r' : Request} {b : List BufferPlace} (h : t' = t.withBuffer b)
    (hr : r' = r) : t'.place src r' = (t.place src r).withBuffer b := by
  rw [h, hr]
  rfl

theorem zmcTrack_ignores : IgnoresBuffer zmcTrack := by
  intro s b
  refine ite_withBuffer Iff.rfl ?_ rfl
  refine place_withBuffer ?_ rfl
  exact ite_withBuffer Iff.rfl rfl rfl

theorem zmcIdle_ignores : IgnoresBuffer zmcIdle := fun s b => afcZoomIdle_ignores (s.setZmc _) b

theorem zmcEnd_ignores (atEnd : Bool) : IgnoresBuffer (zmcEnd · atEnd) := by
  intro s b
  refine (congrArg zmcIdle ?_).trans (zmcIdle_ignores _ b)
  exact ite_withBuffer Iff.rfl rfl rfl

theorem zmcMoveComplete_ignores : IgnoresBuffer zmcMoveComplete := by
  intro s b
  unfold zmcMoveComplete
  rw [show (s.withBuffer b).zmc = s.zmc from rfl]
  split
  · rw [zmcTrack_ignores s b]
    exact ite_withBuffer Iff.rfl (zmcEnd_ignores _ _ b) rfl
  · rw [zmcTrack_ignores s b]
    exact zmcEnd_ignores _ _ b
  · rfl

theorem parkRequest_ignores (m : Motor) : IgnoresBuffer (parkRequest · m) := fun _ _ => ite_withBuffer Iff.rfl rfl rfl

theorem parkComplete_ignores : IgnoresBuffer parkComplete := by
  intro s b
  unfold parkComplete
  rw [show (s.withBuffer b).lds = s.lds from rfl]
  split
  iterate 2 exact parkRequest_ignores _ s b
  iterate 2 rfl

/-! ### The grant -/

theorem moveComplete_ignores (src : Source) : IgnoresBuffer (moveComplete · src) := by
  intro s b
  cases src with
  | park => exact parkComplete_ignores s b
  | track => exact afcTrackEnded_ignores s b
  | zoom => exact zmcMoveComplete_ignores s b
  | iris => rfl
  | af => exact afcMoveComplete_ignores s b
  | manual => rfl

theorem tellGrant_ignores (src : Source) : IgnoresBuffer (tellGrant · src) := fun s b =>
  ite_withBuffer Iff.rfl (afcZoomGranted_ignores s b) rfl

theorem grantOne_withBuffer (s : State) (m : Move) (b : List BufferPlace) :
    grantOne (s.withBuffer b) m = ((grantOne s m).1, (grantOne s m).2.withBuffer b) := by
  unfold grantOne
  rw [show (s.withBuffer b).lds = s.lds from rfl]
  split
  · exact congrArg (Prod.mk true) ((congrArg (moveComplete · m.source) (tellGrant_ignores _ s b)).trans (moveComplete_ignores _ _ b))
  · exact congrArg (Prod.mk false) (tellGrant_ignores _ (s.setLds _) b)

theorem grantLoop_ignores (k : Nat) : IgnoresBuffer (grantLoop k) := by
  intro s b
  induction k generalizing s with
  | zero => rfl
  | succ k ih =>
    have hone (l : Lds) (m : Move) :
        (let g := grantOne ((s.withBuffer b).setLds l) m
         if g.1 then grantLoop k g.2 else g.2) =
        (let g := grantOne (s.setLds l) m
         if g.1 then grantLoop k g.2 else g.2).withBuffer b := by
      have hg := grantOne_withBuffer (s.setLds l) m b
      change grantOne ((s.withBuffer b).setLds l) m = _ at hg
      dsimp only
      rw [hg]
      exact ite_withBuffer Iff.rfl (ih _) rfl
    refine ite_withBuffer Iff.rfl ?_ rfl
    rw [show (s.withBuffer b).lds = s.lds from rfl]
    cases choose s.lds with
    | nothing => rfl
    | request src r => exact hone _ _
    | suspended x rest => exact hone _ _

theorem grant_ignores : IgnoresBuffer State.grant := grantLoop_ignores _

/-! ### A frame that ends truncated -/

theorem requestIris_ignores (target : Nat) : IgnoresBuffer (requestIris · target) := fun s b =>
  ite_withBuffer Iff.rfl (grant_ignores (s.place .iris _) b) rfl

theorem captureCopy_ignores : IgnoresBuffer captureCopy := by
  intro s b
  refine ite_withBuffer Iff.rfl ?_ rfl
  rw [show (s.withBuffer b).aec = s.aec from rfl]
  cases s.aec.latest with
  | none => rfl
  | some x => exact aecJudgeRecords_ignores (s.setAec _) b

theorem issueManual_ignores (x : Setting) : IgnoresBuffer (issueManual · x) := by
  intro s b
  exact ite_withBuffer Iff.rfl rfl
    ((congrArg (requestIris · x.iris) (aecJudgeRecords_ignores (s.setAec _) b)).trans (requestIris_ignores _ _ b))

theorem issueOff_ignores : IgnoresBuffer issueOff := by
  intro s b
  unfold issueOff
  rw [show (s.withBuffer b).aec = s.aec from rfl]
  cases s.aec.manual with
  | none => exact captureCopy_ignores s b
  | some x => exact ite_withBuffer Iff.rfl (issueManual_ignores x s b) rfl

theorem aecEof_none_withBuffer (s : State) (b : List BufferPlace) :
    (aecEof (s.withBuffer b) none).1 = (aecEof s none).1.withBuffer b := by
  unfold aecEof
  dsimp only
  rw [show (s.withBuffer b).aec = s.aec from rfl, show (s.withBuffer b).intake = s.intake from rfl]
  split
  · rfl
  · split
    · rfl
    · exact issueOff_ignores s b
    · exact captureCopy_ignores s b
    · rfl

theorem truncatedWork_ignores : IgnoresBuffer truncatedWork := by
  intro s b
  rw [truncatedWork_eq (s := s.withBuffer b) (aecEof_none_withBuffer (cutShort s) b), truncatedWork_eq rfl]
  rfl

theorem truncateFrame_stopped_ignores : IgnoresBuffer (truncateFrame · .stopped) := fun s b =>
  truncatedWork_ignores (s.setIntake _) b

end Sys2Proof.Machine
end

section
/-! SUPPORT. PATH_STOP (R5, R102, R144, R158, R161): what the store's stop and AFC's abort leave, and AEC and AFC at a
truncated frame where no manual setting waits. -/

namespace Sys2Proof.Machine

/-! ### AFC enters a state and lets a scan go (R86, R87, R102) -/

/-- AFC enters a state: beside it only AEC and AE_SETTLED move (R33). -/
theorem afcEnter_eq (s : State) (st : AfState) : ∃ a c, afcEnter s st = ((s.setAfc { s.afc with state := st }).setAec a).setCnd c ∧
    ∀ k, k ≠ condAeSettled → Cnd.AgreeAt k c s.cnd := by
  have henter (u : State) (e : AeState) : ∃ a c, aecEnter u e = (u.setAec a).setCnd c ∧
      ∀ k, k ≠ condAeSettled → Cnd.AgreeAt k c u.cnd :=
    ⟨_, _, rfl, fun k hk => cndSetLevel_agreeAt_of_ne _ _ hk⟩
  have hstay (u : State) : ∃ a c, u = (u.setAec a).setCnd c ∧ ∀ k, k ≠ condAeSettled → Cnd.AgreeAt k c u.cnd :=
    ⟨u.aec, u.cnd, rfl, fun k _ => .refl k _⟩
  unfold afcEnter aecFollowFocus
  split
  · split
    · obtain ⟨a, c, h, hc⟩ := henter ((s.setAfc { s.afc with state := st }).setAec
        { (s.setAfc { s.afc with state := st }).aec with breakCount := 0 }) .held
      exact ⟨a, c, h, hc⟩
    · exact hstay _
  · split
    · exact henter _ .run
    · exact hstay _

/-- The fields of AFC, LDS and the condition AF_ABORTED after AFC has entered a state. -/
theorem afcEnter_values (s : State) (st : AfState) : (afcEnter s st).afc = { s.afc with state := st } ∧
    (afcEnter s st).lds = s.lds ∧ Cnd.AgreeAt condAfAborted (afcEnter s st).cnd s.cnd := by
  obtain ⟨a, c, h, hc⟩ := afcEnter_eq s st
  rw [h]
  exact ⟨rfl, rfl, hc _ (by decide)⟩

/-- A release that ends a scan (R87): the AF move is cancelled, with no AF_ABORTED. -/
theorem afcS1Release_scan {s : State} (h : s.afc.state = .coarse ∨ s.afc.state = .fine ∨ s.afc.state = .settle) :
    (afcS1Release s).afc.state = .idle ∧ (afcS1Release s).afc.scan = none ∧ (afcS1Release s).lds = ldsCancel s.lds .af ∧
    Cnd.AgreeAt condAfAborted (afcS1Release s).cnd s.cnd := by
  have hcancel : afcCancel s = afcEnter ((s.cancelMove .af).setAfc { s.afc with scan := none, rescanAfterZoom := false }) .idle := by
    unfold afcCancel
    rcases h with h | h | h <;> rw [h] <;> rfl
  obtain ⟨hafc, hlds, hcnd⟩ := afcEnter_values ((s.cancelMove .af).setAfc { s.afc with scan := none, rescanAfterZoom := false }) .idle
  rw [afcS1Release_inScan h, hcancel]
  exact ⟨congrArg Afc.state hafc, congrArg Afc.scan hafc, hlds, hcnd⟩

/-- A release outside a scan moves nothing and lets a lock go (R87). -/
theorem afcS1Release_noScan {s : State} (h1 : s.afc.state ≠ .coarse) (h2 : s.afc.state ≠ .fine) (h3 : s.afc.state ≠ .settle) :
    (afcS1Release s).afc.state = (if s.afc.state = .locked then .idle else s.afc.state) ∧ (afcS1Release s).lds = s.lds ∧
    Cnd.AgreeAt condAfAborted (afcS1Release s).cnd s.cnd := by
  obtain ⟨hafc, hlds, hcnd⟩ := afcEnter_values (s.setAfc s.afc.unlocked) .idle
  cases h : s.afc.state with
  | locked =>
    have hrelease : afcS1Release s = afcEnter (s.setAfc s.afc.unlocked) .idle := by
      unfold afcS1Release
      rw [h]
    rw [hrelease]
    exact ⟨congrArg Afc.state hafc, hlds, hcnd⟩
  | coarse => exact absurd h h1
  | fine => exact absurd h h2
  | settle => exact absurd h h3
  | idle => rw [afcS1Release_of_idle (.inl h)]; exact ⟨h, rfl, .refl ..⟩
  | monitor => rw [afcS1Release_of_idle (.inr (.inl h))]; exact ⟨h, rfl, .refl ..⟩
  | failed => rw [afcS1Release_of_idle (.inr (.inr h))]; exact ⟨h, rfl, .refl ..⟩

theorem inScan_iff (x : AfState) : x.inScan = true ↔ x = .coarse ∨ x = .fine ∨ x = .settle := by cases x <;> decide

/-- PATH_STOP finds a scan in hand: it is aborted (R102). -/
theorem afcPathStop_scan {s : State} (h : s.afc.state = .coarse ∨ s.afc.state = .fine ∨ s.afc.state = .settle) :
    (afcPathStop s).afc.state = .idle ∧ (afcPathStop s).afc.scan = none ∧ (afcPathStop s).lds = ldsCancel s.lds .af ∧
    Cnd.AgreeAt condAfAborted (afcPathStop s).cnd (cndRaise s.cnd condAfAborted) := by
  obtain ⟨hafc, hlds, hcnd⟩ := afcEnter_values (((s.cancelMove .af).setAfc
    { s.afc with scan := none, rescanAfterZoom := s.afc.rescanAfterZoom || false }).raise condAfAborted) .idle
  have hstop : afcPathStop s = afcAbort s false := if_pos ((inScan_iff _).2 h)
  rw [hstop]
  exact ⟨congrArg Afc.state hafc, congrArg Afc.scan hafc, hlds, hcnd⟩

theorem afcPathStop_noScan {s : State} (h : ¬ (s.afc.state = .coarse ∨ s.afc.state = .fine ∨ s.afc.state = .settle)) :
    afcPathStop s = s := if_neg (mt (inScan_iff _).1 h)

/-! ### The store stops (R144, R161) -/

/-- The store passes a withheld S1 release on as it stops. -/
abbrev Cst.passesAtStop (c : Cst) : Prop := c.withheldRelease = true ∧ c.state ≠ .idle ∧ c.s1.debounced = false

/-- The store once it has stopped (R144). -/
def Cst.stopped (c : Cst) : Cst :=
  { c with
    state := .idle
    forced := if c.state = .idle then c.forced else false
    withheldRelease := if c.state = .idle then c.withheldRelease else false
    slots := if c.state = .idle then c.slots else c.slots.map unfilled }

/-- A withheld release passed on at a capture's end, or let stand where S1 is asserted again (R161). -/
theorem passWithheld_eq {s : State} (hs : s.cst.state = .idle ∨ s.cst.state = .armed) :
    passWithheld s = if s.cst.withheldRelease = true ∧ s.cst.s1.debounced = false
      then afcS1Release (s.setCst { s.cst with withheldRelease := false })
      else s.setCst { s.cst with withheldRelease := false } := by
  cases hw : s.cst.withheldRelease with
  | false =>
    rw [passWithheld_of_not (.inl hw), if_neg (by simp)]
    exact congrArg (fun b => s.setCst { s.cst with withheldRelease := b }) hw
  | true =>
    rw [passWithheld_of_withheld hw hs]
    cases s.cst.s1.debounced with
    | false => exact (if_neg Bool.false_ne_true).trans (if_pos ⟨rfl, rfl⟩).symm
    | true => exact (if_pos rfl).trans (if_neg (by simp)).symm

/-- The end of a capture by STORE_STOP, before a withheld release is passed on: the FILLING slot is freed, AEC is told (R144). -/
def captureStopped (w : State) : State :=
  let t := tellCaptureEnd (freeFilling w)
  t.setCst { t.cst with state := .idle, forced := false }

theorem captureStopped_values (w : State) :
    (captureStopped w).cst = { w.cst with slots := w.cst.slots.map unfilled, state := .idle, forced := false } ∧
    (captureStopped w).afc = w.afc ∧ (captureStopped w).lds = w.lds ∧ Cnd.AgreeAt condAfAborted (captureStopped w).cnd w.cnd ∧
    (w.cst.triggered = true → (captureStopped w).aec.program = .live ∧ (captureStopped w).aec.markDue = false) := by
  have hcnd : Cnd.AgreeAt condAfAborted
      (if ∃ x ∈ w.cst.slots, x.state = .filling then cndSetLevel w.cnd condStoreFull false else w.cnd) w.cnd := by
    split
    · exact cndSetLevel_agreeAt_of_ne _ _ (by decide)
    · exact .refl ..
  unfold captureStopped tellCaptureEnd
  rw [freeFilling_eq]
  generalize (if ∃ x ∈ w.cst.slots, x.state = .filling then cndSetLevel w.cnd condStoreFull false else w.cnd) = c at hcnd
  dsimp only
  split
  · exact ⟨rfl, rfl, rfl, hcnd, fun _ => ⟨rfl, rfl⟩⟩
  · next hno => exact ⟨rfl, rfl, rfl, hcnd, fun h => absurd h hno⟩

/-- STORE_STOP (R144): the FILLING slot is freed, AEC is told, a withheld release is passed on. -/
theorem storeStop_eq (w : State) : ∃ x, storeStop w = (if w.cst.passesAtStop then afcS1Release x else x) ∧
    x.cst = w.cst.stopped ∧ x.afc = w.afc ∧ x.lds = w.lds ∧ Cnd.AgreeAt condAfAborted x.cnd w.cnd ∧
    (w.cst.triggered = true → x.aec.program = .live ∧ x.aec.markDue = false) := by
  by_cases hidle : w.cst.state = .idle
  · have hno : ¬ w.cst.passesAtStop := fun h => h.2.1 hidle
    refine ⟨w, (if_pos hidle).trans (if_neg hno).symm, ?_, rfl, rfl, .refl .., fun h => ?_⟩
    · unfold Cst.stopped
      simp only [hidle, if_true]
      exact congrArg (fun st => { w.cst with state := st }) hidle
    · simp [Cst.triggered, hidle] at h
  · obtain ⟨hcst, hafc, hlds, hcnd, haec⟩ := captureStopped_values w
    have hstop : storeStop w = passWithheld (captureStopped w) := if_neg hidle
    have hstate : (captureStopped w).cst.state = .idle := by rw [hcst]
    refine ⟨(captureStopped w).setCst { (captureStopped w).cst with withheldRelease := false }, ?_, ?_, hafc, hlds, hcnd, haec⟩
    · rw [hstop, passWithheld_eq (.inl hstate), hcst]
      simp only [Cst.passesAtStop, hidle, ne_eq, not_false_eq_true, true_and]
    · rw [State.setCst_cst, hcst]
      simp only [Cst.stopped, hidle, if_false]

/-! ### Store, fetch and scan halted (R102, R144, R158) -/

/-- Emptying FILLING slots leaves the SENDING ones. -/
theorem getElem?_unfilled_sending {slots : List Slot} {i : Nat} {y : Slot} (h : (slots.map unfilled)[i]? = some y)
    (hy : y.state = .sending) : slots[i]? = some y := by
  rw [List.getElem?_map, Option.map_eq_some_iff] at h
  obtain ⟨x, hx, rfl⟩ := h
  unfold unfilled at hy ⊢
  split
  · next hs =>
    rw [if_pos hs] at hy
    exact SlotState.noConfusion hy
  · exact hx

theorem getElem?_stopped_sending {c : Cst} {i : Nat} {y : Slot} (h : c.stopped.slots[i]? = some y) (hy : y.state = .sending) :
    c.slots[i]? = some y := by
  unfold Cst.stopped at h
  dsimp only at h
  split at h
  · exact h
  · exact getElem?_unfilled_sending h hy

/-- The store stopped and the fetch aborted, before AFC learns of it. -/
theorem abortFetch_storeStop {w x : State} (hw : w.SendingIsFetched)
    (hstop : storeStop w = if w.cst.passesAtStop then afcS1Release x else x) (hx : x.cst = w.cst.stopped) :
    ∃ c, abortFetch (storeStop w) = ((storeStop w).setCst { w.cst.stopped with
        fetch := w.abortedFetch, slots := w.cst.stopped.slots.map w.returnedSlot }).setCnd c ∧
      c.StoreFullOnly (storeStop w).cnd := by
  have hcst : (storeStop w).cst = w.cst.stopped := by
    rw [hstop]
    split
    · exact (afcS1Release_cst x).trans hx
    · exact hx
  have hlnk : (storeStop w).lnk = w.lnk := (storeStop_storeOnly w).lnk
  have haborts : (storeStop w).fetchAborts ↔ w.fetchAborts := by rw [State.fetchAborts, hcst, hlnk]; rfl
  have hfetch : (storeStop w).abortedFetch = w.abortedFetch := by
    unfold State.abortedFetch
    simp only [haborts, hcst]
    rfl
  have hslot : (storeStop w).returnedSlot = w.returnedSlot := by
    funext y
    unfold State.returnedSlot
    simp only [haborts, hcst]
    rfl
  obtain ⟨c, hc, hfull⟩ := abortFetch_eq (s := storeStop w) fun i y hy hs => by
    rw [hcst] at hy ⊢
    exact hw i y (getElem?_stopped_sending hy hs) hs
  rw [hcst, hfetch, hslot] at hc
  exact ⟨c, hc, hfull⟩

/-- What PATH_STOP leaves of the store, the fetch, AEC, LDS and AFC, once the frame in progress has ended (R5). -/
theorem halted_values {w : State} (hw : w.SendingIsFetched) :
    let t := afcPathStop (abortFetch (storeStop w))
    let scan := w.afc.state = .coarse ∨ w.afc.state = .fine ∨ w.afc.state = .settle
    t.cst = { w.cst.stopped with fetch := w.abortedFetch, slots := w.cst.stopped.slots.map w.returnedSlot } ∧
    (w.cst.triggered = true → t.aec.program = .live ∧ t.aec.markDue = false) ∧
    (scan → t.afc.state = .idle ∧ t.afc.scan = none ∧ t.lds = ldsCancel w.lds .af ∧
      (¬ w.cst.passesAtStop → Cnd.AgreeAt condAfAborted t.cnd (cndRaise w.cnd condAfAborted)) ∧
      (w.cst.passesAtStop → Cnd.AgreeAt condAfAborted t.cnd w.cnd)) ∧
    (¬ scan → Cnd.AgreeAt condAfAborted t.cnd w.cnd ∧ t.lds = w.lds ∧
      t.afc.state = if w.cst.passesAtStop ∧ w.afc.state = .locked then .idle else w.afc.state) := by
  obtain ⟨x, hstop, hx, hafc, hlds, hcnd, haec⟩ := storeStop_eq w
  obtain ⟨c, habort, hfull⟩ := abortFetch_storeStop hw hstop hx
  have hc9 : Cnd.AgreeAt condAfAborted c (storeStop w).cnd := hfull _ (by decide)
  have hsafc : (abortFetch (storeStop w)).afc = (storeStop w).afc := by rw [habort]; rfl
  have hslds : (abortFetch (storeStop w)).lds = (storeStop w).lds := by rw [habort]; rfl
  have hscnd : (abortFetch (storeStop w)).cnd = c := by rw [habort]; rfl
  intro t scan
  refine ⟨?_, fun htrig => ?_, fun hscan => ?_, fun hscan => ?_⟩
  · exact (afcPathStop_cst _).trans (by rw [habort]; rfl)
  · have hstore : (storeStop w).FocusOnly x := by
      rw [hstop]
      split
      · exact afcS1Release_focus x
      · exact .refl x
    have habortAec : (abortFetch (storeStop w)).aec = (storeStop w).aec := by rw [habort]; rfl
    rw [(afcPathStop_focus _).aec, habortAec, hstore.aec]
    exact haec htrig
  · by_cases hp : w.cst.passesAtStop
    · rw [if_pos hp] at hstop
      obtain ⟨hst, hsc, hl, h9⟩ := afcS1Release_scan (s := x) (hafc ▸ hscan)
      rw [← hstop] at hst hsc hl h9
      have ht : t = abortFetch (storeStop w) := afcPathStop_noScan (by rw [hsafc, hst]; decide)
      rw [ht, hsafc, hslds, hscnd]
      exact ⟨hst, hsc, hlds ▸ hl, fun h => absurd hp h, fun _ => (hc9.trans h9).trans hcnd⟩
    · rw [if_neg hp] at hstop
      obtain ⟨hst, hsc, hl, h9⟩ := afcPathStop_scan (s := abortFetch (storeStop w)) (by rw [hsafc, hstop, hafc]; exact hscan)
      have hl' : (abortFetch (storeStop w)).lds = w.lds := by rw [hslds, hstop, hlds]
      rw [hl'] at hl
      rw [hscnd] at h9
      rw [hstop] at hc9
      exact ⟨hst, hsc, hl, fun _ => h9.trans ((hc9.trans hcnd).raise _), fun h => absurd h hp⟩
  · have hquiet (hsame : ¬ ((storeStop w).afc.state = .coarse ∨ (storeStop w).afc.state = .fine ∨
        (storeStop w).afc.state = .settle)) : t = abortFetch (storeStop w) := afcPathStop_noScan (by rw [hsafc]; exact hsame)
    by_cases hp : w.cst.passesAtStop
    · rw [if_pos hp] at hstop
      have hx' : ¬ (x.afc.state = .coarse ∨ x.afc.state = .fine ∨ x.afc.state = .settle) := by rw [hafc]; exact hscan
      obtain ⟨hst, hl, h9⟩ := afcS1Release_noScan (fun h => hx' (.inl h)) (fun h => hx' (.inr (.inl h)))
        (fun h => hx' (.inr (.inr h)))
      rw [← hstop] at hst hl h9
      have ht : t = abortFetch (storeStop w) := hquiet (by
        rw [hst, hafc]
        split
        · decide
        · exact hscan)
      rw [ht, hsafc, hslds, hscnd]
      refine ⟨(hc9.trans h9).trans hcnd, hl.trans hlds, hst.trans ?_⟩
      rw [hafc]
      exact if_congr (and_iff_right hp).symm rfl rfl
    · rw [if_neg hp] at hstop
      have ht : t = abortFetch (storeStop w) := hquiet (by rw [hstop, hafc]; exact hscan)
      rw [ht, hsafc, hslds, hscnd, hstop, hafc, hlds]
      rw [hstop] at hc9
      exact ⟨hc9.trans hcnd, rfl, (if_neg fun h => hp h.1).symm⟩

/-- What PATH_STOP leaves as the frame's end left it. -/
theorem halted_keeps {w : State} (hw : w.SendingIsFetched) :
    let t := afcPathStop (abortFetch (storeStop w))
    t.intake = w.intake ∧ t.stats = w.stats ∧ t.pxp = w.pxp ∧ t.lnk = w.lnk ∧ (∀ m, (t.lds.motor m).pos = (w.lds.motor m).pos) := by
  obtain ⟨x, hstop, hx, -⟩ := storeStop_eq w
  obtain ⟨c, habort, -⟩ := abortFetch_storeStop hw hstop hx
  have ha := afcPathStop_controls (abortFetch (storeStop w))
  have hs := storeStop_storeOnly w
  rw [habort] at ha ⊢
  refine ⟨ha.intake.trans hs.intake, ha.stats.trans hs.stats, ha.pxp.trans hs.pxp, ha.lnk.trans hs.lnk, fun m => ?_⟩
  cases m with
  | zoom => exact congrArg MotorState.pos (ha.zoom.trans hs.zoom)
  | focus => exact congrArg MotorState.pos (ha.focus.trans hs.focus)
  | iris => exact congrArg MotorState.pos (ha.iris.trans hs.iris)

end Sys2Proof.Machine
end

section
/-! SUPPORT. PATH_START and PATH_STOP (R4, R5): the machine from which the path stops, and each case of the statement. -/

namespace Sys2Proof.Machine

/-! ### A frame truncated by PATH_STOP -/

/-- Where no manual setting waits, AEC's work at a truncated EOF moves AEC and AE_SETTLED alone (R40, R53). -/
theorem aecEof_none_of_no_manual {s : State} (h : s.aec.manual = none) :
    ∃ a c, (aecEof s none).1 = (s.setAec a).setCnd c ∧ Cnd.AgreeAt condAfAborted c s.cnd := by
  have hself : ∃ a c, s = (s.setAec a).setCnd c ∧ Cnd.AgreeAt condAfAborted c s.cnd := ⟨s.aec, s.cnd, rfl, .refl ..⟩
  have hlevel (a : Aec) (b : Bool) : ∃ a' c, (s.setAec a).setCnd (cndSetLevel s.cnd condAeSettled b) = (s.setAec a').setCnd c ∧
      Cnd.AgreeAt condAfAborted c s.cnd := ⟨a, _, rfl, cndSetLevel_agreeAt_of_ne _ _ (by decide)⟩
  have hcopy : ∃ a c, captureCopy s = (s.setAec a).setCnd c ∧ Cnd.AgreeAt condAfAborted c s.cnd := by
    unfold captureCopy
    split
    · split
      · unfold aecJudgeRecords
        split
        iterate 2 exact ⟨issueRecord s.aec _, s.cnd, rfl, .refl ..⟩
        · exact ⟨_, _, rfl, cndSetLevel_agreeAt_of_ne _ _ (by decide)⟩
      · exact hself
    · exact hself
  unfold aecEof
  dsimp only
  split
  · exact hself
  · split
    · exact hself
    · rw [issueOff_none h]
      exact hcopy
    · exact hcopy
    · exact ⟨_, _, rfl, cndSetLevel_agreeAt_of_ne _ _ (by decide)⟩

/-- The machine once a frame in progress has ended truncated (R5). -/
def State.frameStopped (s : State) : State := if s.intake.mode = .inFrame then truncateFrame s .stopped else s

theorem frameStopped_withBuffer (s : State) (b : List BufferPlace) :
    (s.withBuffer b).frameStopped = s.frameStopped.withBuffer b :=
  ite_withBuffer Iff.rfl (truncateFrame_stopped_ignores s b) rfl

theorem unfilled_of_not_filling {x : Slot} (h : x.state ≠ .filling) : unfilled x = x := if_neg h

theorem map_unfilled_of_not_filling {slots : List Slot} (h : ∀ x ∈ slots, x.state ≠ .filling) : slots.map unfilled = slots :=
  (List.map_congr_left fun x hx => unfilled_of_not_filling (h x hx)).trans (List.map_id _)

/-- What the frame's end leaves in each block (R5, R9). -/
theorem frameStopped_values {s : State} (hs : s.intake.mode ≠ .inFrame → ∀ x ∈ s.cst.slots, x.state ≠ .filling) :
    let u := s.frameStopped
    { u.intake with mode := .stopped, timer := none } = ({ s.intake with mode := .stopped, timer := none } : Intake) ∧
    u.stats = { s.stats with measure := if s.intake.mode = .inFrame then none else s.stats.measure } ∧
    u.cst = { s.cst with slots := s.cst.slots.map unfilled } ∧ u.lnk = s.lnk ∧ u.pxp = s.pxp ∧
    (∀ m, (u.lds.motor m).pos = (s.lds.motor m).pos) := by
  intro u
  by_cases hm : s.intake.mode = .inFrame
  · obtain ⟨-, hstats, hintake, hpxp, hlnk⟩ := truncatedWork_mou_stats (s.setIntake { s.intake with mode := .waiting })
    have hu : u = truncatedWork (s.setIntake { s.intake with mode := .waiting }) := if_pos hm
    have hk := truncatedWork_controls (s.setIntake { s.intake with mode := .waiting })
    rw [hu, if_pos hm]
    refine ⟨by rw [hintake]; rfl, hstats, ?_, hlnk, hpxp, fun m => ?_⟩
    · rw [truncatedWork_eq rfl]
      rfl
    · rw [truncatedWork_eq rfl]
      cases m with
      | zoom => exact congrArg MotorState.pos hk.zoom
      | focus => exact congrArg MotorState.pos hk.focus
      | iris => exact congrArg MotorState.pos hk.iris
  · have hu : u = s := if_neg hm
    rw [hu, if_neg hm, map_unfilled_of_not_filling (hs hm)]
    exact ⟨rfl, rfl, rfl, rfl, rfl, fun _ => rfl⟩

/-- With no manual setting waiting, the frame's end leaves AFC's state, the lens drive and AF_ABORTED. -/
theorem frameStopped_of_no_manual {s : State} (h : s.aec.manual = none) :
    s.frameStopped.afc.state = s.afc.state ∧ s.frameStopped.lds = s.lds ∧
    s.frameStopped.cnd.condition condAfAborted = s.cnd.condition condAfAborted := by
  unfold State.frameStopped
  split
  · obtain ⟨a, c, hr, hc⟩ := aecEof_none_of_no_manual (s := cutShort (s.setIntake { s.intake with mode := .waiting })) h
    rw [truncateFrame_stopped, truncatedWork_eq hr]
    refine ⟨rfl, rfl, Eq.trans ?_ hc.1⟩
    change Cnd.condition (if _ then _ else _) _ = _
    split
    · exact (cndSetLevel_agreeAt_of_ne _ _ (by decide)).1
    · rfl
  · exact ⟨rfl, rfl, rfl⟩

/-! ### The path stopped -/

theorem not_filling_of_countState {slots : List Slot} (h : countState .filling slots = 0) : ∀ x ∈ slots, x.state ≠ .filling := by
  unfold countState at h
  rw [List.countP_eq_zero] at h
  exact fun x hx => by simpa using h x hx

theorem unfilled_unfilled (x : Slot) : unfilled (unfilled x) = unfilled x := unfilled_of_not_filling (unfilled_state_ne x)

/-- Every FILLING slot is FREE once the store has stopped, whether the frame's end or the store's freed it. -/
theorem stopped_slots_of_unfilled {c d : Cst} (h : d.slots = c.slots.map unfilled) : d.stopped.slots = c.slots.map unfilled := by
  unfold Cst.stopped
  dsimp only
  rw [h, List.map_map]
  split
  · rfl
  · exact List.map_congr_left fun x _ => unfilled_unfilled x

/-- A slot as PATH_STOP leaves it (R5, R144, R155, R158). -/
theorem returnedSlot_unfilled (s : State) (x : Slot) : s.returnedSlot (unfilled x) =
    if x.state = .filling then freed x else if x.state = .sending ∧ s.fetchAborts then returnedFrom s.cst x else x := by
  unfold unfilled
  split
  · exact if_neg fun h => SlotState.noConfusion h.1
  · rfl

theorem State.SlotsPartitioned.sendingIsFetched {s : State} (h : s.SlotsPartitioned) : s.SendingIsFetched :=
  fun i x hx hs => (h.2.2.2.1 i x hx hs).2

/-- The machine from which the path stops, its frame ended: INTAKE is STOPPED (R5). -/
def State.pathClosed (s : State) : State :=
  s.frameStopped.setIntake { s.frameStopped.intake with mode := .stopped, timer := none }

theorem pathHalted_eq (s : State) : pathHalted s = afcPathStop (abortFetch (storeStop s.pathClosed)) := rfl

/-- What PATH_STOP leaves in each block before it applies the commits, with any command buffer (R5). -/
theorem pathHalted_values {s : State} (hpart : s.SlotsPartitioned) (b : List BufferPlace) :
    let u := s.frameStopped
    let t := pathHalted (s.withBuffer b)
    let scan := u.afc.state = .coarse ∨ u.afc.state = .fine ∨ u.afc.state = .settle
    t.intake = { s.intake with mode := .stopped, timer := none } ∧
    t.stats = { s.stats with measure := if s.intake.mode = .inFrame then none else s.stats.measure } ∧
    t.cst = { s.cst.stopped with
      fetch := s.abortedFetch
      slots := s.cst.slots.map fun x => if x.state = .filling then freed x
        else if x.state = .sending ∧ s.fetchAborts then returnedFrom s.cst x else x } ∧
    (s.cst.triggered = true → t.aec.program = .live ∧ t.aec.markDue = false) ∧
    (scan → t.afc.state = .idle ∧ t.afc.scan = none ∧ t.lds = ldsCancel u.lds .af ∧
      (¬ s.cst.passesAtStop → Cnd.AgreeAt condAfAborted t.cnd (cndRaise u.cnd condAfAborted)) ∧
      (s.cst.passesAtStop → Cnd.AgreeAt condAfAborted t.cnd u.cnd)) ∧
    (¬ scan → Cnd.AgreeAt condAfAborted t.cnd u.cnd ∧ t.lds = u.lds ∧
      t.afc.state = if s.cst.passesAtStop ∧ u.afc.state = .locked then .idle else u.afc.state) ∧
    t.lnk = { s.lnk with buffer := b } ∧ t.pxp = s.pxp ∧ (∀ m, (t.lds.motor m).pos = (s.lds.motor m).pos) := by
  intro u t scan
  obtain ⟨hintake, hstats, hcst, hlnk, hpxp, hpos⟩ :=
    frameStopped_values fun hm => not_filling_of_countState (hpart.2.1 hm)
  have hw : (s.withBuffer b).pathClosed = (u.withBuffer b).setIntake { u.intake with mode := .stopped, timer := none } := by
    unfold State.pathClosed
    rw [frameStopped_withBuffer]
    rfl
  have ht : t = afcPathStop (abortFetch (storeStop (s.withBuffer b).pathClosed)) := rfl
  rw [hw] at ht
  generalize hwd : (u.withBuffer b).setIntake { u.intake with mode := .stopped, timer := none } = w at ht
  have hwcst : w.cst = { s.cst with slots := s.cst.slots.map unfilled } := by rw [← hwd]; exact hcst
  have hwlnk : w.lnk = { s.lnk with buffer := b } := by
    rw [← hwd, ← hlnk]
    rfl
  have hwfetch : w.cst.fetch = s.cst.fetch := by rw [hwcst]
  have haborts : w.fetchAborts ↔ s.fetchAborts := by
    rw [State.fetchAborts, hwfetch, hwlnk]
    rfl
  have hfetch : w.abortedFetch = s.abortedFetch := by
    unfold State.abortedFetch
    simp only [haborts, hwfetch]
  have hslots : w.cst.stopped.slots.map w.returnedSlot = s.cst.slots.map fun x => if x.state = .filling then freed x
        else if x.state = .sending ∧ s.fetchAborts then returnedFrom s.cst x else x := by
    rw [stopped_slots_of_unfilled (c := s.cst) (by rw [hwcst]), List.map_map]
    refine List.map_congr_left fun x _ => (returnedSlot_unfilled w x).trans ?_
    simp only [haborts, hwcst]
    rfl
  have hfetched : w.SendingIsFetched := fun i y hy hs => by
    rw [hwcst] at hy ⊢
    exact hpart.sendingIsFetched i y (getElem?_unfilled_sending hy hs) hs
  have hpass : w.cst.passesAtStop ↔ s.cst.passesAtStop := by rw [hwcst]
  have htriggered : w.cst.triggered = s.cst.triggered := by rw [hwcst]; rfl
  have hwafc : w.afc = u.afc := by rw [← hwd]; rfl
  have hwlds : w.lds = u.lds := by rw [← hwd]; rfl
  have hwcnd : w.cnd = u.cnd := by rw [← hwd]; rfl
  obtain ⟨hc, htrig, hscan, hno⟩ := halted_values hfetched
  obtain ⟨ki, kst, kp, kl, km⟩ := halted_keeps hfetched
  rw [← ht] at hc htrig hscan hno ki kst kp kl km
  rw [hfetch, hslots] at hc
  rw [htriggered] at htrig
  simp only [hwafc, hwlds, hwcnd, hpass] at hscan hno
  refine ⟨ki.trans ?_, kst.trans ?_, hc.trans ?_, htrig, hscan, hno, kl.trans hwlnk, kp.trans ?_, fun m => (km m).trans ?_⟩
  · rw [← hwd]
    exact hintake
  · rw [← hwd]
    exact hstats
  · rw [hwcst]
    rfl
  · rw [← hwd]
    exact hpxp
  · rw [hwlds]
    exact hpos m

/-! ### The commits applied, and the command answered -/

theorem foldl_applyCommit_aec (ids : List Nat) (s : State) : (ids.foldl applyCommit s).aec = s.aec := by
  have hone (u : State) (id : Nat) : (applyCommit u id).aec = u.aec := by
    unfold applyCommit
    split <;> rfl
  induction ids generalizing s with
  | nil => rfl
  | cons id ids ih => exact (ih _).trans (hone s id)

/-- New exposure tables clamp held settings and leave AEC's program and mark (R35). -/
theorem applyCommits_program (s : State) :
    (applyCommits s).aec.program = s.aec.program ∧ (applyCommits s).aec.markDue = s.aec.markDue := by
  have h := foldl_applyCommit_aec (List.range 14) s
  unfold applyCommits
  dsimp only
  generalize (List.range 14).foldl applyCommit s = u at h
  rw [← h]
  split <;> exact ⟨rfl, rfl⟩

/-- PATH_STOP outside STOPPED, at its turn: the path stops and the commits are applied (R5, R182). -/
theorem exec_pathStop_of_running {s : State} {tag : Tag} (h : s.turnOf (.pathStop tag (.args ()))) (hm : s.intake.mode ≠ .stopped) :
    exec (.pathStop tag (.args ())) s =
      .next ((applyCommits (pathHalted (s.withBuffer (takePlace tag s.lnk.buffer)))).setLnk
        (lnkAnswer (applyCommits (pathHalted (s.withBuffer (takePlace tag s.lnk.buffer)))).lnk tag 3 (answer .done))) := by
  have hstop : pathStop (s.setLnk (lnkTake s.lnk tag)) =
      (applyCommits (pathHalted (s.withBuffer (takePlace tag s.lnk.buffer))), answer .done) :=
    congrArg (·, answer .done) (if_neg hm)
  have hturn := hostCommand_of_turn tag 3 () (fun _ => pathStop) h
  rw [hstop] at hturn
  exact congrArg Host.Outcome.next hturn

theorem triggered_of_stops {c : Cst} (h : c.state = .gating ∨ (c.state = .capturing ∧ c.params.mode ≠ .stream)) :
    c.triggered = true := h.elim triggered_of_gating fun h => triggered_of_capturing h.1 h.2

/-- Settles O31: PATH_START by its block, PATH_STOP by pathHalted_values and what applying the commits leaves. -/
theorem pathStartsAndStops : Obligations.PathStartsAndStops := by
  refine ⟨fun s tag h hm => ?_, fun s tag h hm => ?_, fun s pixels hm => ⟨?_, ?_⟩, fun s hm => ?_, fun s tag h hm => ?_,
    fun s tag h hm hlen hpart => ?_⟩
  · exact congrArg Host.Outcome.next (hostCommand_replied h rfl (if_pos hm))
  · exact congrArg Host.Outcome.next (hostCommand_unchanged h (if_neg hm))
  · exact if_pos (by rw [hm]; decide)
  · exact exec_frameEnd_of_not (by rw [hm]; decide)
  · refine ⟨_, exec_frameStart_of_waiting hm, ?_⟩
    rw [(frameOpens_values s).1]
    rfl
  · exact congrArg Host.Outcome.next (hostCommand_unchanged h (congrArg (·, answer .done) (if_pos hm)))
  · obtain ⟨hintake, hstats, hcst, haec, hscan, hno, hlnk, hpxp, hpos⟩ :=
      pathHalted_values hpart (takePlace tag s.lnk.buffer)
    have htables := (pathHalted_keeps (s.withBuffer (takePlace tag s.lnk.buffer))).2.1
    have hexec := exec_pathStop_of_running h hm
    generalize pathHalted (s.withBuffer (takePlace tag s.lnk.buffer)) = w at *
    have hc := applyCommits_commitsOnly w
    have htable (k : Nat) := applyCommits_table (s := w) (by rw [htables]; exact hlen) k
    have h9 : Cnd.AgreeAt condAfAborted (applyCommits w).cnd w.cnd := applyCommits_agreeAt w (by decide)
    obtain ⟨hprog, hmark⟩ := applyCommits_program w
    intro aborts passes
    refine ⟨s.frameStopped, _, rfl, frameStopped_of_no_manual, hexec, hc.intake.trans hintake, hc.stats.trans hstats,
      ?_, ?_, fun htrig => ?_, fun hs => ?_, fun h1 h2 h3 => ?_, fun id => ?_, ?_, hc.pxp.trans hpxp, ?_, fun m => ?_⟩
    · exact (hc.cst.trans hcst).trans (by rw [State.setLnk_cst, hc.cst, hcst]; rfl)
    · exact (congrArg Cst.slots (hc.cst.trans hcst)).trans rfl
    · obtain ⟨hlive, hdue⟩ := haec (triggered_of_stops htrig)
      exact ⟨hprog.trans hlive, hmark.trans hdue⟩
    · obtain ⟨hst, hsc, hlds, hraised, hkept⟩ := hscan hs
      exact ⟨(congrArg Afc.state hc.afc).trans hst, (congrArg Afc.scan hc.afc).trans hsc, hc.lds.trans hlds,
        fun hp => (h9.trans (hraised hp)).1, fun hp => (h9.trans (hkept hp)).1⟩
    · obtain ⟨hkept, hlds, hst⟩ := hno (by tauto)
      exact ⟨(h9.trans hkept).1, hc.lds.trans hlds, (congrArg Afc.state hc.afc).trans hst⟩
    · refine (htable id).trans ?_
      have hid : w.table id = s.table id := by rw [State.table, htables]; rfl
      rw [hid]
      rfl
    · rw [State.setLnk_lnk, hc.link, hlnk]
      rfl
    · exact (congrArg Cst.dram (hc.cst.trans hcst)).trans rfl
    · exact (congrArg (fun l : Lds => (l.motor m).pos) hc.lds).trans (hpos m)

end Sys2Proof.Machine
end

section
/-! SUPPORT. What a reset leaves of the conditions, of the lens motors and of the slots (R80, R162, R172), and what applying
pending commits under RESET PIPELINE adds (R182, R185). -/

namespace Sys2Proof.Machine

/-! ### The commits applied (R182) -/

theorem State.lt_of_commitPending {s : State} {k : Nat} (h : (s.table k).commitPending = true) : k < s.lnk.tables.length := by
  by_contra hk
  rw [State.table, List.getD_eq_default _ _ (Nat.not_lt.1 hk)] at h
  exact Bool.noConfusion h

/-- Every table with a commit pending takes its pending copy, however many tables there are. -/
theorem applyCommits_table_of_lt {s : State} {k : Nat} (hk : k < 14) :
    (applyCommits s).table k = if (s.table k).commitPending = true then (s.table k).applied else s.table k := by
  rw [applyCommits_table_foldl, foldl_applyCommit_table _ List.nodup_range]
  exact if_congr ⟨fun h => h.2.2, fun h => ⟨List.mem_range.2 hk, State.lt_of_commitPending h, h⟩⟩ rfl rfl

/-- Applying a run of commits, each table once, raises TABLE_APPLIED once for each that was pending. -/
theorem foldl_applyCommit_cnd (ks : List Nat) (hks : ks.Nodup) (s : State) :
    (ks.foldl applyCommit s).cnd =
      ks.foldl (fun c k => if (s.table k).commitPending = true then cndRaise c condTableApplied else c) s.cnd := by
  induction ks generalizing s with
  | nil => rfl
  | cons j ks ih =>
    obtain ⟨hj, hks⟩ := List.nodup_cons.1 hks
    have hcnd : (applyCommit s j).cnd = if (s.table j).commitPending = true then cndRaise s.cnd condTableApplied else s.cnd := by
      unfold applyCommit
      split
      · rfl
      · rfl
    have hrest : ∀ k ∈ ks, (applyCommit s j).table k = s.table k := fun k hk => by
      rw [applyCommit_table, if_neg]
      rintro ⟨rfl, -⟩
      exact hj hk
    rw [List.foldl_cons, List.foldl_cons, ih hks, hcnd]
    exact List.foldl_ext _ _ _ fun c k hk => by rw [hrest k hk]

theorem applyCommits_cnd (s : State) : (applyCommits s).cnd =
    (List.range 14).foldl (fun c k => if (s.table k).commitPending = true then cndRaise c condTableApplied else c) s.cnd := by
  have h := foldl_applyCommit_cnd (List.range 14) List.nodup_range s
  unfold applyCommits
  dsimp only
  generalize (List.range 14).foldl applyCommit s = u at h
  rw [← h]
  split <;> rfl

/-- AEC holds no setting after a reset, so new exposure tables leave it (R35, R57). -/
theorem applyCommits_aecReset {s : State} {p : AeParams} {a : Aec} (h : s.aec = aecReset p a) :
    (applyCommits s).aec = aecReset p a := by
  have hfold := foldl_applyCommit_aec (List.range 14) s
  unfold applyCommits
  dsimp only
  generalize (List.range 14).foldl applyCommit s = u at hfold
  have hu := hfold.trans h
  split
  · exact (congrArg (aecClampTables · u.tIMax u.gAMax) hu).trans rfl
  · exact hu

theorem applyIfStopped_of_running {s : State} (h : s.intake.mode ≠ .stopped) : applyIfStopped s = s := if_neg h

section
variable (s : State)

theorem applyIfStopped_cnd : (applyIfStopped s).cnd = (List.range 14).foldl
    (fun c k => if (decide (s.intake.mode = .stopped) && (s.table k).commitPending) = true then cndRaise c condTableApplied else c)
    s.cnd := by
  unfold applyIfStopped
  split
  · next hm =>
    rw [applyCommits_cnd]
    simp only [hm, decide_true, Bool.true_and]
  · next hm =>
    simp only [hm, decide_false, Bool.false_and, Bool.false_eq_true, if_false]
    exact (List.foldl_fixed _).symm

theorem applyIfStopped_table_of_lt {k : Nat} (hk : k < 14) : (applyIfStopped s).table k =
    if (decide (s.intake.mode = .stopped) && (s.table k).commitPending) = true then (s.table k).applied else s.table k := by
  unfold applyIfStopped
  split
  · next hm =>
    rw [applyCommits_table_of_lt hk]
    simp only [hm, decide_true, Bool.true_and]
  · next hm =>
    simp only [hm, decide_false, Bool.false_and, Bool.false_eq_true, if_false]

theorem applyIfStopped_aecReset {p : AeParams} {a : Aec} (h : s.aec = aecReset p a) : (applyIfStopped s).aec = aecReset p a := by
  unfold applyIfStopped
  split
  · exact applyCommits_aecReset h
  · exact h

end

/-! ### The conditions after a reset (R172) -/

/-- After FULL, with SHIFT_FAULT and STORE_FULL false, every condition stands as after power-on reset. -/
theorem cndReset_full (c : Cnd) : cndReset true false false c = resetCnd := rfl

theorem keptByPipeline_eq_true {k : Nat} :
    keptByPipeline k = true ↔ k = condMoveDone ∨ k = condLensLost ∨ k = condLensFault ∨ k = condTableApplied := by
  simp [keptByPipeline]

/-- After PIPELINE the groups Lens and Tables stand; the latch of any other condition follows from its level (R172). -/
theorem conditionReset_pipeline (k : Nat) (fault full : Bool) (x : Condition) :
    conditionReset false (keptByPipeline k) (levelAfterReset fault full k) x =
      let level := (decide (k = condShiftFault) && fault) || (decide (k = condStoreFull) && full)
      let latch := decide (x.mode = .level) && level
      if k = condMoveDone ∨ k = condLensLost ∨ k = condLensFault ∨ k = condTableApplied then x
      else { x with latch := latch, count := if latch then 1 else 0, frames := 0, current := level, latchedLevel := level } :=
  (if_neg Bool.false_ne_true).trans (if_congr keptByPipeline_eq_true rfl rfl)

theorem storeFull_eq_all (slots : List Slot) : storeFull slots = slots.all fun y => decide (y.state ≠ .free) := by
  rw [storeFull, List.not_any_eq_all_not]
  exact congrArg slots.all (funext fun y => decide_not.symm)

/-! ### The lens motors after FULL (R80) -/

theorem moveInHand_eq_false {l : Lds} {m : Motor} :
    moveInHand l m = false ↔ (∀ x ∈ l.running, x.motor ≠ m) ∧ ∀ x ∈ l.stack, x.motor ≠ m := by
  cases hr : l.running with
  | none => simp [moveInHand, hr]
  | some x => simp [moveInHand, hr]

/-- A motor keeps its position; the position stays valid where no move of the motor was in hand, and that of the focus only
where the home position stands at its reset value. -/
theorem motorFull_valid (l : Lds) (m : Motor) : (motorFull l m).valid = true ↔ (l.motor m).valid = true ∧
    (∀ x ∈ l.running, x.motor ≠ m) ∧ (∀ x ∈ l.stack, x.motor ≠ m) ∧ (m = .focus → l.params.homePos = 256) := by
  have hvalid : (motorFull l m).valid = true ↔ (l.motor m).valid = true ∧ moveInHand l m = false ∧
      (m = .focus → l.params.homePos = 256) := by
    simp only [motorFull, Bool.and_eq_true, Bool.not_eq_true', Bool.and_eq_false_imp, decide_eq_true_eq, decide_eq_false_iff_not,
      not_not, and_assoc]
  rw [hvalid, moveInHand_eq_false, and_assoc]

theorem ldsFull_motor (l : Lds) (m : Motor) : (ldsFull l).motor m = motorFull l m := by cases m <;> rfl

/-! ### The store after a reset (R162) -/

theorem getD_map_freed {slots : List Slot} {f : Slot → Slot} (hf : f freeSlot = freeSlot) (i : Nat) :
    (slots.map f).getD i freeSlot = f (slots.getD i freeSlot) := by
  rw [List.getD_eq_getElem?_getD, List.getElem?_map, List.getD_eq_getElem?_getD]
  cases slots[i]? with
  | none => exact hf.symm
  | some x => rfl

/-- The slot of an aborted fetch is kept where it holds that fetch's frame. -/
theorem keptForAbort_eq_true {c : Cst} {i : Nat} : keptForAbort c i = true ↔
    (c.fetch.any fun f => f.aborted && decide (f.slot = i ∧ f.order = (c.slots.getD i freeSlot).order)) = true ∧
    ((c.slots.getD i freeSlot).state = .ready ∨ (c.slots.getD i freeSlot).state = .held) := by
  unfold keptForAbort
  cases c.fetch with
  | none => simp
  | some f =>
    simp only [Slot.inReadyList, Bool.and_eq_true, decide_eq_true_eq, Option.any_some]
    rw [eq_comm (a := (c.slots.getD i freeSlot).order)]
    tauto

/-- At most one slot is kept for an ABORT packet, so a slot is FREE after FULL (R141, R162). -/
theorem storeFull_slotsFull (c : Cst) : storeFull (slotsFull c) = false := by
  have hone {i j : Nat} (hi : keptForAbort c i = true) (hj : keptForAbort c j = true) : i = j := by
    obtain ⟨hi, -⟩ := keptForAbort_eq_true.1 hi
    obtain ⟨hj, -⟩ := keptForAbort_eq_true.1 hj
    cases hf : c.fetch with
    | none => simp [hf] at hi
    | some f =>
      simp only [hf, Option.any_some, Bool.and_eq_true, decide_eq_true_eq] at hi hj
      exact hi.2.1.symm.trans hj.2.1
  have hfree (i : Nat) (hi : i < 12) (hk : ¬ keptForAbort c i = true) : storeFull (slotsFull c) = false :=
    storeFull_eq_false (List.mem_map.2 ⟨i, List.mem_range.2 hi, if_neg hk⟩) rfl
  by_cases h0 : keptForAbort c 0 = true
  · exact hfree 1 (by decide) fun h1 => absurd (hone h0 h1) (by decide)
  · exact hfree 0 (by decide) h0

/-- A slot returned from SENDING, then emptied if FILLING: the slot it returns to was READY or HELD (R155, R162). -/
theorem unfilled_returnedSlot {s : State} {x : Slot} (h : x.state = .sending → x.before = .ready ∨ x.before = .held) :
    unfilled (s.returnedSlot x) = if x.state = .filling then freed x else s.returnedSlot x := by
  by_cases hx : x.state = .sending ∧ s.fetchAborts
  · have hreturned : s.returnedSlot x = returnedFrom s.cst x := if_pos hx
    have hnot : (returnedFrom s.cst x).state ≠ .filling := by
      unfold returnedFrom
      split
      · exact SlotState.noConfusion
      · rcases h hx.1 with hb | hb <;> exact fun hs => SlotState.noConfusion (hb.symm.trans hs)
    rw [unfilled_of_not_filling (hreturned ▸ hnot), if_neg fun hs => SlotState.noConfusion (hs.symm.trans hx.1)]
  · have hkept : s.returnedSlot x = x := if_neg hx
    rw [hkept]
    rfl

end Sys2Proof.Machine
end

section
/-! SUPPORT. RESET and RESET_COMPLETION (R184): the machine each scope leaves, whether the REPLY is built at once, and each case of
the statement. -/

namespace Sys2Proof.Machine

/-! ### The command (R184) -/

/-- The Link Interface once a RESET has been taken and l is what its scope left (R184). -/
def lnkAfterReset (ready : Bool) (tag : Tag) (kept : Bool) (l : Lnk) : Lnk :=
  if ready then { lnkAnswer l tag codeReset (answer .done) with resetWait := none } else { l with resetWait := some ⟨tag, kept⟩ }

theorem resetTaken_eq (full : Bool) (tag : Tag) (s : State) : resetTaken full tag s =
    (resetScope full s).setLnk
      (lnkAfterReset (resetReady (resetScope full s)) tag (!full && s.cnd.waiting) (resetScope full s).lnk) := by
  unfold resetTaken lnkAfterReset
  dsimp only
  generalize resetScope full s = r
  split <;> rfl

theorem exec_reset_of_turn {s : State} {tag : Tag} {n : Nat} (h : s.turnOf (.reset tag (.args n))) {full : Bool}
    (hn : resetScope? n = some full) :
    exec (.reset tag (.args n)) s = .next (resetTaken full tag (s.setLnk (lnkTake s.lnk tag))) := by
  have htaken : resetCommand (.reset tag (.args n)) tag (.args n) s = resetTaken full tag (s.setLnk (lnkTake s.lnk tag)) := by
    refine (if_pos h).trans ?_
    dsimp only
    rw [hn]
  exact congrArg Host.Outcome.next htaken

theorem exec_reset_refused {s : State} {tag : Tag} {n : Nat} (h : s.turnOf (.reset tag (.args n))) (hn : 1 < n) :
    exec (.reset tag (.args n)) s = .next (s.replied tag 40 (answer .refusedArg)) := by
  obtain ⟨k, rfl⟩ : ∃ k, n = k + 2 := ⟨n - 2, by omega⟩
  have hrefused : resetCommand (.reset tag (.args (k + 2))) tag (.args (k + 2)) s = s.replied tag 40 (answer .refusedArg) :=
    (if_pos h).trans rfl
  exact congrArg Host.Outcome.next hrefused

/-! ### What a RESET waits for (R184) -/

theorem resetReady_eq_true {s : State} : resetReady s = true ↔
    s.aec.bus = none ∧ s.cst.fetch = none ∧ stoppingMove s.lds = false ∧ s.lds.reference = none := by
  simp [resetReady, and_assoc]

theorem stoppingMove_eq_true {l : Lds} : stoppingMove l = true ↔ ∃ m, l.running = some m ∧ m.mute = true := by
  cases hr : l.running with
  | none => simp [stoppingMove, hr]
  | some m => simp [stoppingMove, hr]

/-- RESET_COMPLETION with a RESET waiting. -/
theorem exec_resetCompletion_of_wait {s : State} {w : ResetWait} (h : s.lnk.resetWait = some w) :
    exec .resetCompletion s = .next (if resetReady s = true then resetAnswered s w.tag else s) := by
  change Host.Outcome.next (resetCompletes s) = _
  rw [resetCompletes, h]

theorem exec_resetCompletion_of_none {s : State} (h : s.lnk.resetWait = none) : exec .resetCompletion s = .next s := by
  change Host.Outcome.next (resetCompletes s) = _
  rw [resetCompletes, h]

theorem exec_resetCompletion_of_not_ready {s : State} (h : ¬ resetReady s = true) : exec .resetCompletion s = .next s := by
  cases hw : s.lnk.resetWait with
  | none => exact exec_resetCompletion_of_none hw
  | some w => exact (exec_resetCompletion_of_wait hw).trans (congrArg Host.Outcome.next (if_neg h))

/-! ### The machine after each scope -/

/-- CST once the fetch in progress has been aborted (R158). -/
def State.abortedCst (s : State) : Cst := { s.cst with fetch := s.abortedFetch, slots := s.cst.slots.map s.returnedSlot }

/-- RESET FULL, block by block (R184). -/
theorem resetFull_blocks {s : State} (h : s.SendingIsFetched) : resetFull s =
    { s with
      intake := intakeFull s.intake, pxp := resetPxp, stats := resetStats, aec := aecReset resetAeParams s.aec
      lds := ldsFull s.lds, afc := resetAfc, zmc := resetZmc, mou := mouFull s.mou, cst := cstFull s.abortedCst
      lnk := lnkFull s.lnk, cnd := resetCnd } := by
  obtain ⟨c, hc, -⟩ := abortFetch_eq h
  unfold resetFull resetConditions
  dsimp only
  rw [hc]
  dsimp only [State.setCnd, State.setCst]
  have hfull : storeFull (cstFull s.abortedCst).slots = false := storeFull_slotsFull _
  have hcnd : cndReset true (mouFull s.mou).fault (storeFull (cstFull s.abortedCst).slots) s.cnd = resetCnd := by
    rw [hfull]
    exact cndReset_full s.cnd
  exact congrArg (fun d => ({ s with
      intake := intakeFull s.intake, pxp := resetPxp, stats := resetStats, aec := aecReset resetAeParams s.aec
      lds := ldsFull s.lds, afc := resetAfc, zmc := resetZmc, mou := mouFull s.mou, cst := cstFull s.abortedCst
      lnk := lnkFull s.lnk, cnd := d } : State)) hcnd

/-- RESET PIPELINE, block by block, before pending commits are applied (R184). -/
theorem pipelineHalted_blocks {s : State} (h : s.SendingIsFetched) : pipelineHalted s =
    { s with
      intake := intakePipeline s.intake, pxp := pxpReset s.intake.geometry, stats := statsPipeline s.stats
      aec := aecReset s.aec.params s.aec, lds := ldsPipeline s.lds, afc := afcPipeline s.afc, zmc := zmcPipeline s.zmc
      mou := mouPipeline s.mou, cst := cstPipeline s.abortedCst
      cnd := cndReset false s.mou.fault (storeFull (cstPipeline s.abortedCst).slots) s.cnd } := by
  obtain ⟨c, hc, -⟩ := abortFetch_eq h
  unfold pipelineHalted
  dsimp only
  rw [hc]
  rfl

end Sys2Proof.Machine
end

section
/-! PROOF of the statement on RESET (R184): FULL, PIPELINE and the completion, each from the machine its scope leaves. -/

namespace Sys2Proof.Machine

@[simp] theorem lnkAfterReset_tables (b : Bool) (tag : Tag) (kept : Bool) (l : Lnk) :
    (lnkAfterReset b tag kept l).tables = l.tables := by cases b <;> rfl

@[simp] theorem lnkAfterReset_sending (b : Bool) (tag : Tag) (kept : Bool) (l : Lnk) :
    (lnkAfterReset b tag kept l).sending = l.sending := by cases b <;> rfl

theorem lnkAfterReset_decide (p : Prop) [Decidable p] (tag : Tag) (kept : Bool) (l : Lnk) : lnkAfterReset (decide p) tag kept l =
    if p then { lnkAnswer l tag codeReset (answer .done) with resetWait := none } else { l with resetWait := some ⟨tag, kept⟩ } :=
  if_congr decide_eq_true_iff rfl rfl

theorem busAfterReset_eq_none {b : Option BusItem} : busAfterReset b = none ↔ b = none := Option.map_eq_none_iff

/-- A table after FULL: a pending commit is dropped (R185). -/
theorem table_lnkFull (s : State) (k : Nat) :
    (lnkFull s.lnk).tables.getD k resetTable = { s.table k with commitPending := false } := by
  rw [lnkFull, State.table, List.getD_eq_getElem?_getD, List.getElem?_map, List.getD_eq_getElem?_getD]
  cases s.lnk.tables[k]? <;> rfl

/-- A RECORD packet being sent at FULL marks no slot (R184). -/
theorem sendingFull_eq (p : Sending) :
    sendingFull p = { p with atEnd := match p.atEnd with | .record _ _ => .nothing | e => e } := by
  obtain ⟨bytes, e⟩ := p
  cases e <;> rfl

theorem slotsFull_abortedCst (s : State) : slotsFull s.abortedCst = (List.range 12).map fun i =>
    let x := s.returnedSlot (s.cst.slots.getD i freeSlot)
    if ((s.abortedFetch).any fun f => f.aborted && decide (f.slot = i ∧ f.order = x.order)) = true ∧
        (x.state = .ready ∨ x.state = .held)
    then x else freeSlot := by
  refine List.map_congr_left fun i _ => ?_
  have hslot : s.abortedCst.slots.getD i freeSlot = s.returnedSlot (s.cst.slots.getD i freeSlot) :=
    getD_map_freed (f := s.returnedSlot) (if_neg fun h => SlotState.noConfusion h.1) i
  have hfetch : s.abortedCst.fetch = s.abortedFetch := rfl
  dsimp only
  rw [← hslot, ← hfetch]
  exact if_congr keptForAbort_eq_true rfl rfl

/-- The slots after PIPELINE (R162): a FILLING slot is emptied, a SENDING one of an aborted fetch returns. -/
theorem slots_cstPipeline {s : State} (h : s.SlotsPartitioned) : (cstPipeline s.abortedCst).slots =
    s.cst.slots.map fun x => if x.state = .filling then freed x else s.returnedSlot x := by
  refine (List.map_map ..).trans (List.map_congr_left fun x hx => unfilled_returnedSlot fun hs => ?_)
  obtain ⟨i, hi⟩ := List.mem_iff_getElem?.1 hx
  exact (h.2.2.2.1 i x hi hs).1

/-- What FULL leaves, and whether its REPLY is built at once (R184). -/
theorem exec_reset_full {s : State} {tag : Tag} (h : s.turnOf (.reset tag (.args 1))) (hpart : s.SlotsPartitioned) :
    exec (.reset tag (.args 1)) s = .next
      { s with
        intake := intakeFull s.intake, pxp := resetPxp, stats := resetStats, aec := aecReset resetAeParams s.aec
        lds := ldsFull s.lds, afc := resetAfc, zmc := resetZmc, mou := mouFull s.mou, cst := cstFull s.abortedCst, cnd := resetCnd
        lnk := lnkAfterReset (decide (s.aec.bus = none ∧ s.abortedFetch = none)) tag false (lnkFull (lnkTake s.lnk tag)) } := by
  have hblocks := resetFull_blocks (s := s.setLnk (lnkTake s.lnk tag)) hpart.sendingIsFetched
  have hready : resetReady (resetFull (s.setLnk (lnkTake s.lnk tag))) = decide (s.aec.bus = none ∧ s.abortedFetch = none) := by
    rw [Bool.eq_iff_iff, decide_eq_true_iff, hblocks, resetReady_eq_true]
    have hbus : busAfterReset s.aec.bus = none ↔ s.aec.bus = none := busAfterReset_eq_none
    have hfetch : (cstFull s.abortedCst).fetch = none ↔ s.abortedFetch = none := Option.map_eq_none_iff
    exact ⟨fun ⟨h1, h2, _, _⟩ => ⟨hbus.1 h1, hfetch.1 h2⟩, fun ⟨h1, h2⟩ => ⟨hbus.2 h1, hfetch.2 h2, rfl, rfl⟩⟩
  refine (exec_reset_of_turn h (full := true) rfl).trans (congrArg Host.Outcome.next ?_)
  rw [resetTaken_eq]
  have hscope : resetScope true (s.setLnk (lnkTake s.lnk tag)) = resetFull (s.setLnk (lnkTake s.lnk tag)) := rfl
  rw [hscope, hready, hblocks]
  rfl

/-- The machine PIPELINE leaves, its commits applied, before the Link Interface answers (R184, R185). -/
def State.pipelined (s : State) (tag : Tag) : State := applyIfStopped (pipelineHalted (s.setLnk (lnkTake s.lnk tag)))

theorem exec_reset_pipeline {s : State} {tag : Tag} (h : s.turnOf (.reset tag (.args 0))) :
    exec (.reset tag (.args 0)) s = .next ((s.pipelined tag).setLnk
      (lnkAfterReset (resetReady (s.pipelined tag)) tag s.cnd.waiting (s.pipelined tag).lnk)) := by
  refine (exec_reset_of_turn h (full := false) rfl).trans (congrArg Host.Outcome.next ?_)
  rw [resetTaken_eq]
  rfl

/-- What PIPELINE leaves in each block (R184), pending commits applied where INTAKE stays STOPPED (R185). -/
theorem pipelined_values {s : State} (hpart : s.SlotsPartitioned) (tag : Tag) :
    let a := s.pipelined tag
    let applies := fun k => decide (s.intake.mode = .stopped) && (s.table k).commitPending
    a.intake = intakePipeline s.intake ∧ a.pxp = pxpReset s.intake.geometry ∧ a.stats = statsPipeline s.stats ∧
    a.aec = aecReset s.aec.params s.aec ∧ a.lds = ldsPipeline s.lds ∧ a.afc = afcPipeline s.afc ∧ a.zmc = zmcPipeline s.zmc ∧
    a.mou = mouPipeline s.mou ∧ a.cst = cstPipeline s.abortedCst ∧
    a.cnd = (List.range 14).foldl (fun c k => if applies k = true then cndRaise c condTableApplied else c)
      (cndReset false s.mou.fault (storeFull (cstPipeline s.abortedCst).slots) s.cnd) ∧
    (∀ k < 14, a.table k = if applies k = true then (s.table k).applied else s.table k) ∧
    (s.intake.mode ≠ .stopped → a.lnk.tables = s.lnk.tables) ∧ a.choices = s.choices ∧ a.pending = s.pending ∧
    a.lnk = { lnkTake s.lnk tag with tables := a.lnk.tables } := by
  intro a applies
  have ha : a = applyIfStopped (pipelineHalted (s.setLnk (lnkTake s.lnk tag))) := rfl
  rw [pipelineHalted_blocks (s := s.setLnk (lnkTake s.lnk tag)) hpart.sendingIsFetched] at ha
  generalize hr : ({ s.setLnk (lnkTake s.lnk tag) with
      intake := _, pxp := _, stats := _, aec := _, lds := _, afc := _, zmc := _, mou := _, cst := _, cnd := _ } : State) = r at ha
  have hc : a.CommitsOnly r := ha ▸ applyIfStopped_commitsOnly r
  have hmode : r.intake.mode = .stopped ↔ s.intake.mode = .stopped := by
    rw [← hr]
    exact pipelineMode_eq_stopped
  have htable (k : Nat) : r.table k = s.table k := by rw [← hr]; rfl
  refine ⟨hc.intake.trans (by rw [← hr]; rfl), hc.pxp.trans (by rw [← hr]; rfl), hc.stats.trans (by rw [← hr]; rfl), ?_,
    hc.lds.trans (by rw [← hr]; rfl), hc.afc.trans (by rw [← hr]; rfl), hc.zmc.trans (by rw [← hr]; rfl),
    hc.mou.trans (by rw [← hr]; rfl), hc.cst.trans (by rw [← hr]; rfl), ?_, fun k hk => ?_, fun hm => ?_,
    hc.choices.trans (by rw [← hr]; rfl), hc.pending.trans (by rw [← hr]; rfl), hc.link.trans (by rw [← hr]; rfl)⟩
  · rw [ha]
    exact applyIfStopped_aecReset r (by rw [← hr]; rfl)
  · rw [ha, applyIfStopped_cnd]
    simp only [hmode, htable]
    rw [← hr]
    rfl
  · rw [ha, applyIfStopped_table_of_lt r hk]
    simp only [hmode, htable]
    rfl
  · rw [ha, applyIfStopped_of_running (mt hmode.1 hm), ← hr]
    rfl

theorem pipelineMode_eq (m : IntakeMode) : pipelineMode m = if m = .stopped then .stopped else .waiting := by cases m <;> rfl

theorem State.setLnk_table_of_tables {s : State} {l : Lnk} (h : l.tables = s.lnk.tables) (k : Nat) :
    (s.setLnk l).table k = s.table k := congrArg (fun ts : List Table => ts.getD k resetTable) h

/-- The conditions after PIPELINE, written out (R172). -/
def pipelineCondition (s : State) (slots : List Slot) (k : Nat) : Condition :=
  let x := s.cnd.condition k
  let level := (decide (k = condShiftFault) && s.mou.fault) ||
    (decide (k = condStoreFull) && slots.all fun y => decide (y.state ≠ .free))
  let latch := decide (x.mode = .level) && level
  if k = condMoveDone ∨ k = condLensLost ∨ k = condLensFault ∨ k = condTableApplied then x
  else { x with latch := latch, count := if latch then 1 else 0, frames := 0, current := level, latchedLevel := level }

theorem cndReset_pipeline {slots slots' : List Slot} (h : slots = slots') (s : State) :
    cndReset false s.mou.fault (storeFull slots) s.cnd = ⟨(List.range 25).map (pipelineCondition s slots'), s.cnd.waiting⟩ := by
  refine congrArg (Cnd.mk · s.cnd.waiting) (List.map_congr_left fun k _ => ?_)
  rw [h, storeFull_eq_all]
  exact conditionReset_pipeline k _ _ _

/-- PIPELINE marks the running move for stop, so RESET waits for any that runs (R81, R184). -/
theorem stoppingMove_ldsPipeline {l : Lds} : stoppingMove (ldsPipeline l) = false ↔ l.running = none := by
  rw [Bool.eq_false_iff, ne_eq, stoppingMove_eq_true]
  cases hr : l.running with
  | none => simp [ldsPipeline, hr]
  | some m => simp [ldsPipeline, hr]

theorem resetReady_pipeline {s a : State} {p : AeParams} (haec : a.aec = aecReset p s.aec) (hcst : a.cst = cstPipeline s.abortedCst)
    (hlds : a.lds = ldsPipeline s.lds) : resetReady a = true ↔
      s.aec.bus = none ∧ s.abortedFetch = none ∧ s.lds.running = none ∧ s.lds.reference = none := by
  have hbus : a.aec.bus = none ↔ s.aec.bus = none := by
    rw [haec]
    exact busAfterReset_eq_none
  have hreference : a.lds.reference = none ↔ s.lds.reference = none := by
    rw [hlds]
    exact Option.map_eq_none_iff
  have hfetch : a.cst.fetch = s.abortedFetch := by
    rw [hcst]
    rfl
  rw [resetReady_eq_true, hbus, hreference, hfetch, hlds, stoppingMove_ldsPipeline]

/-- Settles O60: resetFull_blocks and pipelineHalted_blocks with what the Link Interface then holds. -/
theorem resetsLeaveTheirValues : Obligations.ResetsLeaveTheirValues := by
  unfold Obligations.ResetsLeaveTheirValues
  intro aborts fetch returned bus
  refine ⟨fun s tag n h hn => exec_reset_refused h hn, fun s tag h hpart => ?_, fun s tag h hpart => ?_,
    fun s h => exec_resetCompletion_of_none h, fun s h => exec_resetCompletion_of_not_ready ?_, fun s w hw hbus hfetch href hrun => ?_⟩
  · refine ⟨_, exec_reset_full h hpart, rfl, rfl, rfl, rfl, rfl, rfl, rfl, fun m => ⟨?_, ?_⟩, rfl, ?_, rfl, rfl, rfl, fun k => ?_, ?_, ?_⟩
    · have hpos := congrArg MotorState.pos (ldsFull_motor s.lds m)
      exact hpos
    · have hvalid := motorFull_valid s.lds m
      rw [← ldsFull_motor] at hvalid
      exact hvalid
    · have hslots := slotsFull_abortedCst s
      exact congrArg (fun slots => { cstFull s.abortedCst with slots := slots }) hslots
    · rw [State.table, lnkAfterReset_tables]
      exact table_lnkFull s k
    · rw [lnkAfterReset_sending]
      exact congrArg (s.lnk.sending.map ·) (funext sendingFull_eq)
    · refine (lnkAfterReset_decide ..).trans (if_congr Iff.rfl ?_ ?_)
      · rw [lnkAfterReset_tables, lnkAfterReset_sending]
        rfl
      · rw [lnkAfterReset_tables, lnkAfterReset_sending]
        rfl
  · intro slots conditions applies
    obtain ⟨hintake, hpxp, hstats, haec, hlds, hafc, hzmc, hmou, hcst, hcnd, htable, htables, hchoices, hpending, hlnk⟩ :=
      pipelined_values hpart tag
    have hslots := slots_cstPipeline hpart
    have hready : resetReady (s.pipelined tag) = decide (s.aec.bus = none ∧ s.abortedFetch = none ∧ s.lds.running = none ∧
        s.lds.reference = none) := by
      rw [Bool.eq_iff_iff, decide_eq_true_iff]
      exact resetReady_pipeline haec hcst hlds
    refine ⟨_, exec_reset_pipeline h, ?_, hpxp, hstats, haec, hlds, hafc, hzmc, hmou, ?_, ?_, fun k hk => ?_, fun hm => ?_, hchoices,
      hpending, ?_⟩
    · exact hintake.trans (congrArg (fun m => { intakePipeline s.intake with mode := m }) (pipelineMode_eq _))
    · exact hcst.trans (congrArg (fun l => { cstPipeline s.abortedCst with slots := l }) hslots)
    · rw [cndReset_pipeline hslots] at hcnd
      exact hcnd
    · exact (State.setLnk_table_of_tables (lnkAfterReset_tables ..) k).trans (htable k hk)
    · exact (lnkAfterReset_tables ..).trans (htables hm)
    · rw [State.setLnk_lnk, lnkAfterReset_tables, hready, lnkAfterReset_decide, hlnk]
      rfl
  · rw [resetReady_eq_true]
    rintro ⟨hbus, hfetch, hmove, href⟩
    rcases h with h | h | h | h
    · simp [hbus] at h
    · simp [hfetch] at h
    · simp [href] at h
    · rw [stoppingMove_eq_true.2 h] at hmove
      exact Bool.noConfusion hmove
  · have hmove : stoppingMove s.lds = false := by
      rw [Bool.eq_false_iff, ne_eq, stoppingMove_eq_true]
      rintro ⟨m, hm, hmute⟩
      rw [hrun m hm] at hmute
      exact Bool.noConfusion hmute
    exact (exec_resetCompletion_of_wait hw).trans
      (congrArg Host.Outcome.next (if_pos (resetReady_eq_true.2 ⟨hbus, hfetch, hmove, href⟩)))

end Sys2Proof.Machine
end

section
/-! SUPPORT. Sums over the lines of a frame, and a line's pixels and cells by their places (R19, R24). -/

namespace Sys2Proof.Machine

/-! ### Sums over successive lines -/

/-- Only the terms of an interval count, taken from its start. -/
theorem sum_range_interval (f : Nat → Nat) {a b n : Nat} (h : ∀ v < b, a + v < n) :
    ((List.range n).map fun y => if a ≤ y ∧ y < a + b then f y else 0).sum = ((List.range b).map fun v => f (a + v)).sum := by
  obtain rfl | hb := Nat.eq_zero_or_pos b
  · exact List.sum_eq_zero fun x hx => by
      obtain ⟨y, -, rfl⟩ := List.mem_map.1 hx
      exact if_neg (by omega)
  have hlast := h (b - 1) (by omega)
  obtain ⟨c, rfl⟩ := Nat.exists_eq_add_of_le (show a + b ≤ n by omega)
  have hbelow : ((List.range a).map fun y => if a ≤ y ∧ y < a + b then f y else 0).sum = 0 :=
    List.sum_eq_zero fun x hx => by
      obtain ⟨y, hy, rfl⟩ := List.mem_map.1 hx
      exact if_neg (by have := List.mem_range.1 hy; omega)
  have hinside : ((List.range b).map fun v => if a ≤ a + v ∧ a + v < a + b then f (a + v) else 0) =
      (List.range b).map fun v => f (a + v) :=
    List.map_congr_left fun v hv => if_pos (by have := List.mem_range.1 hv; omega)
  simp only [List.range_add, List.map_append, List.map_map, List.sum_append, Function.comp_def, hbelow, hinside]
  simp [Nat.add_assoc]

/-- The terms of the odd lines alone, one per pair of lines. -/
theorem sum_range_odd (g : Nat → Nat) (n : Nat) :
    ((List.range (2 * n)).map fun v => if v % 2 = 1 then g (v / 2) else 0).sum = ((List.range n).map g).sum := by
  induction n with
  | zero => rfl
  | succ n ih =>
    have hhalf : (2 * n + 1) / 2 = n := by omega
    rw [show 2 * (n + 1) = 2 * n + 1 + 1 by ring, List.range_succ, List.range_succ, List.range_succ]
    simp [ih, hhalf, Nat.add_mod]

/-- The cell rows of an interval of lines, each row added at its odd line (R19). -/
theorem sum_range_cellRows (g : Nat → Nat) {a b n : Nat} (h : ∀ v < 2 * b, 2 * a + v < n) :
    ((List.range n).map fun y => if 2 * a ≤ y ∧ y < 2 * a + 2 * b then if y % 2 = 1 then g (y / 2) else 0 else 0).sum =
      ((List.range b).map fun v => g (a + v)).sum := by
  rw [sum_range_interval (fun y => if y % 2 = 1 then g (y / 2) else 0) h, ← sum_range_odd fun v => g (a + v)]
  refine congrArg List.sum (List.map_congr_left fun v _ => ?_)
  rw [Nat.mul_add_mod, Nat.mul_add_div Nat.two_pos]

/-! ### Pixels and cells of a line -/

theorem segment_eq_map {xs : List Nat} {start n : Nat} {f : Nat → Nat} (h : ∀ i < n, xs[start + i]? = some (f i)) :
    segment xs start n = (List.range n).map f := by
  refine List.ext_getElem? fun i => ?_
  by_cases hi : i < n
  · rw [getElem?_segment _ _ _ _ hi, h i hi, List.getElem?_map, List.getElem?_range hi]
    rfl
  · have := length_segment_le xs start n
    rw [List.getElem?_eq_none (by omega), List.getElem?_eq_none (by simpa using hi)]

theorem getElem?_eq_some_getD {xs : List Nat} {i : Nat} (h : i < xs.length) : xs[i]? = some (xs.getD i 0) := by
  rw [List.getD_eq_getElem?_getD, List.getElem?_eq_getElem h]
  rfl

/-- A segment that lies within its line. -/
theorem segment_eq_map_getD {xs : List Nat} {start n : Nat} (h : start + n ≤ xs.length) :
    segment xs start n = (List.range n).map fun i => xs.getD (start + i) 0 :=
  segment_eq_map fun _ _ => getElem?_eq_some_getD (by omega)

theorem getElem?_evens : ∀ (xs : List Nat) (j : Nat), (evens xs)[j]? = xs[2 * j]?
  | [], _ => by simp [evens]
  | [_], 0 => rfl
  | [_], j + 1 => by simp [evens, Nat.mul_add]
  | _ :: _ :: _, 0 => rfl
  | _ :: _ :: rest, j + 1 => getElem?_evens rest j

/-- R24: the green pixels are those at odd places of an even line, at even places of an odd one. -/
theorem getElem?_greens (y : Nat) (xs : List Nat) (j : Nat) :
    (greens y xs)[j]? = xs[2 * j + (if y % 2 = 0 then 1 else 0)]? := by
  unfold greens
  split
  · rw [getElem?_evens, List.getElem?_tail]
  · exact getElem?_evens xs j

theorem greens_map_range (y n : Nat) (f : Nat → Nat) :
    greens y ((List.range (2 * n)).map f) = (List.range n).map fun j => f (2 * j + (if y % 2 = 0 then 1 else 0)) := by
  refine List.ext_getElem? fun j => ?_
  rw [getElem?_greens, List.getElem?_map, List.getElem?_map]
  by_cases hj : j < n
  · rw [List.getElem?_range (by split <;> omega), List.getElem?_range hj]
    rfl
  · rw [List.getElem?_eq_none (by rw [List.length_range]; omega), List.getElem?_eq_none (by simpa using hj)]
    rfl

theorem figureTerms_eq_zipWith (noise : Nat) : ∀ xs : List Nat,
    figureTerms noise xs = List.zipWith (fun a b => distance a b - noise) xs xs.tail
  | [] => rfl
  | [_] => rfl
  | a :: b :: rest => congrArg ((distance a b - noise) :: ·) (figureTerms_eq_zipWith noise (b :: rest))

/-- R24: successive pixels give one term fewer than there are pixels. -/
theorem figureTerms_map_range (noise n : Nat) (g : Nat → Nat) :
    figureTerms noise ((List.range n).map g) = (List.range (n - 1)).map fun j => distance (g j) (g (j + 1)) - noise := by
  rw [figureTerms_eq_zipWith]
  refine List.ext_getElem? fun j => ?_
  rw [List.getElem?_zipWith, List.getElem?_tail, List.getElem?_map, List.getElem?_map, List.getElem?_map]
  by_cases hj : j < n - 1
  · rw [List.getElem?_range hj, List.getElem?_range (by omega), List.getElem?_range (by omega)]
    rfl
  · rw [List.getElem?_eq_none (l := List.range n) (i := j + 1) (by simp; omega),
      List.getElem?_eq_none (l := List.range (n - 1)) (by simpa using hj)]
    cases Option.map g (List.range n)[j]? <;> rfl

theorem distance_comm (a b : Nat) : distance a b = distance b a := by
  unfold distance
  rw [Nat.max_comm, Nat.min_comm]

theorem getElem?_pairSums : ∀ (xs : List Nat) (u : Nat), 2 * u + 1 < xs.length →
    (pairSums xs)[u]? = some (xs.getD (2 * u) 0 + xs.getD (2 * u + 1) 0)
  | [], _, h => by simp at h
  | [_], _, h => by simp at h
  | _ :: _ :: _, 0, _ => rfl
  | _ :: _ :: rest, u + 1, h => getElem?_pairSums rest u (by simp only [List.length_cons] at h; omega)

theorem le_length_getD {lines : List (List Nat)} {n y : Nat} (hlen : ∀ l ∈ lines, n ≤ l.length) (hy : y < lines.length) :
    n ≤ (lines.getD y []).length := by
  rw [List.getD_eq_getElem _ _ hy]
  exact hlen _ (List.getElem_mem hy)

/-- The cell values that line y of a frame completes: none on an even line (R19). -/
def lineCells (lines : List (List Nat)) (y : Nat) : List Nat :=
  if y % 2 = 1 then cellValues (pairSums (lines.getD (y - 1) [])) (pairSums (lines.getD y [])) else []

theorem getElem?_lineCells {lines : List (List Nat)} {n y u : Nat} (hlen : ∀ l ∈ lines, n ≤ l.length)
    (hy : y < lines.length) (hodd : y % 2 = 1) (hu : 2 * u + 1 < n) :
    (lineCells lines y)[u]? = some (cellValueOf lines u (y / 2)) := by
  have hlong (k : Nat) (hk : k < lines.length) := hu.trans_le (le_length_getD hlen hk)
  rw [lineCells, if_pos hodd, cellValues, List.getElem?_zipWith, getElem?_pairSums _ _ (hlong _ (by omega)),
    getElem?_pairSums _ _ (hlong y hy), cellValueOf, show 2 * (y / 2) = y - 1 by omega, show y - 1 + 1 = y by omega]
  simp [Nat.add_assoc]

/-- The cells of a segment of a line's cells. -/
theorem sum_segment_lineCells {lines : List (List Nat)} {n y start k : Nat} (hlen : ∀ l ∈ lines, n ≤ l.length)
    (hy : y < lines.length) (hk : ∀ i < k, 2 * (start + i) + 1 < n) :
    (segment (lineCells lines y) start k).sum =
      if y % 2 = 1 then ((List.range k).map fun u => cellValueOf lines (start + u) (y / 2)).sum else 0 := by
  split
  · next hodd => rw [segment_eq_map fun i hi => getElem?_lineCells hlen hy hodd (hk i hi)]
  · next heven => simp [lineCells, heven, segment]

end Sys2Proof.Machine
end

section
/-! PROOF of the statement on a frame's measurement (R17 to R25): each sum after any number of lines, then at the end. -/

namespace Sys2Proof.Machine

/-! ### The measurement after some lines -/

/-- The measurement once the first so many lines of a frame have joined it. -/
def measureFirst (m : Measurement) (lines : List (List Nat)) : Nat → Measurement
  | 0 => m
  | y + 1 => measureLine (measureFirst m lines y) y (lines.getD y [])

theorem foldl_measureLine_take (m : Measurement) (lines : List (List Nat)) {k : Nat} (hk : k ≤ lines.length) :
    (lines.take k).zipIdx.foldl (fun n l => measureLine n l.2 l.1) m = measureFirst m lines k := by
  induction k with
  | zero => rfl
  | succ k ih =>
    rw [List.take_succ_eq_append_getElem hk, List.zipIdx_append, List.foldl_append, ih (by omega), measureFirst,
      List.getD_eq_getElem _ _ hk]
    simp [Nat.min_eq_left (Nat.le_of_succ_le hk)]

theorem foldl_measureLine (m : Measurement) (lines : List (List Nat)) :
    lines.zipIdx.foldl (fun n l => measureLine n l.2 l.1) m = measureFirst m lines lines.length := by
  rw [← foldl_measureLine_take m lines le_rfl, List.take_length]

/-- The lines leave the copies taken at the SOF as they are (R17). -/
theorem measureFirst_copies (m : Measurement) (lines : List (List Nat)) (k : Nat) :
    (measureFirst m lines k).zw = m.zw ∧ (measureFirst m lines k).zh = m.zh ∧ (measureFirst m lines k).clip = m.clip ∧
    (measureFirst m lines k).noise = m.noise ∧ (measureFirst m lines k).windows = m.windows := by
  induction k with
  | zero => exact ⟨rfl, rfl, rfl, rfl, rfl⟩
  | succ k ih => exact ih

@[simp] theorem measureFirst_zw (m : Measurement) (lines : List (List Nat)) (k : Nat) :
    (measureFirst m lines k).zw = m.zw := (measureFirst_copies m lines k).1

@[simp] theorem measureFirst_zh (m : Measurement) (lines : List (List Nat)) (k : Nat) :
    (measureFirst m lines k).zh = m.zh := (measureFirst_copies m lines k).2.1

@[simp] theorem measureFirst_clip (m : Measurement) (lines : List (List Nat)) (k : Nat) :
    (measureFirst m lines k).clip = m.clip := (measureFirst_copies m lines k).2.2.1

@[simp] theorem measureFirst_noise (m : Measurement) (lines : List (List Nat)) (k : Nat) :
    (measureFirst m lines k).noise = m.noise := (measureFirst_copies m lines k).2.2.2.1

@[simp] theorem measureFirst_windows (m : Measurement) (lines : List (List Nat)) (k : Nat) :
    (measureFirst m lines k).windows = m.windows := (measureFirst_copies m lines k).2.2.2.2

theorem measureFirst_evenPairs {m : Measurement} (he : m.evenPairs = []) (lines : List (List Nat)) (k : Nat) :
    (measureFirst m lines k).evenPairs = if k % 2 = 1 then pairSums (lines.getD (k - 1) []) else [] := by
  cases k with
  | zero => exact he
  | succ k => exact if_congr (by omega) rfl rfl

/-- All that the next line does, each sum by its own operation. -/
theorem measureFirst_succ {m : Measurement} (he : m.evenPairs = []) (hzh : 0 < m.zh) (lines : List (List Nat)) (y : Nat) :
    (measureFirst m lines (y + 1)).zoneSums =
      addToRow (y / m.zh) (measureFirst m lines y).zoneSums (cellColumns m.zw (lineCells lines y)) ∧
    (measureFirst m lines (y + 1)).clipped =
      (addToRow (y / m.zh) (measureFirst m lines y).clipped (clippedColumns m.zw (lines.getD y []))).map (min 65535) ∧
    (measureFirst m lines (y + 1)).figures =
      List.zipWith (windowLine (measureFirst m lines y) y (lines.getD y []) (lineCells lines y)) m.windows
        (measureFirst m lines y).figures := by
  have hcells : (if y % 2 = 1 then cellValues (measureFirst m lines y).evenPairs (pairSums (lines.getD y [])) else []) =
      lineCells lines y := by
    rw [measureFirst_evenPairs he, lineCells]
    split <;> rfl
  simp only [measureFirst, measureLine, hcells, measureFirst_zw, measureFirst_zh, measureFirst_windows, if_neg hzh.ne', and_self]

/-- A frame whose lines cover the grid of zones of 2·zw by 2·zh pixels (R18). -/
structure CoversGrid (m : Measurement) (lines : List (List Nat)) (zw zh : Nat) : Prop where
  zoneWidth : m.zw = 2 * zw
  zoneHeight : m.zh = 2 * zh
  rows : 24 * zh ≤ lines.length
  columns : ∀ l ∈ lines, 32 * zw ≤ l.length

/-! ### Zones (R20, R21) -/

theorem getElem?_addToRow {r i n : Nat} {zones : List Nat} (row : List Nat) (h : zones[i]? = some n) :
    (addToRow r zones row)[i]? = some (n + if i / 16 = r then row.getD (i % 16) 0 else 0) := by
  rw [addToRow, List.getElem?_mapIdx, h, Option.map_some]
  split <;> rfl

theorem getElem?_zoneSums_measureFirst {m : Measurement} (he : m.evenPairs = []) (hzh : 0 < m.zh)
    (h0 : m.zoneSums = List.replicate 192 0) (lines : List (List Nat)) {i : Nat} (hi : i < 192) (k : Nat) :
    (measureFirst m lines k).zoneSums[i]? = some ((List.range k).map fun y =>
      if i / 16 = y / m.zh then (cellColumns m.zw (lineCells lines y)).getD (i % 16) 0 else 0).sum := by
  induction k with
  | zero => rw [measureFirst, h0, List.getElem?_replicate_of_lt hi]; rfl
  | succ k ih =>
    rw [(measureFirst_succ he hzh lines k).1, getElem?_addToRow _ ih, List.range_succ]
    simp

theorem getElem?_clipped_measureFirst {m : Measurement} (he : m.evenPairs = []) (hzh : 0 < m.zh)
    (h0 : m.clipped = List.replicate 192 0) (lines : List (List Nat)) {i : Nat} (hi : i < 192) (k : Nat) :
    (measureFirst m lines k).clipped[i]? = some (min 65535 ((List.range k).map fun y =>
      if i / 16 = y / m.zh then (clippedColumns m.zw (lines.getD y [])).getD (i % 16) 0 else 0).sum) := by
  induction k with
  | zero => rw [measureFirst, h0, List.getElem?_replicate_of_lt hi]; rfl
  | succ k ih =>
    rw [(measureFirst_succ he hzh lines k).2.1, List.getElem?_map, getElem?_addToRow _ ih, List.range_succ]
    simp only [Option.map_some, List.map_append, List.sum_append, List.map_cons, List.map_nil, List.sum_singleton]
    congr 1
    omega

/-- Column c of a row of 16 zones. -/
theorem getD_map_range_sixteen (f : Nat → Nat) {c : Nat} (hc : c < 16) : ((List.range 16).map f).getD c 0 = f c := by
  rw [List.getD_eq_getElem?_getD, List.getElem?_map, List.getElem?_range hc]
  rfl

/-- The lines of zone row r. -/
theorem eq_div_iff_mem_zoneLines {r y zh : Nat} (hzh : 0 < zh) :
    r = y / zh ↔ zh * r ≤ y ∧ y < zh * r + zh := by
  rw [eq_comm, Nat.div_eq_iff hzh, Nat.mul_comm r zh]
  omega

/-- R20: the sum of a zone's cells. -/
theorem zoneSum_measured {m : Measurement} {lines : List (List Nat)} {zw zh r c : Nat} (hf : CoversGrid m lines zw zh)
    (hpos : 0 < zh) (he : m.evenPairs = []) (h0 : m.zoneSums = List.replicate 192 0) (hr : r < 12) (hc : c < 16) :
    (measureFirst m lines lines.length).zoneSums[16 * r + c]? = some ((List.range zh).map fun v =>
      ((List.range zw).map fun u => cellValueOf lines (c * zw + u) (r * zh + v)).sum).sum := by
  obtain ⟨hzw, hzh, hrows, hlen⟩ := hf
  have hbound : (r + 1) * zh ≤ 12 * zh := Nat.mul_le_mul_right zh hr
  have hcolumn : (c + 1) * zw ≤ 16 * zw := Nat.mul_le_mul_right zw hc
  rw [getElem?_zoneSums_measureFirst he (by omega) h0 lines (by omega), show (16 * r + c) / 16 = r by omega,
    show (16 * r + c) % 16 = c by omega, hzh, hzw,
    ← sum_range_cellRows (fun v => ((List.range zw).map fun u => cellValueOf lines (c * zw + u) v).sum)
      (a := r * zh) (b := zh) (n := lines.length) fun v hv => by linarith]
  refine congrArg (some ∘ List.sum) (List.map_congr_left fun y hy => ?_)
  rw [cellColumns, getD_map_range_sixteen _ hc, Nat.mul_div_cancel_left _ Nat.two_pos,
    sum_segment_lineCells hlen (List.mem_range.1 hy) fun u hu => by linarith]
  exact if_congr ((eq_div_iff_mem_zoneLines (by omega)).trans (by rw [Nat.mul_assoc, Nat.mul_comm zh r])) rfl rfl

/-- R21: the number of a zone's pixels at 4,095. -/
theorem clipped_measured {m : Measurement} {lines : List (List Nat)} {zw zh r c : Nat} (hf : CoversGrid m lines zw zh)
    (hpos : 0 < zh) (he : m.evenPairs = []) (h0 : m.clipped = List.replicate 192 0) (hr : r < 12) (hc : c < 16) :
    (measureFirst m lines lines.length).clipped[16 * r + c]? = some (min 65535 ((List.range (2 * zh)).map fun v =>
      (List.range (2 * zw)).countP fun u =>
        decide ((lines.getD (2 * zh * r + v) []).getD (2 * zw * c + u) 0 = 4095)).sum) := by
  obtain ⟨hzw, hzh, hrows, hlen⟩ := hf
  have hbound : zh * (r + 1) ≤ zh * 12 := Nat.mul_le_mul_left zh hr
  have hcolumn : zw * (c + 1) ≤ zw * 16 := Nat.mul_le_mul_left zw hc
  rw [getElem?_clipped_measureFirst he (by omega) h0 lines (by omega), show (16 * r + c) / 16 = r by omega,
    show (16 * r + c) % 16 = c by omega, hzh, hzw,
    ← sum_range_interval (fun y => (List.range (2 * zw)).countP fun u => decide ((lines.getD y []).getD (2 * zw * c + u) 0 = 4095))
      (a := 2 * zh * r) (b := 2 * zh) (n := lines.length) fun v hv => by linarith]
  refine congrArg (fun l => some (min 65535 (List.sum l))) (List.map_congr_left fun y hy => ?_)
  have hlong := le_length_getD hlen (List.mem_range.1 hy)
  rw [clippedColumns, getD_map_range_sixteen _ hc, Nat.mul_comm c, segment_eq_map_getD (by linarith), List.count, List.countP_map]
  exact if_congr (eq_div_iff_mem_zoneLines (by omega)) rfl rfl

/-! ### Windows (R23 to R25) -/

/-- A figure whose terms so far come to total and whose cells to cells (R24, R25). -/
def runningFigure (total cells : Nat) : Figure := ⟨min 4294967295 total, decide (4294967295 < total), cells⟩

/-- The addition that holds at the top and marks SAT keeps the form. -/
theorem addFigure_runningFigure (total cells n : Nat) :
    addFigure (runningFigure total cells) n = runningFigure (total + n) cells := by
  unfold addFigure runningFigure
  split
  · next hover =>
    have hsat : 4294967295 < total + n := by dsimp only at hover; omega
    rw [decide_eq_true hsat, Nat.min_eq_left hsat.le]
  · next hunder =>
    have hsum : min 4294967295 total + n = min 4294967295 (total + n) := by dsimp only at hunder; omega
    have hsat : 4294967295 < total ↔ 4294967295 < total + n := by dsimp only at hunder; omega
    rw [hsum, decide_eq_decide.2 hsat]

/-- A line lies in the rows of a window that is enabled (R23). -/
def inWindow (zh : Nat) (w : Window) (y : Nat) : Bool := w.enabled && inWindowLines zh w y

/-- The sum of the terms of a window's part of a line (R24). -/
def windowTerms (m : Measurement) (w : Window) (y : Nat) (line : List Nat) : Nat :=
  (figureTerms m.noise (greens y (segment line (w.fc * m.zw) (w.usedColumns * m.zw)))).sum

/-- The sum of a window's part of a line's cells (R25). -/
def windowCells (m : Measurement) (w : Window) (cells : List Nat) : Nat :=
  (segment cells (w.fc * (m.zw / 2)) (w.usedColumns * (m.zw / 2))).sum

theorem windowLine_runningFigure (m : Measurement) (y : Nat) (line row : List Nat) (w : Window) (total cells : Nat) :
    windowLine m y line row w (runningFigure total cells) =
      runningFigure (total + if inWindow m.zh w y = true then windowTerms m w y line else 0)
        (cells + if inWindow m.zh w y = true then windowCells m w row else 0) := by
  unfold windowLine
  rw [show (w.enabled && inWindowLines m.zh w y) = inWindow m.zh w y from rfl]
  split
  · dsimp only
    rw [addFigure_runningFigure]
    rfl
  · rfl

theorem getElem?_figures_measureFirst {m : Measurement} (he : m.evenPairs = []) (hzh : 0 < m.zh)
    (h0 : m.figures = List.replicate 8 ⟨0, false, 0⟩) (lines : List (List Nat)) {i : Nat} (hi : i < 8) {w : Window}
    (hw : m.windows[i]? = some w) (k : Nat) :
    (measureFirst m lines k).figures[i]? = some (runningFigure
      ((List.range k).map fun y => if inWindow m.zh w y = true then windowTerms m w y (lines.getD y []) else 0).sum
      ((List.range k).map fun y => if inWindow m.zh w y = true then windowCells m w (lineCells lines y) else 0).sum) := by
  induction k with
  | zero => rw [measureFirst, h0, List.getElem?_replicate_of_lt hi]; rfl
  | succ k ih =>
    rw [(measureFirst_succ he hzh lines k).2.2, List.getElem?_zipWith, hw, ih]
    simp only [windowLine_runningFigure, windowTerms, windowCells, measureFirst_zh, measureFirst_zw, measureFirst_noise,
      List.range_succ, List.map_append, List.sum_append, List.map_cons, List.map_nil, List.sum_singleton]

/-- The lines of an enabled window, from its first (R23). -/
theorem inWindow_eq_true {zh y : Nat} {w : Window} (hen : w.enabled = true) :
    inWindow (2 * zh) w y = true ↔ 2 * zh * w.fr ≤ y ∧ y < 2 * zh * w.fr + 2 * zh * w.usedRows := by
  simp only [inWindow, inWindowLines, hen, Bool.true_and, decide_eq_true_eq, Nat.mul_comm _ (2 * zh), Nat.mul_add]

/-- A span clipped to a grid of a given size lies within it, n pixels or cells to a zone (R23). -/
theorem add_lt_of_lt_clipped {n wanted first size u : Nat} (hu : u < n * min wanted (size - first)) :
    n * first + u < size * n := by
  have hpos : min wanted (size - first) ≠ 0 := fun h => by simp [h] at hu
  have := Nat.mul_le_mul_left n (show first + min wanted (size - first) ≤ size by omega)
  linarith

theorem add_lt_of_lt_usedColumns {w : Window} {n u : Nat} (hu : u < n * w.usedColumns) : n * w.fc + u < 16 * n :=
  add_lt_of_lt_clipped hu

theorem add_lt_of_lt_usedRows {w : Window} {n v : Nat} (hv : v < n * w.usedRows) : n * w.fr + v < 12 * n :=
  add_lt_of_lt_clipped hv

/-- R24: the terms of a window's part of a line, by the places of its green pixels. -/
theorem windowTerms_eq {m : Measurement} {w : Window} {zw y : Nat} {line : List Nat} (hzw : m.zw = 2 * zw)
    (hlong : 32 * zw ≤ line.length) :
    windowTerms m w y line = ((List.range (zw * w.usedColumns - 1)).map fun j =>
      distance (line.getD (2 * zw * w.fc + 2 * j + (if y % 2 = 0 then 1 else 0) + 2) 0)
        (line.getD (2 * zw * w.fc + 2 * j + (if y % 2 = 0 then 1 else 0)) 0) - m.noise).sum := by
  have hsegment : segment line (w.fc * m.zw) (w.usedColumns * m.zw) =
      (List.range (2 * (zw * w.usedColumns))).map fun i => line.getD (2 * zw * w.fc + i) 0 := by
    rw [hzw, Nat.mul_comm w.fc, show w.usedColumns * (2 * zw) = 2 * (zw * w.usedColumns) by ring]
    refine segment_eq_map fun i hi => getElem?_eq_some_getD ?_
    have := add_lt_of_lt_usedColumns (w := w) (n := 2 * zw) (u := i) (by linarith)
    linarith
  rw [windowTerms, hsegment, greens_map_range, figureTerms_map_range]
  refine congrArg List.sum (List.map_congr_left fun j _ => ?_)
  rw [distance_comm]
  congr 3 <;> ring

/-- R25: the cells of a window's part of a line. -/
theorem windowCells_lineCells {m : Measurement} {w : Window} {lines : List (List Nat)} {zw y : Nat} (hzw : m.zw = 2 * zw)
    (hlen : ∀ l ∈ lines, 32 * zw ≤ l.length) (hy : y < lines.length) :
    windowCells m w (lineCells lines y) = if y % 2 = 1 then
      ((List.range (zw * w.usedColumns)).map fun u => cellValueOf lines (zw * w.fc + u) (y / 2)).sum else 0 := by
  rw [windowCells, hzw, Nat.mul_div_cancel_left _ Nat.two_pos, Nat.mul_comm w.fc, Nat.mul_comm w.usedColumns]
  refine sum_segment_lineCells hlen hy fun u hu => ?_
  have := add_lt_of_lt_usedColumns hu
  omega

/-- R24: the sum of an enabled window's terms over a frame. -/
theorem windowTerms_measured {m : Measurement} {w : Window} {lines : List (List Nat)} {zw zh : Nat}
    (hf : CoversGrid m lines zw zh) (hen : w.enabled = true) :
    ((List.range lines.length).map fun y =>
      if inWindow m.zh w y = true then windowTerms m w y (lines.getD y []) else 0).sum =
    ((List.range (2 * zh * w.usedRows)).map fun v =>
      let y := 2 * zh * w.fr + v
      ((List.range (zw * w.usedColumns - 1)).map fun j =>
        let x := 2 * zw * w.fc + 2 * j + (if y % 2 = 0 then 1 else 0)
        distance ((lines.getD y []).getD (x + 2) 0) ((lines.getD y []).getD x 0) - m.noise).sum).sum := by
  obtain ⟨hzw, hzh, hrows, hlen⟩ := hf
  have hin (v : Nat) (hv : v < 2 * zh * w.usedRows) : 2 * zh * w.fr + v < lines.length := by
    have := add_lt_of_lt_usedRows hv
    linarith
  have hterms : ((List.range (2 * zh * w.usedRows)).map fun v =>
      windowTerms m w (2 * zh * w.fr + v) (lines.getD (2 * zh * w.fr + v) [])) = _ :=
    List.map_congr_left fun v hv => windowTerms_eq hzw (le_length_getD hlen (hin v (List.mem_range.1 hv)))
  rw [← hterms, ← sum_range_interval (fun y => windowTerms m w y (lines.getD y [])) (n := lines.length) hin]
  exact congrArg List.sum (List.map_congr_left fun y _ => if_congr (by rw [hzh, inWindow_eq_true hen]) rfl rfl)

/-- R25: the sum of an enabled window's cells over a frame. -/
theorem windowCells_measured {m : Measurement} {w : Window} {lines : List (List Nat)} {zw zh : Nat}
    (hf : CoversGrid m lines zw zh) (hen : w.enabled = true) :
    ((List.range lines.length).map fun y =>
      if inWindow m.zh w y = true then windowCells m w (lineCells lines y) else 0).sum =
    ((List.range (zh * w.usedRows)).map fun v => ((List.range (zw * w.usedColumns)).map fun u =>
      cellValueOf lines (zw * w.fc + u) (zh * w.fr + v)).sum).sum := by
  obtain ⟨hzw, hzh, hrows, hlen⟩ := hf
  rw [← sum_range_cellRows (fun v => ((List.range (zw * w.usedColumns)).map fun u => cellValueOf lines (zw * w.fc + u) v).sum)
    (n := lines.length) fun v hv => by
      have := add_lt_of_lt_usedRows (w := w) (n := 2 * zh) (v := v) (by linarith)
      linarith]
  refine congrArg List.sum (List.map_congr_left fun y hy => ?_)
  rw [windowCells_lineCells hzw hlen (List.mem_range.1 hy)]
  exact if_congr (by rw [hzh, inWindow_eq_true hen, Nat.mul_assoc, Nat.mul_assoc]) rfl rfl

/-- R25: the record of a window, once its figure is known. -/
theorem getElem?_windowRecords {n : Measurement} {i : Nat} {w : Window} {total cells : Nat} (hw : n.windows[i]? = some w)
    (hx : n.figures[i]? = some (runningFigure total cells)) :
    (windowRecords n)[i]? = some (if w.enabled = true then
      ⟨true, min 4294967295 total, decide (4294967295 < total), cells / (zoneCells n * w.usedColumns * w.usedRows),
        w.usedColumns, w.usedRows⟩
      else ⟨false, 0, false, 0, 0, 0⟩) := by
  rw [windowRecords, List.getElem?_zipWith, hw, hx]
  rfl

/-! ### The highlight mask (R22) -/

theorem mem_highlightMask {n : Measurement} {i : Nat} : i ∈ highlightMask n ↔ i < 192 ∧ n.clip < n.clipped.getD i 0 := by
  rw [highlightMask, List.mem_filter, List.mem_range, decide_eq_true_iff]

theorem highlightMask_pairwise (n : Measurement) : (highlightMask n).Pairwise (· < ·) :=
  List.pairwise_lt_range.filter _

/-- Cells of a zone of 2·zw by 2·zh pixels (R19). -/
theorem zoneCells_measureFirst {m : Measurement} {zw zh : Nat} (hzw : m.zw = 2 * zw) (hzh : m.zh = 2 * zh)
    (lines : List (List Nat)) (k : Nat) : zoneCells (measureFirst m lines k) = zw * zh := by
  rw [zoneCells, measureFirst_zw, measureFirst_zh, hzw, hzh, Nat.mul_div_cancel_left _ Nat.two_pos,
    Nat.mul_div_cancel_left _ Nat.two_pos]

/-- Settles O25: zones, clipped counts and windows each by their sums over the lines of a frame. -/
theorem statsOfAFrame : Obligations.StatsOfAFrame := by
  intro m lines zw zh hzw hzh _ hpos hzones hclipped hfigures heven _ hrows hlen
  have hf : CoversGrid m lines zw zh := ⟨hzw, hzh, hrows, hlen⟩
  dsimp only
  rw [foldl_measureLine]
  refine ⟨fun r hr c hc => ⟨?_, clipped_measured hf hpos heven hclipped hr hc⟩, fun i => ?_,
    highlightMask_pairwise _, fun i hi w hw => ?_⟩
  · rw [zoneMeans, List.getElem?_map, zoneSum_measured hf hpos heven hzones hr hc,
      zoneCells_measureFirst hzw hzh]
    rfl
  · rw [mem_highlightMask, measureFirst_clip]
  · have hfigure := getElem?_figures_measureFirst heven (by omega) hfigures lines hi hw lines.length
    have hrecord := getElem?_windowRecords ((congrArg (·[i]?) (measureFirst_windows ..)).trans hw) hfigure
    rw [zoneCells_measureFirst hzw hzh] at hrecord
    cases hen : w.enabled with
    | false => exact hrecord.trans (congrArg some (if_neg (by simp [hen])))
    | true =>
      rw [windowTerms_measured hf hen, windowCells_measured hf hen, hen] at hrecord
      exact hrecord

end Sys2Proof.Machine
end

section
/-! SUPPORT. What the operations leave of AEC's records as R49 orders them, and that each keeps the exposure held while AFC
scans (R33): the focus, zoom and lens controllers, and the Capture Store. -/

namespace Sys2Proof.Machine

/-- The records of b are those of a as R49 sees them: the effective frame numbers of the in-flight list, and whether a
record awaits its write, is kept for retry or is being written. -/
structure Aec.SameRecords (b a : Aec) : Prop where
  effective : b.inFlight.map (·.effective) = a.inFlight.map (·.effective)
  awaiting : b.awaiting.isSome = a.awaiting.isSome
  retry : b.retry.isSome = a.retry.isSome
  sequence : b.sequence.isSome = a.sequence.isSome

theorem Aec.SameRecords.refl (a : Aec) : a.SameRecords a := ⟨rfl, rfl, rfl, rfl⟩

theorem Aec.SameRecords.trans {a b c : Aec} (h : c.SameRecords b) (g : b.SameRecords a) : c.SameRecords a :=
  ⟨h.effective.trans g.effective, h.awaiting.trans g.awaiting, h.retry.trans g.retry, h.sequence.trans g.sequence⟩

/-- AEC's records are the same in t as in s, and the exposure is held in t while AFC scans, if it is in s (R33). -/
structure State.HoldKept (t s : State) : Prop where
  records : t.aec.SameRecords s.aec
  hold : s.FocusHoldsExposure → t.FocusHoldsExposure

theorem State.FocusHoldsExposure.of_states {s t : State} (hs : s.FocusHoldsExposure) (ha : t.aec.state = s.aec.state)
    (hf : t.afc.state = s.afc.state) : t.FocusHoldsExposure := by
  unfold State.FocusHoldsExposure
  rw [ha, hf]
  exact hs

theorem State.HoldKept.of_states {s t : State} (hr : t.aec.SameRecords s.aec) (ha : t.aec.state = s.aec.state)
    (hf : t.afc.state = s.afc.state) : t.HoldKept s :=
  ⟨hr, fun hs => hs.of_states ha hf⟩

theorem State.HoldKept.of_eq {s t : State} (ha : t.aec = s.aec) (hf : t.afc.state = s.afc.state) : t.HoldKept s :=
  .of_states (ha ▸ .refl _) (congrArg Aec.state ha) hf

theorem State.HoldKept.refl (s : State) : s.HoldKept s := .of_eq rfl rfl

theorem State.HoldKept.trans {s t u : State} (h : u.HoldKept t) (g : t.HoldKept s) : u.HoldKept s :=
  ⟨h.records.trans g.records, fun hs => h.hold (g.hold hs)⟩

theorem State.holdKept_ite {p : Prop} [Decidable p] {s t u : State} (h : t.HoldKept s) (g : u.HoldKept s) :
    (if p then t else u).HoldKept s := by
  split
  · exact h
  · exact g

theorem State.holdKept_raise (s : State) (k : Nat) : (s.raise k).HoldKept s := .of_eq rfl rfl
theorem State.holdKept_level (s : State) (k : Nat) (b : Bool) : (s.level k b).HoldKept s := .of_eq rfl rfl
theorem State.holdKept_setLds (s : State) (l : Lds) : (s.setLds l).HoldKept s := .of_eq rfl rfl
theorem State.holdKept_setZmc (s : State) (z : Zmc) : (s.setZmc z).HoldKept s := .of_eq rfl rfl
theorem State.holdKept_setCst (s : State) (c : Cst) : (s.setCst c).HoldKept s := .of_eq rfl rfl
theorem State.holdKept_setLnk (s : State) (l : Lnk) : (s.setLnk l).HoldKept s := .of_eq rfl rfl
theorem State.holdKept_setMou (s : State) (m : Mou) : (s.setMou m).HoldKept s := .of_eq rfl rfl
theorem State.holdKept_setIntake (s : State) (i : Intake) : (s.setIntake i).HoldKept s := .of_eq rfl rfl
theorem State.holdKept_place (s : State) (src : Source) (r : Request) : (s.place src r).HoldKept s := .of_eq rfl rfl

/-! ### AEC's state (R33, R48) -/

theorem aecJudge_holdKept (s : State) : (aecJudge s).HoldKept s := .of_states ⟨rfl, rfl, rfl, rfl⟩ rfl rfl

theorem aecJudgeRecords_holdKept (s : State) : (aecJudgeRecords s).HoldKept s := by
  unfold aecJudgeRecords
  split
  iterate 2 exact .refl s
  · exact aecJudge_holdKept s

@[simp] theorem aecJudge_aec_state (s : State) : (aecJudge s).aec.state = s.aec.state := rfl
@[simp] theorem aecJudge_afc (s : State) : (aecJudge s).afc = s.afc := rfl
@[simp] theorem aecEnter_aec_state (s : State) (st : AeState) : (aecEnter s st).aec.state = st := rfl
@[simp] theorem aecEnter_afc (s : State) (st : AeState) : (aecEnter s st).afc = s.afc := rfl

/-- Whatever AEC's state was, AFC's entering a state leaves the exposure held where AFC scans, and there alone (R33). -/
theorem afcEnter_focusHolds (s : State) (st : AfState) : (afcEnter s st).FocusHoldsExposure := by
  unfold afcEnter aecFollowFocus State.FocusHoldsExposure
  by_cases hscan : st.scanning = true
  · rw [if_pos hscan]
    split
    · simp [hscan]
    · next h => simpa [hscan] using h
  · rw [if_neg hscan]
    split
    · simp [hscan]
    · next h => simpa [hscan] using h

/-- AFC enters a state after an update beside AEC. -/
theorem afcEnter_holdKept {s t : State} (h : t.aec = s.aec) (st : AfState) : (afcEnter t st).HoldKept s := by
  refine ⟨?_, fun _ => afcEnter_focusHolds t st⟩
  rw [(afcEnter_focus t st).aec, h]
  exact ⟨rfl, rfl, rfl, rfl⟩

/-! ### The focus controller (chapter 5) -/

theorem afcFail_holdKept (s : State) (r : FailReason) : (afcFail s r).HoldKept s := afcEnter_holdKept (by rfl) .failed

theorem afcRequest_holdKept (s : State) (pos : Nat) : (afcRequest s pos).HoldKept s := s.holdKept_place ..

theorem afcBeginCoarse_holdKept (s : State) (inf near : Nat) : (afcBeginCoarse s inf near).HoldKept s :=
  (afcRequest_holdKept ..).trans (afcEnter_holdKept (by rfl) .coarse)

theorem afcScanStart_holdKept (s : State) : (afcScanStart s).HoldKept s :=
  (afcBeginCoarse_holdKept ..).trans (.of_eq (by rfl) (by rfl))

theorem afcCancel_holdKept (s : State) : (afcCancel s).HoldKept s := by
  unfold afcCancel
  split
  · exact .of_eq rfl rfl
  iterate 4 exact afcEnter_holdKept (by rfl) .idle

theorem afcS1Assert_holdKept (s : State) : (afcS1Assert s).HoldKept s := by
  unfold afcS1Assert
  split
  · exact afcScanStart_holdKept s
  · exact .refl s

theorem afcS1Release_holdKept (s : State) : (afcS1Release s).HoldKept s := by
  unfold afcS1Release
  split
  iterate 3 exact afcCancel_holdKept s
  · exact afcEnter_holdKept (by rfl) .idle
  · exact .refl s

theorem afcAbort_holdKept (s : State) (b : Bool) : (afcAbort s b).HoldKept s := afcEnter_holdKept (by rfl) .idle

theorem afcZoomGranted_holdKept (s : State) : (afcZoomGranted s).HoldKept s :=
  State.holdKept_ite (afcAbort_holdKept ..) (.refl s)

theorem afcPathStop_holdKept (s : State) : (afcPathStop s).HoldKept s := State.holdKept_ite (afcAbort_holdKept ..) (.refl s)

theorem afcFocusInvalid_holdKept (s : State) : (afcFocusInvalid s).HoldKept s :=
  State.holdKept_ite (afcFail_holdKept ..) (.refl s)

theorem afcZoomIdle_holdKept (s : State) : (afcZoomIdle s).HoldKept s := by
  unfold afcZoomIdle
  dsimp only
  refine State.holdKept_ite (State.holdKept_ite ?_ (.of_eq rfl rfl)) (.refl s)
  split
  · exact (afcScanStart_holdKept _).trans (.of_eq rfl rfl)
  · exact .of_eq rfl rfl

theorem afcDisturbance_holdKept (s : State) : (afcDisturbance s).HoldKept s := by
  unfold afcDisturbance
  exact State.holdKept_ite
    (State.holdKept_ite ((afcFail_holdKept ..).trans (.of_eq rfl rfl)) (afcEnter_holdKept (by rfl) .settle)) (.refl s)

theorem afcSettleSof_holdKept (s : State) (b : Bool) : (afcSettleSof s b).HoldKept s := by
  unfold afcSettleSof
  refine State.holdKept_ite ?_ (State.holdKept_ite ((afcFail_holdKept ..).trans (.of_eq rfl rfl)) (.of_eq rfl rfl))
  split
  · exact afcBeginCoarse_holdKept ..
  · exact .refl s

theorem afcSof_holdKept (s : State) (b c : Bool) : (afcSof s b c).HoldKept s := by
  unfold afcSof
  split
  · exact afcSettleSof_holdKept ..
  iterate 4 exact .of_eq rfl rfl
  · exact .refl s

theorem afcMoveComplete_holdKept (s : State) : (afcMoveComplete s).HoldKept s := by
  unfold afcMoveComplete
  split
  · exact .refl s
  · refine State.holdKept_ite ?_ (.refl s)
    split
    · exact .of_eq rfl rfl
    · exact afcEnter_holdKept (by rfl) .locked
    · exact .refl s

theorem afcTrackEnded_holdKept (s : State) : (afcTrackEnded s).HoldKept s :=
  State.holdKept_ite (.of_eq rfl rfl) (.refl s)

theorem afcCoarseEnd_holdKept (s : State) (sc : Scan) : (afcCoarseEnd s sc).HoldKept s := by
  unfold afcCoarseEnd
  split
  · exact afcFail_holdKept ..
  · exact (afcRequest_holdKept ..).trans (afcEnter_holdKept (by rfl) .fine)

theorem afcLockChoice_holdKept (s : State) (sc : Scan) : (afcLockChoice s sc).HoldKept s := by
  unfold afcLockChoice
  split
  · exact State.holdKept_ite (afcFail_holdKept ..) ((afcRequest_holdKept ..).trans (.of_eq rfl rfl))
  · exact afcFail_holdKept ..

theorem afcNextPosition_holdKept (s : State) (sc : Scan) : (afcNextPosition s sc).HoldKept s := by
  unfold afcNextPosition
  split
  · exact (afcRequest_holdKept ..).trans (.of_eq rfl rfl)
  · exact State.holdKept_ite (afcCoarseEnd_holdKept ..) (afcLockChoice_holdKept ..)

theorem afcEntry_holdKept (s : State) (sc : Scan) (b : Bool) (fn : Nat) (rs : List WindowRecord) :
    (afcEntry s sc b fn rs).HoldKept s := by
  unfold afcEntry
  refine State.holdKept_ite (afcFail_holdKept ..) (State.holdKept_ite (State.holdKept_ite ?_ ?_) ?_)
  · exact (afcCoarseEnd_holdKept ..).trans (.of_eq rfl rfl)
  all_goals exact (afcNextPosition_holdKept ..).trans (.of_eq rfl rfl)

theorem afcReferenceFrame_holdKept (s : State) (k : Lock) (n : Nat) : (afcReferenceFrame s k n).HoldKept s := by
  unfold afcReferenceFrame
  refine State.holdKept_ite (State.holdKept_ite (afcEnter_holdKept (by rfl) .monitor) (.of_eq rfl rfl))
    (State.holdKept_ite (State.holdKept_ite ?_ (.of_eq rfl rfl)) (.refl s))
  split
  · exact afcScanStart_holdKept s
  · exact .of_eq rfl rfl

theorem afcFigures_holdKept (s : State) (fn : Nat) (rs : List WindowRecord) : (afcFigures s fn rs).HoldKept s := by
  have hscan : (match s.afc.scan with
      | some sc => match sc.wait with | .eof blurred => afcEntry s sc blurred fn rs | _ => s
      | none => s).HoldKept s := by
    split
    · split
      · exact afcEntry_holdKept ..
      · exact .refl s
    · exact .refl s
  unfold afcFigures
  split
  iterate 2 exact hscan
  iterate 2
    split
    · dsimp only
      split
      · exact State.holdKept_ite (.of_eq rfl rfl) ((afcReferenceFrame_holdKept ..).trans (.of_eq rfl rfl))
      · exact .of_eq rfl rfl
    · exact .refl s
  · exact .refl s

/-! ### The zoom controller (chapter 6) -/

theorem zmcPlace_holdKept (s : State) (e sp : Nat) : (zmcPlace s e sp).HoldKept s := s.holdKept_place ..

theorem zmcNextSegment_holdKept (s : State) (z : ZoomInHand) : (zmcNextSegment s z).HoldKept s :=
  (zmcPlace_holdKept ..).trans (s.holdKept_setZmc _)

theorem zmcStart_holdKept (s : State) (t : Clamped Nat) (sp : Nat) : (zmcStart s t sp).HoldKept s := by
  unfold zmcStart
  exact State.holdKept_ite (State.holdKept_ite (.of_eq rfl rfl) (.of_eq rfl rfl))
    ((zmcNextSegment_holdKept ..).trans (s.holdKept_setZmc _))

theorem zmcRetarget_holdKept (s : State) (z : ZoomInHand) (t : Clamped Nat) (sp : Nat) :
    (zmcRetarget s z t sp).HoldKept s := by
  unfold zmcRetarget
  exact State.holdKept_ite (s.holdKept_setZmc _) ((zmcPlace_holdKept ..).trans (s.holdKept_setZmc _))

theorem zmcCommand_holdKept (s : State) (t : Clamped Nat) (sp : Nat) : (zmcCommand s t sp).HoldKept s := by
  unfold zmcCommand
  split
  · exact State.holdKept_ite (zmcRetarget_holdKept ..) (.refl s)
  · exact zmcStart_holdKept ..

theorem zmcTrack_holdKept (s : State) : (zmcTrack s).HoldKept s := by
  unfold zmcTrack
  exact State.holdKept_ite ((State.holdKept_place ..).trans
    (State.holdKept_ite (.of_eq (by rfl) (by rfl)) (s.holdKept_setZmc _))) (.refl s)

theorem zmcIdle_holdKept (s : State) : (zmcIdle s).HoldKept s := (afcZoomIdle_holdKept _).trans (s.holdKept_setZmc _)

theorem zmcEnd_holdKept (s : State) (b : Bool) : (zmcEnd s b).HoldKept s :=
  (zmcIdle_holdKept _).trans (State.holdKept_ite (.of_eq rfl rfl) (.of_eq rfl rfl))

theorem zmcMoveComplete_holdKept (s : State) : (zmcMoveComplete s).HoldKept s := by
  unfold zmcMoveComplete
  split
  · exact State.holdKept_ite ((zmcEnd_holdKept ..).trans (zmcTrack_holdKept s))
      ((zmcNextSegment_holdKept ..).trans (zmcTrack_holdKept s))
  · exact (zmcEnd_holdKept ..).trans (zmcTrack_holdKept s)
  · exact .refl s

theorem zmcMoveStopped_holdKept (s : State) : (zmcMoveStopped s).HoldKept s :=
  State.holdKept_ite (.refl s) ((zmcEnd_holdKept ..).trans (zmcTrack_holdKept s))

theorem zmcMoveLost_holdKept (s : State) : (zmcMoveLost s).HoldKept s := State.holdKept_ite (.refl s) (zmcIdle_holdKept s)

theorem zmcStop_holdKept (s : State) : (zmcStop s).HoldKept s := by
  unfold zmcStop
  exact State.holdKept_ite (State.holdKept_ite ((zmcMoveStopped_holdKept _).trans (.of_eq rfl rfl)) (.of_eq rfl rfl)) (.refl s)

/-! ### The lens drive (chapter 4) -/

theorem signalStep_holdKept (s : State) (m : Motor) : (signalStep s m).HoldKept s := by
  unfold signalStep
  cases m <;> exact .of_states ⟨rfl, rfl, rfl, rfl⟩ rfl rfl

theorem parkRequest_holdKept (s : State) (m : Motor) : (parkRequest s m).HoldKept s :=
  State.holdKept_ite (s.holdKept_setLds _) (s.holdKept_setLds _)

theorem parkComplete_holdKept (s : State) : (parkComplete s).HoldKept s := by
  unfold parkComplete
  split
  iterate 2 exact parkRequest_holdKept ..
  iterate 2 exact .of_eq rfl rfl

theorem moveComplete_holdKept (s : State) (src : Source) : (moveComplete s src).HoldKept s := by
  cases src with
  | park => exact parkComplete_holdKept s
  | track => exact afcTrackEnded_holdKept s
  | zoom => exact zmcMoveComplete_holdKept s
  | iris => exact .refl s
  | af => exact afcMoveComplete_holdKept s
  | manual => exact s.holdKept_raise _

theorem moveStopped_holdKept (s : State) (src : Source) : (moveStopped s src).HoldKept s := by
  cases src with
  | park => exact s.holdKept_setLds _
  | track => exact afcTrackEnded_holdKept s
  | zoom => exact zmcMoveStopped_holdKept s
  | iris | af | manual => exact .refl s

theorem moveLost_holdKept (s : State) (src : Source) : (moveLost s src).HoldKept s := by
  cases src with
  | park => exact s.holdKept_setLds _
  | zoom => exact zmcMoveLost_holdKept s
  | track | iris | af | manual => exact .refl s

theorem tellGrant_holdKept (s : State) (src : Source) : (tellGrant s src).HoldKept s :=
  State.holdKept_ite (afcZoomGranted_holdKept s) (.refl s)

theorem grantOne_holdKept (s : State) (m : Move) : (grantOne s m).2.HoldKept s := by
  unfold grantOne
  split
  · exact (moveComplete_holdKept ..).trans (tellGrant_holdKept ..)
  · exact (tellGrant_holdKept ..).trans (s.holdKept_setLds _)

theorem grantLoop_holdKept (k : Nat) (s : State) : (grantLoop k s).HoldKept s := by
  induction k generalizing s with
  | zero => exact .refl s
  | succ k ih =>
    have hone (l : Lds) (m : Move) : (grantOne (s.setLds l) m).2.HoldKept s :=
      (grantOne_holdKept ..).trans (s.holdKept_setLds _)
    unfold grantLoop
    refine State.holdKept_ite ?_ (.refl s)
    split
    · exact .refl s
    all_goals exact State.holdKept_ite ((ih _).trans (hone ..)) (hone ..)

theorem State.grant_holdKept (s : State) : s.grant.HoldKept s := grantLoop_holdKept _ s

theorem endStopped_holdKept (s : State) (m : Move) : (endStopped s m).HoldKept s :=
  (State.grant_holdKept _).trans
    (State.holdKept_ite (s.holdKept_setLds _) ((moveStopped_holdKept ..).trans (s.holdKept_setLds _)))

theorem endComplete_holdKept (s : State) (m : Move) : (endComplete s m).HoldKept s :=
  (State.grant_holdKept _).trans ((moveComplete_holdKept ..).trans (s.holdKept_setLds _))

theorem preempt_holdKept (s : State) (m : Move) (src : Source) (r : Request) : (preempt s m src r).HoldKept s := by
  have hone (l : Lds) (n : Move) : (grantOne (s.setLds l) n).2.HoldKept s :=
    (grantOne_holdKept ..).trans (s.holdKept_setLds _)
  unfold preempt
  exact State.holdKept_ite ((State.grant_holdKept _).trans (hone ..)) (hone ..)

theorem losePosition_holdKept (s : State) (m : Move) : (losePosition s m).HoldKept s := by
  have hlost (ks : List Source) (u : State) : (ks.foldl moveLost u).HoldKept u := by
    induction ks generalizing u with
    | nil => exact .refl u
    | cons k ks ih => exact (ih _).trans (moveLost_holdKept u k)
  unfold losePosition
  refine (State.grant_holdKept _).trans (State.holdKept_ite ?_ ?_)
  · exact (afcFocusInvalid_holdKept _).trans ((hlost _ _).trans (.of_eq rfl rfl))
  · exact (hlost _ _).trans (.of_eq rfl rfl)

theorem takeStep_holdKept (s : State) (m : Move) (sample : LensSample) : (takeStep s m sample).HoldKept s := by
  have hstep (l : Lds) : (signalStep (s.setLds l) m.motor).HoldKept s :=
    (signalStep_holdKept ..).trans (s.holdKept_setLds l)
  unfold takeStep
  exact State.holdKept_ite ((losePosition_holdKept ..).trans (hstep _))
    (State.holdKept_ite ((endComplete_holdKept ..).trans (hstep _)) ((State.holdKept_setLds ..).trans (hstep _)))

theorem boundaryOn_holdKept (s : State) (m : Move) (sample : LensSample) : (boundaryOn s m sample).HoldKept s := by
  unfold boundaryOn
  split
  · exact preempt_holdKept ..
  · exact State.holdKept_ite (State.holdKept_ite (endComplete_holdKept ..) (takeStep_holdKept ..)) (takeStep_holdKept ..)

theorem stepBoundary_holdKept (s : State) (sample : LensSample) (b : Bool) : (stepBoundary s sample b).HoldKept s := by
  unfold stepBoundary
  split
  · exact .refl s
  · exact State.holdKept_ite (State.holdKept_ite (boundaryOn_holdKept ..) (endStopped_holdKept ..)) (boundaryOn_holdKept ..)

theorem nextPhase_holdKept (s : State) (m : Motor) : (nextPhase s m).HoldKept s := by
  cases m with
  | iris | focus => exact s.holdKept_setLds _
  | zoom => exact (State.grant_holdKept _).trans (.of_eq rfl rfl)

theorem referenceStep_holdKept (s : State) (sample : LensSample) : (referenceStep s sample).HoldKept s := by
  unfold referenceStep
  split
  · exact .refl s
  · next r _ =>
    have hstep (l : Lds) : (signalStep (s.setLds l) r.motor).HoldKept s :=
      (signalStep_holdKept ..).trans (s.holdKept_setLds l)
    refine State.holdKept_ite ((State.grant_holdKept _).trans (s.holdKept_setLds _)) (State.holdKept_ite ?_
      (State.holdKept_ite ?_ ?_))
    · exact (nextPhase_holdKept ..).trans ((State.holdKept_setLds ..).trans (hstep _))
    · exact (nextPhase_holdKept ..).trans ((State.holdKept_raise ..).trans (hstep _))
    · exact (State.holdKept_setLds ..).trans (hstep _)

theorem lensStop_holdKept (s : State) : (lensStop s).HoldKept s := by
  unfold lensStop
  exact State.holdKept_ite (.of_eq rfl rfl) (.of_eq rfl rfl)

/-! ### The Capture Store (chapter 8) -/

theorem setSlot_holdKept (s : State) (i : Nat) (f : Slot → Slot) : (setSlot s i f).HoldKept s := .of_eq rfl rfl

theorem freeSlotAt_holdKept (s : State) (i : Nat) : (freeSlotAt s i).HoldKept s := setSlot_holdKept ..

theorem autoRelease_holdKept (s : State) (i : Nat) : (autoRelease s i).HoldKept s := by
  unfold autoRelease
  split
  · exact State.holdKept_ite (freeSlotAt_holdKept ..) (.refl s)
  · exact .refl s

theorem slotReturns_holdKept (s : State) (i : Nat) : (slotReturns s i).HoldKept s := by
  unfold slotReturns
  split
  · exact State.holdKept_ite ((autoRelease_holdKept ..).trans (setSlot_holdKept ..)) (.refl s)
  · exact .refl s

/-- Any number of such operations, one slot after another. -/
theorem foldl_holdKept {f : State → Nat → State} (h : ∀ s i, (f s i).HoldKept s) (ks : List Nat) (s : State) :
    (ks.foldl f s).HoldKept s := by
  induction ks generalizing s with
  | nil => exact .refl s
  | cons k ks ih => exact (ih _).trans (h s k)

theorem freeFilling_holdKept (s : State) : (freeFilling s).HoldKept s := foldl_holdKept freeSlotAt_holdKept _ s

theorem passWithheld_holdKept (s : State) : (passWithheld s).HoldKept s := by
  unfold passWithheld
  exact State.holdKept_ite
    (State.holdKept_ite (s.holdKept_setCst _) ((afcS1Release_holdKept _).trans (s.holdKept_setCst _))) (.refl s)

theorem tellCaptureEnd_holdKept (s : State) : (tellCaptureEnd s).HoldKept s :=
  State.holdKept_ite (.of_states ⟨rfl, rfl, rfl, rfl⟩ rfl rfl) (.refl s)

theorem captureEnds_holdKept (s : State) (st : CaptureState) : (captureEnds s st).HoldKept s :=
  (passWithheld_holdKept _).trans ((State.holdKept_setCst ..).trans (tellCaptureEnd_holdKept s))

theorem storeStop_holdKept (s : State) : (storeStop s).HoldKept s :=
  State.holdKept_ite (.refl s) ((captureEnds_holdKept ..).trans (freeFilling_holdKept s))

theorem checkCaptureDone_holdKept (s : State) : (checkCaptureDone s).HoldKept s :=
  State.holdKept_ite ((captureEnds_holdKept ..).trans (s.holdKept_raise _)) (.refl s)

/-- A trigger takes the marks of the records away, and leaves their frame numbers (R53). -/
theorem aecTrigger_sameRecords (a : Aec) : (aecTrigger a).SameRecords a where
  effective := List.map_map ..
  awaiting := Option.isSome_map ..
  retry := Option.isSome_map ..
  sequence := Option.isSome_map ..

theorem takeTrigger_holdKept (s : State) : (takeTrigger s).HoldKept s := .of_states (aecTrigger_sameRecords s.aec) rfl rfl

theorem gateExpires_holdKept (s : State) : (gateExpires s).HoldKept s := by
  unfold gateExpires
  split
  · exact s.holdKept_setCst _
  · exact (captureEnds_holdKept ..).trans (s.holdKept_raise _)

theorem gateSof_holdKept (s : State) : (gateSof s).HoldKept s :=
  State.holdKept_ite (State.holdKept_ite (s.holdKept_setCst _)
    (State.holdKept_ite (gateExpires_holdKept s) (s.holdKept_setCst _))) (.refl s)

theorem missFrame_holdKept (s : State) (part : Part) : (missFrame s part).HoldKept s :=
  (checkCaptureDone_holdKept _).trans (s.holdKept_setCst _)

theorem openSlot_holdKept (s : State) (i : Nat) (part : Part) (fm : FrameFacts) (n : Nat) :
    (openSlot s i part fm n).HoldKept s :=
  (setSlot_holdKept ..).trans (s.holdKept_setCst _)

theorem storeFrame_holdKept (s : State) (part : Part) (fm : FrameFacts) (n : Nat) : (storeFrame s part fm n).HoldKept s := by
  unfold storeFrame
  split
  · exact openSlot_holdKept ..
  · split
    · exact (openSlot_holdKept ..).trans (freeSlotAt_holdKept ..)
    · exact missFrame_holdKept ..

theorem storePre_holdKept (s : State) (fm : FrameFacts) : (storePre s fm).HoldKept s := by
  unfold storePre
  refine State.holdKept_ite ?_ (storeFrame_holdKept ..)
  split
  · exact (storeFrame_holdKept ..).trans (freeSlotAt_holdKept ..)
  · exact missFrame_holdKept ..

theorem storeFiltered_holdKept (s : State) (part : Part) (fm : FrameFacts) : (storeFiltered s part fm).HoldKept s :=
  State.holdKept_ite (s.holdKept_setCst _) ((storeFrame_holdKept ..).trans (s.holdKept_setCst _))

theorem cstSof_holdKept (s : State) (fm : FrameFacts) : (cstSof s fm).HoldKept s := by
  refine .trans ?_ (gateSof_holdKept s)
  unfold cstSof
  dsimp only
  split
  · exact .refl _
  · exact storePre_holdKept ..
  · exact storeFiltered_holdKept ..

theorem noticeFiled_holdKept (s : State) (held : Bool) : (noticeFiled s held).HoldKept s := by
  unfold noticeFiled
  split
  · exact .refl s
  · exact s.holdKept_raise _
  · exact State.holdKept_ite (.of_eq rfl rfl) (.refl s)
  · exact s.holdKept_raise _
  · exact .refl s

theorem cstEof_holdKept (s : State) (b : Bool) : (cstEof s b).HoldKept s := by
  unfold cstEof
  split
  · split
    · split
      · exact (checkCaptureDone_holdKept _).trans ((noticeFiled_holdKept ..).trans (.of_eq rfl rfl))
      · exact .refl s
    · exact .refl s
  · exact .refl s

theorem s1Assertion_holdKept (s : State) : (s1Assertion s).HoldKept s := by
  unfold s1Assertion
  exact State.holdKept_ite
    ((State.grant_holdKept _).trans ((afcS1Assert_holdKept _).trans (s.holdKept_setCst _))) (s.holdKept_setCst _)

theorem s1Release_holdKept (s : State) : (s1Release s).HoldKept s :=
  State.holdKept_ite (s.holdKept_setCst _) ((State.grant_holdKept _).trans (afcS1Release_holdKept s))

theorem s2Assertion_holdKept (s : State) : (s2Assertion s).HoldKept s := by
  unfold s2Assertion
  split
  · exact takeTrigger_holdKept s
  · exact .refl s

theorem shutterActs_holdKept (s : State) (w : ShutterLine) (b : Bool) : (shutterActs s w b).HoldKept s := by
  unfold shutterActs
  refine State.holdKept_ite ?_ (.refl s)
  split
  · exact s1Assertion_holdKept s
  · exact s1Release_holdKept s
  · exact s2Assertion_holdKept s
  · exact .refl s

theorem debounceTakes_holdKept (s : State) (w : ShutterLine) : (debounceTakes s w).HoldKept s := by
  unfold debounceTakes
  exact State.holdKept_ite (s.holdKept_setCst _) ((shutterActs_holdKept ..).trans (s.holdKept_setCst _))

theorem rawChanges_holdKept (s : State) (w : ShutterLine) (b : Bool) : (rawChanges s w b).HoldKept s := by
  unfold rawChanges
  exact State.holdKept_ite (.refl s)
    (State.holdKept_ite ((debounceTakes_holdKept ..).trans (s.holdKept_setCst _)) (s.holdKept_setCst _))

theorem debounceExpires_holdKept (s : State) (w : ShutterLine) : (debounceExpires s w).HoldKept s :=
  State.holdKept_ite (debounceTakes_holdKept s w) (.refl s)

end Sys2Proof.Machine
end

section
/-! SUPPORT. The records of R49 and the hold of R33 through the motion unit, the link, the tables and every host command:
all commands and events but eight leave both. -/

namespace Sys2Proof.Machine

/-! ### The records as R49 orders them -/

theorem inFlightOrdered_iff (a : Aec) (fn : Nat) : a.InFlightOrdered fn ↔
    (a.inFlight.map (·.effective)).Pairwise (fun x y => fnLater y x = true) ∧
    (a.inFlight.map (·.effective)).countP (fnLater · fn) + (if a.awaiting.isSome then 1 else 0) +
      (if a.retry.isSome then 1 else 0) + (if a.sequence.isSome then 1 else 0) ≤ 1 := by
  unfold Aec.InFlightOrdered
  rw [List.pairwise_map, List.countP_map]
  rfl

theorem Aec.SameRecords.inFlightOrdered {a b : Aec} {fn : Nat} (h : b.SameRecords a) (ha : a.InFlightOrdered fn) :
    b.InFlightOrdered fn := by
  rw [inFlightOrdered_iff] at ha ⊢
  rw [h.effective, h.awaiting, h.retry, h.sequence]
  exact ha

/-! ### Motion, tables and link -/

theorem shiftLimitSample_holdKept (s : State) : (shiftLimitSample s).HoldKept s :=
  State.holdKept_ite (.of_eq rfl rfl) (.refl s)

theorem rateSample_holdKept (s : State) (seq : Nat) (yaw pitch : Int) : (rateSample s seq yaw pitch).HoldKept s := by
  have hgap (b : Prop) [Decidable b] : (if b then s else s.raise condMotionGap).HoldKept s :=
    State.holdKept_ite (.refl s) (s.holdKept_raise _)
  unfold rateSample
  dsimp only
  split
  · exact hgap _
  · exact (shiftLimitSample_holdKept _).trans ((State.holdKept_level ..).trans ((State.holdKept_setMou ..).trans (hgap _)))

theorem takeReadback_holdKept (s : State) (r : AxisPair) : (takeReadback s r).HoldKept s := by
  unfold takeReadback
  dsimp only
  repeat' split
  all_goals exact .of_eq rfl rfl

/-- New exposure tables bring settings within them, and leave the records' frame numbers (R35). -/
theorem aecClampTables_sameRecords (a : Aec) (tMax gMax : Nat) : (aecClampTables a tMax gMax).SameRecords a where
  effective := List.map_map ..
  awaiting := Option.isSome_map ..
  retry := Option.isSome_map ..
  sequence := Option.isSome_map ..

theorem aecClamp_holdKept (s : State) : (aecClamp s).HoldKept s := .of_states (aecClampTables_sameRecords ..) rfl rfl

theorem applyCommit_holdKept (s : State) (id : Nat) : (applyCommit s id).HoldKept s :=
  State.holdKept_ite (.of_eq rfl rfl) (.refl s)

theorem applyCommits_holdKept (s : State) : (applyCommits s).HoldKept s := by
  have hall := foldl_holdKept applyCommit_holdKept (List.range 14) s
  unfold applyCommits
  exact State.holdKept_ite ((aecClamp_holdKept _).trans hall) hall

theorem applyIfStopped_holdKept (s : State) : (applyIfStopped s).HoldKept s :=
  State.holdKept_ite (applyCommits_holdKept s) (.refl s)

theorem commitTable_holdKept (id : Nat) (s : State) : (commitTable id s).1.HoldKept s := by
  unfold commitTable
  repeat' split
  iterate 3 exact .refl s
  exact (applyIfStopped_holdKept _).trans (.of_eq rfl rfl)

theorem takeFetch_holdKept (s : State) (i : Nat) (f : Fetch) : (takeFetch s i f).HoldKept s := by
  unfold takeFetch
  exact State.holdKept_ite (.of_eq rfl rfl) (.of_eq rfl rfl)

theorem fetchCommand_holdKept (tag : Tag) (a : FetchArgs) (s : State) : (fetchCommand tag a s).1.HoldKept s := by
  unfold fetchCommand
  repeat' split
  iterate 3 exact .refl s
  · dsimp only
    split
    · exact .refl s
    · exact takeFetch_holdKept ..
  · exact .refl s

theorem abortFetch_holdKept (s : State) : (abortFetch s).HoldKept s := by
  unfold abortFetch
  split
  · exact .refl s
  · exact State.holdKept_ite (.refl s)
      (State.holdKept_ite ((slotReturns_holdKept ..).trans (s.holdKept_setCst _)) (s.holdKept_setCst _))

theorem recordSent_holdKept (s : State) (i order : Nat) : (recordSent s i order).HoldKept s := by
  have hmark : (match s.cst.slots[i]? with
      | some x => if holdsFrame x order then autoRelease (setSlot s i fun y => { y with recordSent := true }) i else s
      | none => s).HoldKept s := by
    split
    · exact State.holdKept_ite ((autoRelease_holdKept ..).trans (setSlot_holdKept ..)) (.refl s)
    · exact .refl s
  unfold recordSent
  dsimp only
  split
  · exact State.holdKept_ite hmark ((State.holdKept_setCst ..).trans hmark)
  · exact hmark

theorem packetEnds_holdKept (s : State) : (packetEnds s).HoldKept s := by
  have himage (u : State) : (imageSent u).HoldKept u := by
    unfold imageSent
    split
    · exact (slotReturns_holdKept ..).trans (.of_eq rfl rfl)
    · exact .refl u
  have habort (u : State) : (abortSent u).HoldKept u := by
    unfold abortSent
    split
    · exact State.holdKept_ite (.of_eq rfl rfl) (.of_eq rfl rfl)
    · exact .refl u
  unfold packetEnds
  split
  · exact .refl s
  · dsimp only
    split
    · exact s.holdKept_setLnk _
    · exact (recordSent_holdKept ..).trans (s.holdKept_setLnk _)
    · exact State.holdKept_ite ((himage _).trans (s.holdKept_setLnk _)) (s.holdKept_setLnk _)
    · exact (habort _).trans (s.holdKept_setLnk _)

theorem sendNext_holdKept (s : State) : (sendNext s).HoldKept s := by
  unfold sendNext
  split
  iterate 3 exact .of_eq rfl rfl
  · cases s.offer <;> exact .of_eq rfl rfl
  · exact .of_eq rfl rfl
  · exact .refl s

theorem execPacketBoundary_holdKept {s t : State} (h : execPacketBoundary s = .next t) : t.HoldKept s := by
  unfold execPacketBoundary at h
  dsimp only at h
  split at h
  · cases h
  · cases h
    exact (sendNext_holdKept _).trans (packetEnds_holdKept s)

theorem execLine_holdKept {pixels : List Nat} {s t : State} (h : execLine pixels s = .next t) : t.HoldKept s := by
  have hwrite (u : State) (y : Nat) (line : List Nat) : (writeLine u y line).HoldKept u := by
    unfold writeLine
    split
    · exact u.holdKept_setCst _
    · exact .refl u
  have htake : (takeLine s pixels).HoldKept s := by
    have hpass (u : State) (y : Nat) (line : List Nat) : (passLine u y line).HoldKept u :=
      (hwrite ..).trans (.of_eq rfl rfl)
    unfold takeLine
    exact State.holdKept_ite ((hpass ..).trans (s.holdKept_setIntake _))
      ((State.holdKept_raise ..).trans ((hpass ..).trans (s.holdKept_setIntake _)))
  unfold execLine at h
  split at h
  · cases h; exact .refl s
  · split at h
    · cases h; exact s.holdKept_raise _
    · split at h
      · cases h
      · cases h; exact htake

/-! ### Host commands (R176) -/

theorem takeCommand_holdKept {i : Instr} {s : State} {tag : Tag} {code : Byte} {block : State → State × Answer}
    (h : ∀ u, (block u).1.HoldKept u) : (takeCommand i tag code block s).HoldKept s :=
  State.holdKept_ite ((State.holdKept_setLnk ..).trans ((h _).trans (s.holdKept_setLnk _))) (.refl s)

theorem hostCommand_holdKept {α : Type} {i : Instr} {s : State} {tag : Tag} {code : Byte} {p : Payload α}
    {block : α → State → State × Answer} (h : ∀ a u, (block a u).1.HoldKept u) :
    (hostCommand i tag code p block s).HoldKept s :=
  takeCommand_holdKept fun u => by
    cases p with
    | args a => exact h a u
    | wrongLength => exact .refl u

/-- The states AE_MODE asks for are OFF, RUN and LOCKED; RUN is HELD while AFC scans (R32). -/
theorem aeModeState_of_arg {n : Nat} {mode : AeState} (h : aeModeArg? n = some mode) (s : State) :
    (aeModeState s mode = .run → s.afc.state.scanning = false) ∧
    (aeModeState s mode = .held → s.afc.state.scanning = true) := by
  have hmode : mode = .off ∨ mode = .run ∨ mode = .locked := by
    unfold aeModeArg? at h
    split at h <;> simp_all
  unfold aeModeState
  rcases hmode with rfl | rfl | rfl <;> cases s.afc.state.scanning <;> decide

theorem aeModeChanges_holdKept {s : State} {st : AeState} (hrun : st = .run → s.afc.state.scanning = false)
    (hheld : st = .held → s.afc.state.scanning = true) : (aeModeChanges s st).HoldKept s := by
  have hhold {t : State} (ha : t.aec.state = st) (hf : t.afc.state = s.afc.state) : t.FocusHoldsExposure := by
    unfold State.FocusHoldsExposure
    rw [ha, hf]
    exact ⟨fun hscan h => by simp [hrun h] at hscan, hheld⟩
  exact State.holdKept_ite ⟨⟨rfl, rfl, rfl, rfl⟩, fun _ => hhold rfl rfl⟩ ⟨⟨rfl, rfl, rfl, rfl⟩, fun _ => hhold rfl rfl⟩

theorem aeMode_holdKept (n : Nat) (s : State) : (aeMode n s).1.HoldKept s := by
  unfold aeMode
  split
  · exact .refl s
  · next hmode =>
    obtain ⟨hrun, hheld⟩ := aeModeState_of_arg hmode s
    split
    · exact .refl s
    · exact State.holdKept_ite (.refl s) (aeModeChanges_holdKept hrun hheld)

theorem aeSetup_holdKept (a : AeSetupArgs) (s : State) : (aeSetup a s).1.HoldKept s := by
  unfold aeSetup
  split
  · exact .refl s
  · exact .of_states ⟨rfl, rfl, rfl, rfl⟩ rfl rfl

theorem aeManual_holdKept (a : AeManualArgs) (s : State) : (aeManual a s).1.HoldKept s := by
  unfold aeManual
  repeat' split
  iterate 2 exact .refl s
  exact .of_states ⟨rfl, rfl, rfl, rfl⟩ rfl rfl

theorem lensSetup_holdKept (a : LensSetupArgs) (s : State) : (lensSetup a s).1.HoldKept s := by
  unfold lensSetup lensSetupTaken
  repeat' split
  iterate 2 exact .refl s
  exact State.holdKept_ite (State.holdKept_ite ((afcFocusInvalid_holdKept _).trans (s.holdKept_setLds _))
    (s.holdKept_setLds _)) (s.holdKept_setLds _)

theorem focusMove_holdKept (a : MoveArgs) (s : State) : (focusMove a s).1.HoldKept s := by
  unfold focusMove
  repeat' split
  iterate 3 exact .refl s
  exact (State.grant_holdKept _).trans (s.holdKept_place ..)

theorem lensReference_holdKept (s : State) : (lensReference s).1.HoldKept s := by
  unfold lensReference
  repeat' split
  iterate 2 exact .refl s
  exact s.holdKept_setLds _

theorem lensPark_holdKept (s : State) : (lensPark s).1.HoldKept s := by
  unfold lensPark
  repeat' split
  iterate 3 exact .refl s
  exact (State.grant_holdKept _).trans (parkRequest_holdKept ..)

/-- A taken AF_SETUP leaves AFC's state or has AFC enter IDLE (R83). -/
theorem afSetupTaken_holdKept (s : State) (c : AfChoice) (a : AfSetupArgs) : (afSetupTaken s c a).HoldKept s := by
  unfold afSetupTaken
  exact State.holdKept_ite (State.holdKept_ite (afcEnter_holdKept (by rfl) .idle) (.of_eq rfl rfl)) (.of_eq rfl rfl)

theorem afSetup_holdKept (a : AfSetupArgs) (s : State) : (afSetup a s).1.HoldKept s := by
  unfold afSetup
  repeat' split
  iterate 2 exact .refl s
  exact afSetupTaken_holdKept ..

theorem afStart_holdKept (s : State) : (afStart s).1.HoldKept s := by
  unfold afStart
  split
  · exact .refl s
  · exact (State.grant_holdKept _).trans (afcScanStart_holdKept s)

theorem zoomSetup_holdKept (n : Nat) (s : State) : (zoomSetup n s).1.HoldKept s := by
  unfold zoomSetup
  split
  · exact s.holdKept_setZmc _
  · exact .refl s

theorem zoomTo_holdKept (a : MoveArgs) (s : State) : (zoomTo a s).1.HoldKept s := by
  unfold zoomTo
  split
  · exact .refl s
  · exact (State.grant_holdKept _).trans (zmcCommand_holdKept ..)

theorem zoomBy_holdKept (a : ZoomByArgs) (s : State) : (zoomBy a s).1.HoldKept s := by
  unfold zoomBy
  split
  · exact .refl s
  · exact (State.grant_holdKept _).trans (zmcCommand_holdKept ..)

theorem storeSetup_holdKept (a : StoreSetupArgs) (s : State) : (storeSetup a s).1.HoldKept s := by
  unfold storeSetup
  repeat' split
  iterate 4 exact .refl s
  exact (foldl_holdKept autoRelease_holdKept ..).trans (s.holdKept_setCst _)

theorem storeStart_holdKept (s : State) : (storeStart s).1.HoldKept s := by
  unfold storeStart
  split
  · exact .refl s
  · dsimp only
    split
    · exact .refl s
    · exact s.holdKept_setCst _

theorem triggerCommand_holdKept (s : State) : (triggerCommand s).1.HoldKept s := by
  unfold triggerCommand
  split
  · exact .refl s
  · exact takeTrigger_holdKept s

theorem slotCommand_holdKept {need : SlotState} {effect : State → Nat → State} (h : ∀ s n, (effect s n).HoldKept s) (n : Nat)
    (s : State) : (slotCommand need effect n s).1.HoldKept s := by
  unfold slotCommand
  repeat' split
  · exact .refl s
  · exact h s n
  · exact .refl s

/-! ### Every command and event but eight -/

/-- The commands and events after which AEC's records may be others, or after which AEC and AFC start afresh: resets, a
frame's start and end, PATH_STOP, and the sensor control port. -/
def touchesRecords : Instr → Bool
  | .powerOnReset _ | .frameStart | .frameEnd | .frameTimeout | .pathStop _ _ | .reset _ _ | .writeItemAcknowledged
  | .writeItemNotAcknowledged => true
  | _ => false

/-- Any other command or event leaves the records, and the exposure held where it was (R33, R49). -/
theorem exec_holdKept {i : Instr} (hi : touchesRecords i = false) {s t : State} (h : exec i s = .next t) : t.HoldKept s := by
  cases i with
  | powerOnReset | frameStart | frameEnd | frameTimeout | pathStop | reset | writeItemAcknowledged
  | writeItemNotAcknowledged => cases hi
  | line => exact execLine_holdKept h
  | packetBoundary => exact execPacketBoundary_holdKept h
  | upstreamPacket => cases h; exact s.holdKept_setLnk _
  | unknownCommand => cases h; exact takeCommand_holdKept fun u => .refl u
  | pathSetup =>
    cases h
    refine hostCommand_holdKept fun a u => ?_
    unfold pathSetup
    dsimp only
    repeat' split
    all_goals exact .of_eq rfl rfl
  | pathStart =>
    cases h
    refine hostCommand_holdKept fun _ u => ?_
    unfold pathStart
    split
    · exact u.holdKept_setIntake _
    · exact .refl u
  | statsSetup => cases h; exact hostCommand_holdKept fun _ _ => .of_eq rfl rfl
  | aeMode => cases h; exact hostCommand_holdKept aeMode_holdKept
  | aeSetup => cases h; exact hostCommand_holdKept aeSetup_holdKept
  | aeManual => cases h; exact hostCommand_holdKept aeManual_holdKept
  | lensSetup => cases h; exact hostCommand_holdKept lensSetup_holdKept
  | focusMove => cases h; exact hostCommand_holdKept focusMove_holdKept
  | lensStop => cases h; exact hostCommand_holdKept fun _ => lensStop_holdKept
  | lensReference => cases h; exact hostCommand_holdKept fun _ => lensReference_holdKept
  | lensPark => cases h; exact hostCommand_holdKept fun _ => lensPark_holdKept
  | afSetup => cases h; exact hostCommand_holdKept afSetup_holdKept
  | afStart => cases h; exact hostCommand_holdKept fun _ => afStart_holdKept
  | afCancel => cases h; exact hostCommand_holdKept fun _ => afcCancel_holdKept
  | afHistory => cases h; exact hostCommand_holdKept fun _ u => .refl u
  | zoomSetup => cases h; exact hostCommand_holdKept zoomSetup_holdKept
  | zoomTo => cases h; exact hostCommand_holdKept zoomTo_holdKept
  | zoomBy => cases h; exact hostCommand_holdKept zoomBy_holdKept
  | zoomStop =>
    cases h
    exact hostCommand_holdKept fun _ u => (State.grant_holdKept _).trans (zmcStop_holdKept u)
  | stabMode =>
    cases h
    refine hostCommand_holdKept fun _ _ => ?_
    unfold stabModeCommand
    repeat' split
    all_goals exact .of_eq rfl rfl
  | stabCenter => cases h; exact hostCommand_holdKept fun _ _ => .of_eq rfl rfl
  | stabSetup =>
    cases h
    refine hostCommand_holdKept fun _ _ => ?_
    unfold stabSetup
    split <;> exact .of_eq rfl rfl
  | storeSetup => cases h; exact hostCommand_holdKept storeSetup_holdKept
  | storeStart => cases h; exact hostCommand_holdKept fun _ => storeStart_holdKept
  | storeStop => cases h; exact hostCommand_holdKept fun _ => storeStop_holdKept
  | trigger => cases h; exact hostCommand_holdKept fun _ => triggerCommand_holdKept
  | accept =>
    cases h
    exact hostCommand_holdKept (slotCommand_holdKept fun u n => (autoRelease_holdKept ..).trans (setSlot_holdKept ..))
  | discard => cases h; exact hostCommand_holdKept (slotCommand_holdKept freeSlotAt_holdKept)
  | release => cases h; exact hostCommand_holdKept (slotCommand_holdKept freeSlotAt_holdKept)
  | fetch tag => cases h; exact hostCommand_holdKept (fetchCommand_holdKept tag)
  | sendAbort => cases h; exact hostCommand_holdKept fun _ => abortFetch_holdKept
  | noticeArm => cases h; exact hostCommand_holdKept fun _ u => u.holdKept_setCst _
  | shutterSetup =>
    cases h
    refine hostCommand_holdKept fun _ _ => ?_
    unfold shutterSetup
    split <;> exact .of_eq rfl rfl
  | conditionsSetup =>
    cases h
    refine hostCommand_holdKept fun _ _ => ?_
    unfold conditionsSetup
    split <;> exact .of_eq rfl rfl
  | conditionsClear =>
    cases h
    refine hostCommand_holdKept fun _ _ => ?_
    unfold conditionsClear
    split <;> exact .of_eq rfl rfl
  | tableLoad =>
    cases h
    refine hostCommand_holdKept fun _ _ => ?_
    unfold loadTable
    repeat' split
    all_goals exact .of_eq rfl rfl
  | tableCommit => cases h; exact hostCommand_holdKept commitTable_holdKept
  | tableRead =>
    cases h
    refine hostCommand_holdKept fun _ _ => ?_
    unfold readTable
    repeat' split
    all_goals exact .refl _
  | statusQuery => cases h; exact hostCommand_holdKept fun _ u => .refl u
  | resetCompletion =>
    cases h
    unfold resetCompletes
    split
    · exact State.holdKept_ite (s.holdKept_setLnk _) (.refl s)
    · exact .refl s
  | stepBoundary => cases h; exact stepBoundary_holdKept ..
  | referenceStep => cases h; exact referenceStep_holdKept ..
  | rateSample => cases h; exact rateSample_holdKept ..
  | readback => cases h; exact takeReadback_holdKept ..
  | strobeRise => cases h; exact State.holdKept_ite (.refl s) (.of_eq rfl rfl)
  | strobeFall => cases h; exact State.holdKept_ite (.of_eq rfl rfl) (.refl s)
  | shutterLevelChange => cases h; exact rawChanges_holdKept ..
  | debounceExpiry => cases h; exact debounceExpires_holdKept ..
  | gateExpiry => cases h; exact State.holdKept_ite (gateExpires_holdKept s) (.refl s)
  | settleTimeout =>
    cases h
    exact State.holdKept_ite ((State.grant_holdKept _).trans (afcSettleSof_holdKept ..)) (.refl s)
  | timedLatchExpiry => cases h; exact State.holdKept_ite (.refl s) (.of_eq rfl rfl)

end Sys2Proof.Machine
end

section
/-! PROOF of the statements on the exposure held during a scan (R33) and on the order of the in-flight list (R49): AEC at a
frame's start and end, the sensor control port, PATH_STOP and the resets. -/

namespace Sys2Proof.Machine

/-! ### An EOF: at most one record is issued (R40, R47, R52, R53) -/

/-- The records and parameters of t are those of s but for one record that may have been issued, and the exposure held in s
is held in t. -/
structure State.AtMostIssues (t s : State) : Prop where
  effective : t.aec.inFlight.map (·.effective) = s.aec.inFlight.map (·.effective)
  retry : t.aec.retry.isSome = s.aec.retry.isSome
  sequence : t.aec.sequence.isSome = s.aec.sequence.isSome
  params : t.aec.params = s.aec.params
  hold : s.FocusHoldsExposure → t.FocusHoldsExposure

theorem State.HoldKept.atMostIssues {s t : State} (h : t.HoldKept s) (hp : t.aec.params = s.aec.params) : t.AtMostIssues s :=
  ⟨h.records.effective, h.records.retry, h.records.sequence, hp, h.hold⟩

theorem State.AtMostIssues.refl (s : State) : s.AtMostIssues s := (State.HoldKept.refl s).atMostIssues rfl

theorem State.AtMostIssues.trans {s t u : State} (h : u.AtMostIssues t) (g : t.AtMostIssues s) : u.AtMostIssues s :=
  ⟨h.effective.trans g.effective, h.retry.trans g.retry, h.sequence.trans g.sequence, h.params.trans g.params,
    fun hs => h.hold (g.hold hs)⟩

theorem State.atMostIssues_ite {p : Prop} [Decidable p] {s t u : State} (h : t.AtMostIssues s) (g : u.AtMostIssues s) :
    (if p then t else u).AtMostIssues s := by
  split
  · exact h
  · exact g

/-- An update of AEC beside its state, its parameters and the records that are not new. -/
theorem State.atMostIssues_setAec {s : State} {a : Aec} (h : a.inFlight = s.aec.inFlight ∧ a.retry = s.aec.retry ∧
    a.sequence = s.aec.sequence ∧ a.params = s.aec.params ∧ a.state = s.aec.state) : (s.setAec a).AtMostIssues s := by
  obtain ⟨hl, hr, hq, hp, hs⟩ := h
  exact ⟨congrArg (·.map (·.effective)) hl, congrArg Option.isSome hr, congrArg Option.isSome hq, hp,
    fun h => h.of_states hs rfl⟩

theorem State.atMostIssues_raise (s : State) (k : Nat) : (s.raise k).AtMostIssues s := (s.holdKept_raise k).atMostIssues rfl

theorem aecJudge_atMostIssues (s : State) : (aecJudge s).AtMostIssues s := (aecJudge_holdKept s).atMostIssues rfl

theorem State.FocusOnly.params {s t : State} (h : t.FocusOnly s) : t.aec.params = s.aec.params := by rw [h.aec]

theorem aecJudgeRecords_params (s : State) : (aecJudgeRecords s).aec.params = s.aec.params := (aecJudgeRecords_focus s).params

theorem aecJudgeRecords_atMostIssues (s : State) : (aecJudgeRecords s).AtMostIssues s :=
  (aecJudgeRecords_holdKept s).atMostIssues (aecJudgeRecords_params s)

theorem requestIris_atMostIssues (s : State) (target : Nat) : (requestIris s target).AtMostIssues s :=
  State.HoldKept.atMostIssues (State.holdKept_ite ((State.grant_holdKept _).trans (s.holdKept_place ..)) (.refl s))
    (requestIris_focus ..).params

theorem captureCopy_atMostIssues (s : State) : (captureCopy s).AtMostIssues s := by
  unfold captureCopy
  refine State.atMostIssues_ite ?_ (.refl s)
  split
  · exact (aecJudgeRecords_atMostIssues _).trans (State.atMostIssues_setAec ⟨rfl, rfl, rfl, rfl, rfl⟩)
  · exact .refl s

theorem issueOff_atMostIssues (s : State) : (issueOff s).AtMostIssues s := by
  unfold issueOff
  split
  · refine State.atMostIssues_ite (State.atMostIssues_ite (.refl s) ?_) (State.atMostIssues_setAec ⟨rfl, rfl, rfl, rfl, rfl⟩)
    exact (requestIris_atMostIssues ..).trans
      ((aecJudgeRecords_atMostIssues _).trans (State.atMostIssues_setAec ⟨rfl, rfl, rfl, rfl, rfl⟩))
  · exact captureCopy_atMostIssues s

theorem invalidFrame_atMostIssues (s : State) : (invalidFrame s).AtMostIssues s :=
  (aecJudge_atMostIssues _).trans (State.atMostIssues_setAec ⟨rfl, rfl, rfl, rfl, rfl⟩)

theorem reportStages_atMostIssues (s : State) (c : Computed) : (reportStages s c).AtMostIssues s := by
  have hset : (s.setAec { s.aec with m := c.m, e := c.e, tEff := c.tEff }).AtMostIssues s :=
    State.atMostIssues_setAec ⟨rfl, rfl, rfl, rfl, rfl⟩
  exact State.atMostIssues_ite ((State.atMostIssues_raise ..).trans hset) hset

theorem settleFrame_atMostIssues (s : State) (c : Computed) (p : Plan) (w : Bool) : (settleFrame s c p w).AtMostIssues s :=
  (aecJudge_atMostIssues _).trans ((State.atMostIssues_setAec (by simp)).trans
    (State.atMostIssues_ite (s.atMostIssues_raise _) (.refl s)))

theorem issueDecision_atMostIssues (s : State) (p : Plan) (w : Bool) : (issueDecision s p w).AtMostIssues s := by
  have hissue : (s.setAec (issueRecord s.aec p.setting)).AtMostIssues s :=
    State.atMostIssues_setAec ⟨rfl, rfl, rfl, rfl, rfl⟩
  unfold issueDecision
  exact State.atMostIssues_ite (State.atMostIssues_ite ((requestIris_atMostIssues ..).trans hissue) hissue) (.refl s)

theorem measuredFrame_atMostIssues (s : State) (z : ZoneSet) : (measuredFrame s z).1.AtMostIssues s := by
  have hset (p : Plan) (w : Bool) : (settleFrame (reportStages s (computeStages s z)) (computeStages s z) p w).AtMostIssues s :=
    (settleFrame_atMostIssues ..).trans (reportStages_atMostIssues ..)
  unfold measuredFrame
  dsimp only
  split
  · exact (State.atMostIssues_setAec (by simp)).trans (hset ..)
  · exact (issueDecision_atMostIssues ..).trans (hset ..)

theorem aecEof_atMostIssues (s : State) (z : Option ZoneSet) : (aecEof s z).1.AtMostIssues s := by
  unfold aecEof
  dsimp only
  repeat' split
  iterate 2 exact .refl s
  · exact issueOff_atMostIssues s
  · exact captureCopy_atMostIssues s
  · exact (captureCopy_atMostIssues _).trans (reportStages_atMostIssues ..)
  · exact captureCopy_atMostIssues s
  · exact invalidFrame_atMostIssues s
  · exact measuredFrame_atMostIssues s _
  · exact invalidFrame_atMostIssues s

/-! ### What keeps frame number, order and hold -/

/-- The frame number and the records' frame numbers are the same in t as in s; the order of R49 and the hold of R33 are
there in t if they are in s. -/
structure State.OrderKept (t s : State) : Prop where
  fn : t.intake.fn = s.intake.fn
  effective : t.aec.inFlight.map (·.effective) = s.aec.inFlight.map (·.effective)
  ordered : s.aec.InFlightOrdered s.intake.fn → t.aec.InFlightOrdered t.intake.fn
  hold : s.FocusHoldsExposure → t.FocusHoldsExposure

theorem State.OrderKept.trans {s t u : State} (h : u.OrderKept t) (g : t.OrderKept s) : u.OrderKept s :=
  ⟨h.fn.trans g.fn, h.effective.trans g.effective, fun hs => h.ordered (g.ordered hs), fun hs => h.hold (g.hold hs)⟩

theorem State.HoldKept.orderKept {s t : State} (h : t.HoldKept s) (hfn : t.intake.fn = s.intake.fn) : t.OrderKept s :=
  ⟨hfn, h.records.effective, fun hs => hfn ▸ h.records.inFlightOrdered hs, h.hold⟩

theorem State.OrderKept.of_eq {s t : State} (ha : t.aec = s.aec) (hf : t.afc.state = s.afc.state)
    (hfn : t.intake.fn = s.intake.fn) : t.OrderKept s :=
  (State.HoldKept.of_eq ha hf).orderKept hfn

theorem State.OrderKept.refl (s : State) : s.OrderKept s := .of_eq rfl rfl rfl

theorem State.orderKept_ite {p : Prop} [Decidable p] {s t u : State} (h : t.OrderKept s) (g : u.OrderKept s) :
    (if p then t else u).OrderKept s := by
  split
  · exact h
  · exact g

/-- A record is issued only at the EOF of a frame that is not waiting, when none waits (R40). -/
theorem aecEof_orderKept (s : State) (z : Option ZoneSet) : (aecEof s z).1.OrderKept s := by
  by_cases hw : waitingFrame s.aec s.intake.fn = true
  · rw [aecEof_of_waiting z (.inl hw)]
    exact .refl s
  · have hissues := aecEof_atMostIssues s z
    have hfn : (aecEof s z).1.intake.fn = s.intake.fn := congrArg Intake.fn (aecEof_controls s z).intake
    refine ⟨hfn, hissues.effective, fun hs => ?_, hissues.hold⟩
    rw [waitingFrame_iff] at hw
    push Not at hw
    obtain ⟨hlater, hawaiting, hretry, hsequence⟩ := hw
    have hnone : (s.aec.inFlight.map (·.effective)).countP (fnLater · s.intake.fn) = 0 := by
      rw [List.countP_map, List.countP_eq_zero]
      exact fun r hr => hlater r hr
    rw [inFlightOrdered_iff] at hs ⊢
    rw [hfn, hissues.effective, hissues.retry, hissues.sequence, hnone]
    refine ⟨hs.1, ?_⟩
    simp only [hretry, hsequence, Bool.false_eq_true, if_false]
    split <;> omega

theorem truncatedWork_orderKept (s : State) : (truncatedWork s).OrderKept s := by
  have hcut : (cutShort s).OrderKept s := .of_eq rfl rfl rfl
  have hrest (u : State) : (freeFilling (u.setAfc (afcTruncated u.afc))).OrderKept u :=
    State.HoldKept.orderKept ((freeFilling_holdKept _).trans (.of_eq (by rfl) (by rfl))) (congrArg Intake.fn (freeFilling_storeOnly _).intake)
  exact (hrest _).trans ((aecEof_orderKept _ none).trans hcut)

theorem truncateFrame_orderKept (s : State) (c : TruncationCause) : (truncateFrame s c).OrderKept s := by
  have hwork : (truncatedWork (s.setIntake { s.intake with mode := .waiting })).OrderKept s :=
    (truncatedWork_orderKept _).trans ((s.holdKept_setIntake _).orderKept rfl)
  exact State.orderKept_ite (((State.holdKept_raise ..).orderKept rfl).trans hwork) hwork

theorem truncateFrame_params (s : State) (c : TruncationCause) : (truncateFrame s c).aec.params = s.aec.params := by
  have hwork (u : State) : (truncatedWork u).aec.params = u.aec.params := by
    have hcut : (aecEof (cutShort u) none).1.aec.params = u.aec.params := (aecEof_atMostIssues (cutShort u) none).params
    unfold truncatedWork
    rw [freeFilling_eq]
    exact hcut
  unfold truncateFrame
  dsimp only
  split <;> exact hwork (s.setIntake { s.intake with mode := .waiting })

theorem focusEof_holdKept (s : State) (rs : List WindowRecord) (b : Bool) : (focusEof s rs b).HoldKept s := by
  have hfigures (u : State) (fn : Nat) : (afcFigures u fn rs).grant.HoldKept u :=
    (State.grant_holdKept _).trans (afcFigures_holdKept ..)
  have hdisturbed (u : State) : (afcDisturbance u).grant.HoldKept u :=
    (State.grant_holdKept _).trans (afcDisturbance_holdKept u)
  have hchoice : (s.setChoices (s.choices + 1)).HoldKept s := .of_eq rfl rfl
  unfold focusEof
  exact State.holdKept_ite
    (State.holdKept_ite
      (State.holdKept_ite ((hdisturbed _).trans ((hfigures ..).trans hchoice)) ((hfigures ..).trans ((hdisturbed _).trans hchoice)))
      ((hfigures ..).trans (hdisturbed s)))
    (hfigures ..)

theorem eofWork_orderKept (s : State) (m : Measurement) : (eofWork s m).OrderKept s := by
  have hstats : ((s.setMou (mouEof s.mou)).setStats (statsEof s.stats s.intake.fn)).OrderKept s :=
    .of_eq rfl rfl rfl
  have hrest (u : State) (b c : Bool) : (cstEof (focusEof u (windowRecords m) b) c).OrderKept u :=
    ((cstEof_holdKept ..).trans (focusEof_holdKept ..)).orderKept
      ((cstEof_storeOnly ..).quiet.trans (focusEof_quiet ..)).fn
  exact (hrest ..).trans ((aecEof_orderKept ..).trans hstats)

theorem frameEndPacket_orderKept (s : State) : (frameEndPacket s).OrderKept s := by
  have hwaiting : (s.setIntake { s.intake with mode := .waiting }).OrderKept s := (s.holdKept_setIntake _).orderKept rfl
  unfold frameEndPacket
  split
  · refine State.orderKept_ite (truncateFrame_orderKept ..) ?_
    unfold completeFrame
    dsimp only
    split
    · exact (eofWork_orderKept ..).trans hwaiting
    · exact (truncatedWork_orderKept _).trans hwaiting
  · exact .refl s

theorem timeoutExpires_orderKept (s : State) : (timeoutExpires s).OrderKept s := by
  have hstall : (s.raise condSensorStall).OrderKept s := (s.holdKept_raise _).orderKept rfl
  unfold timeoutExpires
  refine State.orderKept_ite (.trans ((State.holdKept_setIntake ..).orderKept rfl) ?_) (.refl s)
  exact State.orderKept_ite ((truncateFrame_orderKept ..).trans hstall) hstall

theorem stopPath_orderKept (s : State) : (stopPath s).OrderKept s := by
  have hcut : (if s.intake.mode = .inFrame then truncateFrame s .stopped else s).OrderKept s :=
    State.orderKept_ite (truncateFrame_orderKept ..) (.refl s)
  have hrest (u : State) : (applyCommits (afcPathStop (abortFetch (storeStop u)))).OrderKept u := by
    refine ((applyCommits_holdKept _).trans ((afcPathStop_holdKept _).trans
      ((abortFetch_holdKept _).trans (storeStop_holdKept u)))).orderKept ?_
    rw [(applyCommits_commitsOnly _).intake, (afcPathStop_controls _).intake, (abortFetch_memoriesKept _).intake,
      (storeStop_storeOnly u).intake]
  have hstop (u : State) : (u.setIntake { u.intake with mode := .stopped, timer := none }).OrderKept u := .of_eq rfl rfl rfl
  exact (hrest _).trans ((hstop _).trans hcut)

theorem pathStop_orderKept (tag : Tag) (p : Payload Unit) (s : State) :
    (hostCommand (.pathStop tag p) tag 3 p (fun _ => pathStop) s).OrderKept s := by
  have hblock (u : State) : (pathStop u).1.OrderKept u := State.orderKept_ite (.refl u) (stopPath_orderKept u)
  have hlnk (u : State) (l : Lnk) : (u.setLnk l).OrderKept u := (u.holdKept_setLnk l).orderKept rfl
  unfold hostCommand takeCommand
  cases p with
  | args a => exact State.orderKept_ite ((hlnk ..).trans ((hblock _).trans (hlnk ..))) (.refl s)
  | wrongLength => exact State.orderKept_ite ((hlnk ..).trans (hlnk ..)) (.refl s)

/-! ### Frame numbers (section 4.3) -/

/-- No record of the list that has taken effect at frame fn is older than n frames. -/
def Aec.RecordsWithin (a : Aec) (fn n : Nat) : Prop :=
  ∀ r ∈ a.inFlight, fnLater r.effective fn = false → (fn + 65536 - r.effective % 65536) % 65536 ≤ n

theorem recordsWithin_of_effective {a b : Aec} {fn n : Nat}
    (h : b.inFlight.map (·.effective) = a.inFlight.map (·.effective)) (ha : a.RecordsWithin fn n) : b.RecordsWithin fn n := by
  intro r hr hlater
  have hmem : r.effective ∈ a.inFlight.map (·.effective) := h ▸ List.mem_map_of_mem hr
  obtain ⟨q, hq, hqr⟩ := List.mem_map.1 hmem
  rw [← hqr] at hlater ⊢
  exact ha q hq hlater

theorem fnLater_eq_false {a b : Nat} :
    fnLater a b = false ↔ (a + 65536 - b % 65536) % 65536 = 0 ∨ 32767 < (a + 65536 - b % 65536) % 65536 := by
  unfold fnLater
  rw [decide_eq_false_iff_not]
  omega

theorem fnLater_eq_true {a b : Nat} :
    fnLater a b = true ↔ 1 ≤ (a + 65536 - b % 65536) % 65536 ∧ (a + 65536 - b % 65536) % 65536 ≤ 32767 := by
  unfold fnLater
  rw [decide_eq_true_iff]

/-- A record of at most 32,763 frames is not later in the coming frame than it was in this one. -/
theorem fnLater_of_fnNext {e fn : Nat} (hage : fnLater e fn = false → (fn + 65536 - e % 65536) % 65536 ≤ 32763)
    (h : fnLater e (fnNext fn) = true) : fnLater e fn = true := by
  by_contra hnot
  have hold := hage (by simpa using hnot)
  rw [fnLater_eq_true] at h
  unfold fnNext at h
  omega

theorem age_fnNext {e fn n : Nat} (hage : fnLater e fn = false → (fn + 65536 - e % 65536) % 65536 ≤ n) (hn : n < 65535)
    (h : fnLater e (fnNext fn) = false) : (fnNext fn + 65536 - e % 65536) % 65536 ≤ n + 1 := by
  rw [fnLater_eq_false] at h
  unfold fnNext at h ⊢
  by_cases hlater : fnLater e fn = true
  · rw [fnLater_eq_true] at hlater
    omega
  · have hold := hage (by simpa using hlater)
    omega

/-- The next frame number keeps the order of recent records (R6, R49). -/
theorem inFlightOrdered_fnNext {a : Aec} {fn : Nat} (h : a.InFlightOrdered fn) (hr : a.RecordsWithin fn 32763) :
    a.InFlightOrdered (fnNext fn) ∧ a.RecordsWithin (fnNext fn) 32764 := by
  obtain ⟨hpair, hcount⟩ := h
  have hle : a.inFlight.countP (fun r => fnLater r.effective (fnNext fn)) ≤ a.inFlight.countP (fun r => fnLater r.effective fn) :=
    List.countP_mono_left fun r hmem => fnLater_of_fnNext (hr r hmem)
  exact ⟨⟨hpair, by omega⟩, fun r hmem => age_fnNext (hr r hmem) (by omega)⟩

/-! ### The sensor control port and the write point (R49 to R51) -/

/-- A completed sequence's record is later than every record of a list none of which is later than the frame (R50). -/
theorem completeSequence_ordered {a : Aec} {fn : Nat} (issue : Issue)
    (hpair : a.inFlight.Pairwise (fun r q => fnLater q.effective r.effective = true))
    (hstarted : ∀ r ∈ a.inFlight, fnLater r.effective fn = false) (hr : a.RecordsWithin fn 32764)
    (hawaiting : a.awaiting = none) (hretry : a.retry = none) (hlow : 1 ≤ a.params.latency) (hhigh : a.params.latency ≤ 3) :
    (completeSequence a fn issue).InFlightOrdered fn := by
  refine ⟨?_, ?_⟩
  · refine List.pairwise_append.2 ⟨hpair, List.pairwise_singleton .., fun r hmem q hq => ?_⟩
    have hage := hr r hmem (hstarted r hmem)
    rw [List.mem_singleton.1 hq, fnLater_eq_true]
    dsimp only
    omega
  · have hzero : a.inFlight.countP (fun r => fnLater r.effective fn) = 0 :=
      List.countP_eq_zero.2 fun r hmem => by simp [hstarted r hmem]
    have hle := List.countP_le_length (p := fun r : InFlight => fnLater r.effective fn)
      (l := [⟨(fn + a.params.latency) % 65536, issue⟩])
    simp only [List.length_singleton] at hle
    simp only [completeSequence, List.countP_append, hzero, hawaiting, hretry]
    simpa using hle

/-- Where a record is to be written none of the list is still to start (R49). -/
theorem started_of_count {a : Aec} {fn : Nat} (h : a.inFlight.countP (fun r => fnLater r.effective fn) = 0) :
    ∀ r ∈ a.inFlight, fnLater r.effective fn = false := by
  intro r hr
  simpa using List.countP_eq_zero.1 h r hr

theorem startItem_sameRecords (a : Aec) : (startItem a).SameRecords a := by
  unfold startItem
  split
  · split <;> exact ⟨rfl, rfl, rfl, rfl⟩
  · exact .refl a

@[simp] theorem startItem_state (a : Aec) : (startItem a).state = a.state := by
  unfold startItem
  split
  · split <;> rfl
  · rfl

/-- A record that waits is written: it is in the sequence then, or at the end of the list (R49). -/
theorem startSequence_ordered {s : State} {issue : Issue} (retry : Bool) (h : s.aec.InFlightOrdered s.intake.fn)
    (hr : s.aec.RecordsWithin s.intake.fn 32764) (hlow : 1 ≤ s.aec.params.latency) (hhigh : s.aec.params.latency ≤ 3)
    (hwaits : s.aec.awaiting.isSome = true ∨ s.aec.retry.isSome = true) :
    (startSequence s issue retry).aec.InFlightOrdered s.intake.fn := by
  obtain ⟨hpair, hcount⟩ := h
  have hzero : s.aec.inFlight.countP (fun r => fnLater r.effective s.intake.fn) = 0 := by
    rcases hwaits with hw | hw <;> rw [hw] at hcount <;> simp only [if_true] at hcount <;> omega
  unfold startSequence
  dsimp only
  split
  · refine (aecJudgeRecords_holdKept _).records.inFlightOrdered ?_
    exact completeSequence_ordered issue (a := { s.aec with awaiting := none, retry := none }) hpair (started_of_count hzero)
      hr rfl rfl hlow hhigh
  · refine (startItem_sameRecords _).inFlightOrdered ⟨hpair, ?_⟩
    simp [hzero]

theorem writePoint_ordered {s : State} (h : s.aec.InFlightOrdered s.intake.fn) (hr : s.aec.RecordsWithin s.intake.fn 32764)
    (hlow : 1 ≤ s.aec.params.latency) (hhigh : s.aec.params.latency ≤ 3) :
    (writePoint s).aec.InFlightOrdered s.intake.fn := by
  unfold writePoint
  split
  · next hretry => exact startSequence_ordered true h hr hlow hhigh (.inr (by rw [hretry]; rfl))
  · next hawaiting => exact startSequence_ordered false h hr hlow hhigh (.inl (by rw [hawaiting]; rfl))
  · exact h

theorem pruneInFlight_sublist (fn : Nat) (rs : List InFlight) : (pruneInFlight fn rs).Sublist rs := by
  induction rs with
  | nil => exact .slnil
  | cons r rest ih =>
    unfold pruneInFlight
    split
    · exact ih.cons r
    · exact List.Sublist.refl _

/-- The records before the one in effect may go (R38). -/
theorem inFlightOrdered_of_sublist {a : Aec} {fn : Nat} {rs : List InFlight} (hs : rs.Sublist a.inFlight)
    (h : a.InFlightOrdered fn) : ({ a with inFlight := rs } : Aec).InFlightOrdered fn := by
  obtain ⟨hpair, hcount⟩ := h
  have hle := hs.countP_le (p := fun r => fnLater r.effective fn)
  exact ⟨hpair.sublist hs, by dsimp only; omega⟩

theorem aecSof_ordered {s : State} (subject : List Nat) (h : s.aec.InFlightOrdered s.intake.fn)
    (hr : s.aec.RecordsWithin s.intake.fn 32764) (hlow : 1 ≤ s.aec.params.latency) (hhigh : s.aec.params.latency ≤ 3) :
    (aecSof s subject).aec.InFlightOrdered s.intake.fn := by
  have hsub := pruneInFlight_sublist s.intake.fn s.aec.inFlight
  have hrec := (aecJudgeRecords_holdKept
    (s.setAec { s.aec with inFlight := pruneInFlight s.intake.fn s.aec.inFlight })).records
  have hpar := aecJudgeRecords_params (s.setAec { s.aec with inFlight := pruneInFlight s.intake.fn s.aec.inFlight })
  have hint := (aecJudgeRecords_controls
    (s.setAec { s.aec with inFlight := pruneInFlight s.intake.fn s.aec.inFlight })).intake
  have hord := hrec.inFlightOrdered (inFlightOrdered_of_sublist hsub h)
  have hwithin := recordsWithin_of_effective hrec.effective
    (a := { s.aec with inFlight := pruneInFlight s.intake.fn s.aec.inFlight }) (fun r hmem => hr r (hsub.subset hmem))
  unfold aecSof
  dsimp only
  generalize aecJudgeRecords (s.setAec { s.aec with inFlight := pruneInFlight s.intake.fn s.aec.inFlight }) = u at *
  have hfn : u.intake.fn = s.intake.fn := congrArg Intake.fn hint
  have hlat : u.aec.params.latency = s.aec.params.latency := congrArg AeParams.latency hpar
  rw [← hfn] at hord hwithin ⊢
  rw [← hlat] at hlow hhigh
  exact writePoint_ordered (s := u.setAec { u.aec with frame := _, copy := _, irisMoved := _ }) hord hwithin hlow hhigh

/-- While a record is being written no other waits or is still to start (R49). -/
theorem alone_of_sequence {a : Aec} {fn : Nat} {w : WriteSequence} (h : a.InFlightOrdered fn) (hw : a.sequence = some w) :
    a.inFlight.countP (fun r => fnLater r.effective fn) = 0 ∧ a.awaiting = none ∧ a.retry = none := by
  have hcount := h.2
  rw [hw] at hcount
  simp only [Option.isSome_some, if_true] at hcount
  refine ⟨by omega, ?_, ?_⟩
  · cases ha : a.awaiting with
    | none => rfl
    | some i => simp [ha] at hcount
  · cases ha : a.retry with
    | none => rfl
    | some i => simp [ha] at hcount

theorem itemAcknowledged_ordered {s : State} (h : s.aec.InFlightOrdered s.intake.fn)
    (hr : s.aec.RecordsWithin s.intake.fn 32764) (hlow : 1 ≤ s.aec.params.latency) (hhigh : s.aec.params.latency ≤ 3) :
    (itemAcknowledged s).aec.InFlightOrdered s.intake.fn := by
  unfold itemAcknowledged
  split
  · exact h
  · dsimp only
    split
    · split
      · next w hw =>
        split
        · obtain ⟨hzero, hawaiting, hretry⟩ := alone_of_sequence h hw
          refine (aecJudgeRecords_holdKept _).records.inFlightOrdered ?_
          exact completeSequence_ordered w.issue (a := { s.aec with bus := none }) h.1 (started_of_count hzero) hr hawaiting
            hretry hlow hhigh
        · refine (startItem_sameRecords _).inFlightOrdered (Aec.SameRecords.inFlightOrdered (a := s.aec) ⟨rfl, rfl, rfl, ?_⟩ h)
          simp [hw]
      · exact Aec.SameRecords.inFlightOrdered ⟨rfl, rfl, rfl, rfl⟩ h
    · exact (startItem_sameRecords _).inFlightOrdered h

theorem failSequence_ordered {s : State} {w : WriteSequence} {fn : Nat} (hw : s.aec.sequence = some w)
    (h : s.aec.InFlightOrdered fn) : (failSequence s w).aec.InFlightOrdered fn := by
  obtain ⟨hzero, hawaiting, hretry⟩ := alone_of_sequence h hw
  unfold failSequence
  split
  · refine Aec.SameRecords.inFlightOrdered (a := { s.aec with sequence := none, retry := none }) ⟨rfl, rfl, rfl, rfl⟩ ⟨h.1, ?_⟩
    simp [hzero, hawaiting]
  · refine (aecJudgeRecords_holdKept _).records.inFlightOrdered ⟨h.1, ?_⟩
    simp [hzero, hawaiting]

theorem itemNotAcknowledged_ordered {s : State} {fn : Nat} (h : s.aec.InFlightOrdered fn) :
    (itemNotAcknowledged s).aec.InFlightOrdered fn := by
  unfold itemNotAcknowledged
  split
  · exact h
  · dsimp only
    split
    · split
      · next hw => exact failSequence_ordered (by exact hw) h
      · exact Aec.SameRecords.inFlightOrdered ⟨rfl, rfl, rfl, rfl⟩ h
    · exact (startItem_sameRecords _).inFlightOrdered h

/-! ### The hold at the sensor control port and at an SOF (R33) -/

/-- AEC and the conditions alone are others, and AEC's state is the same. -/
structure State.StateKept (t s : State) : Prop where
  aec : t.aec.state = s.aec.state
  afc : t.afc = s.afc

theorem State.StateKept.hold {s t : State} (h : t.StateKept s) (hs : s.FocusHoldsExposure) : t.FocusHoldsExposure :=
  hs.of_states h.aec (congrArg Afc.state h.afc)

theorem State.StateKept.trans {s t u : State} (h : u.StateKept t) (g : t.StateKept s) : u.StateKept s :=
  ⟨h.aec.trans g.aec, h.afc.trans g.afc⟩

theorem State.stateKept_ite {p : Prop} [Decidable p] {s t u : State} (h : t.StateKept s) (g : u.StateKept s) :
    (if p then t else u).StateKept s := by
  split
  · exact h
  · exact g

theorem State.stateKept_setAec {s : State} {a : Aec} (h : a.state = s.aec.state) : (s.setAec a).StateKept s := ⟨h, rfl⟩

theorem aecJudgeRecords_stateKept (s : State) : (aecJudgeRecords s).StateKept s := by
  unfold aecJudgeRecords
  split <;> exact ⟨rfl, rfl⟩

theorem startSequence_stateKept (s : State) (i : Issue) (r : Bool) : (startSequence s i r).StateKept s :=
  State.stateKept_ite ((aecJudgeRecords_stateKept _).trans (State.stateKept_setAec (by rfl))) (State.stateKept_setAec (startItem_state _))

theorem aecSof_stateKept (s : State) (subject : List Nat) : (aecSof s subject).StateKept s := by
  have hwrite (u : State) : (writePoint u).StateKept u := by
    unfold writePoint
    split
    iterate 2 exact startSequence_stateKept ..
    · exact ⟨rfl, rfl⟩
  exact (hwrite _).trans ((State.stateKept_setAec (by rfl)).trans
    ((aecJudgeRecords_stateKept _).trans (State.stateKept_setAec (by rfl))))

theorem itemAcknowledged_stateKept (s : State) : (itemAcknowledged s).StateKept s := by
  unfold itemAcknowledged
  split
  · exact ⟨rfl, rfl⟩
  · dsimp only
    split
    · split
      · split
        · exact (aecJudgeRecords_stateKept _).trans (State.stateKept_setAec (by rfl))
        · exact State.stateKept_setAec (startItem_state _)
      · exact ⟨rfl, rfl⟩
    · exact State.stateKept_setAec (startItem_state _)

/-- A failure leaves AEC's state or has AEC enter FAULT, which neither runs nor is held (R33, R51). -/
theorem itemNotAcknowledged_hold {s : State} (hs : s.FocusHoldsExposure) : (itemNotAcknowledged s).FocusHoldsExposure := by
  unfold itemNotAcknowledged
  split
  · exact hs
  · dsimp only
    split
    · split
      · unfold failSequence
        split
        · exact ⟨fun _ h => (nomatch h), fun h => (nomatch h)⟩
        · exact (aecJudgeRecords_stateKept _).hold (hs.of_states rfl rfl)
      · exact hs.of_states rfl rfl
    · exact hs.of_states (startItem_state _) rfl

/-! ### A frame's start (R6, R11) -/

theorem mouSof_stateKept (s : State) : (mouSof s).1.aec = s.aec ∧ (mouSof s).1.afc = s.afc := by
  rw [mouSof_fst]
  exact ⟨rfl, rfl⟩

/-- After AEC's work at an SOF the records stand, and the exposure is held as it was (R33, R49). -/
theorem sofWork_holdKept (s : State) :
    (sofWork s).HoldKept (aecSof (timedSof (applyCommits s)) (timedSof (applyCommits s)).afc.subjectMask) := by
  have hmou (u : State) : (mouSof u).1.HoldKept u :=
    .of_eq (mouSof_stateKept u).1 (congrArg Afc.state (mouSof_stateKept u).2)
  have hstats (u : State) : (statsSof (pxpSof u)).HoldKept u := .of_eq rfl rfl
  unfold sofWork
  dsimp only
  exact (State.grant_holdKept _).trans ((afcSof_holdKept ..).trans ((cstSof_holdKept ..).trans ((hstats _).trans (hmou _))))

theorem applyCommits_params (s : State) : (applyCommits s).aec.params = s.aec.params := by
  have hfold := congrArg Aec.params (foldl_applyCommit_aec (List.range 14) s)
  unfold applyCommits
  dsimp only
  generalize (List.range 14).foldl applyCommit s = u at hfold ⊢
  split
  · exact hfold
  · exact hfold

theorem timedSof_aec (s : State) : (timedSof s).aec = s.aec := State.setCnd_aec ..

theorem sofWork_ordered {s : State} (h : s.aec.InFlightOrdered s.intake.fn) (hr : s.aec.RecordsWithin s.intake.fn 32764)
    (hlow : 1 ≤ s.aec.params.latency) (hhigh : s.aec.params.latency ≤ 3) : (sofWork s).aec.InFlightOrdered s.intake.fn := by
  have hsame := (applyCommits_holdKept s).records
  have hparams := applyCommits_params s
  have hfn := congrArg Intake.fn (applyCommits_commitsOnly s).intake
  refine (sofWork_holdKept s).records.inFlightOrdered ?_
  generalize applyCommits s = u at hsame hparams hfn ⊢
  rw [← hparams] at hlow hhigh
  rw [← hfn] at h hr ⊢
  rw [← timedSof_intake u] at h hr ⊢
  rw [← timedSof_aec u] at hsame hlow hhigh
  exact aecSof_ordered _ (hsame.inFlightOrdered h) (recordsWithin_of_effective hsame.effective hr) hlow hhigh

theorem frameOpens_ordered {s : State} (h : s.aec.InFlightOrdered s.intake.fn) (hr : s.aec.RecordsWithin s.intake.fn 32763)
    (hlow : 1 ≤ s.aec.params.latency) (hhigh : s.aec.params.latency ≤ 3) :
    (frameOpens s).aec.InFlightOrdered (frameOpens s).intake.fn := by
  obtain ⟨hnext, hwithin⟩ := inFlightOrdered_fnNext h hr
  rw [show (frameOpens s).intake.fn = fnNext s.intake.fn from (frameOpens_keeps s).1]
  exact sofWork_ordered (s := s.setIntake (intakeSof s.intake)) hnext hwithin hlow hhigh

theorem sofWork_hold {s : State} (hs : s.FocusHoldsExposure) : (sofWork s).FocusHoldsExposure := by
  have hcommits := (applyCommits_holdKept s).hold hs
  refine (sofWork_holdKept s).hold ?_
  generalize applyCommits s = u at hcommits ⊢
  exact (aecSof_stateKept (timedSof u) _).hold (hcommits.of_states rfl rfl)

theorem frameOpens_hold {s : State} (hs : s.FocusHoldsExposure) : (frameOpens s).FocusHoldsExposure :=
  sofWork_hold (s := s.setIntake (intakeSof s.intake)) (hs.of_states rfl rfl)

/-! ### The resets (R57, R105, R184) -/

/-- A part without records, AEC OFF and AFC IDLE, as every reset leaves it. -/
structure State.Restarted (t : State) : Prop where
  ordered : ∀ fn, t.aec.InFlightOrdered fn
  hold : t.FocusHoldsExposure

theorem State.Restarted.of_holdKept {s t : State} (hs : s.Restarted) (h : t.HoldKept s) : t.Restarted :=
  ⟨fun fn => h.records.inFlightOrdered (hs.ordered fn), h.hold hs.hold⟩

theorem restarted_of_aecReset {t : State} {p : AeParams} {a : Aec} (ha : t.aec = aecReset p a) (hf : t.afc.state = .idle) :
    t.Restarted := by
  refine ⟨fun fn => ?_, ?_⟩
  · rw [ha]
    exact ⟨List.Pairwise.nil, Nat.zero_le 1⟩
  · unfold State.FocusHoldsExposure
    rw [ha, hf]
    exact ⟨fun h => (nomatch h), fun h => (nomatch h)⟩

theorem resetScope_restarted (full : Bool) (s : State) : (resetScope full s).Restarted := by
  cases full with
  | true => exact restarted_of_aecReset (t := resetFull s) rfl rfl
  | false => exact (restarted_of_aecReset (t := pipelineHalted s) rfl rfl).of_holdKept (applyIfStopped_holdKept _)

/-- A RESET at its turn restarts the part; refused, or out of turn, it only answers (R184). -/
theorem resetCommand_restarted (i : Instr) (tag : Tag) (p : Payload Nat) (s : State) :
    (resetCommand i tag p s).Restarted ∨ (resetCommand i tag p s).OrderKept s := by
  have hlnk (l : Lnk) : (s.setLnk l).OrderKept s := (s.holdKept_setLnk l).orderKept rfl
  unfold resetCommand
  dsimp only
  split
  · split
    · split
      · next full _ =>
        refine .inl (State.Restarted.of_holdKept (resetScope_restarted full (s.setLnk (lnkTake s.lnk tag))) ?_)
        exact State.holdKept_ite (State.holdKept_setLnk ..) (State.holdKept_setLnk ..)
      · exact .inr (hlnk _)
    · exact .inr (hlnk _)
  · exact .inr (.refl s)

/-! ### Every command and event -/

/-- The frame number is the same after a command or event that leaves the records (R6). -/
theorem exec_fn_of_holdKept {i : Instr} (hi : touchesRecords i = false) {s t : State} (h : exec i s = .next t) :
    t.intake.fn = s.intake.fn := by
  by_contra hne
  rcases exec_fn_of_ne h hne with ⟨rfl, -⟩ | ⟨-, ⟨_, rfl⟩ | ⟨_, rfl⟩⟩ <;> cases hi

/-- R33: every command and event keeps the exposure held while AFC scans. -/
theorem exec_focusHolds {i : Instr} {s t : State} (hs : s.FocusHoldsExposure) (h : exec i s = .next t) :
    t.FocusHoldsExposure := by
  by_cases hi : touchesRecords i = false
  · exact (exec_holdKept hi h).hold hs
  · cases i with
    | powerOnReset lines => cases h; exact (restarted_of_aecReset (t := powerOn s lines) rfl rfl).hold
    | frameStart =>
      cases h
      unfold frameStartPacket
      split
      · exact hs
      · exact frameOpens_hold hs
      · exact frameOpens_hold ((truncateFrame_orderKept ..).hold hs)
    | frameEnd => cases h; exact (frameEndPacket_orderKept s).hold hs
    | frameTimeout => cases h; exact (timeoutExpires_orderKept s).hold hs
    | pathStop => cases h; exact (pathStop_orderKept ..).hold hs
    | reset =>
      cases h
      obtain hr | hk := resetCommand_restarted _ _ _ s
      · exact hr.hold
      · exact hk.hold hs
    | writeItemAcknowledged => cases h; exact (itemAcknowledged_stateKept s).hold hs
    | writeItemNotAcknowledged => cases h; exact itemNotAcknowledged_hold hs
    | _ => exact (hi rfl).elim

/-- R49: every command and event keeps the in-flight list in order, of recent records. -/
theorem exec_inFlightOrdered {i : Instr} {s t : State} (hs : s.aec.InFlightOrdered s.intake.fn)
    (hr : s.aec.RecordsRecent s.intake.fn) (hlow : 1 ≤ s.aec.params.latency) (hhigh : s.aec.params.latency ≤ 3)
    (h : exec i s = .next t) : t.aec.InFlightOrdered t.intake.fn := by
  have hwithin : s.aec.RecordsWithin s.intake.fn 32763 := hr
  have hlater : s.aec.RecordsWithin s.intake.fn 32764 := fun r hmem hl => (hwithin r hmem hl).trans (by decide)
  by_cases hi : touchesRecords i = false
  · exact ((exec_holdKept hi h).orderKept (exec_fn_of_holdKept hi h)).ordered hs
  · cases i with
    | powerOnReset lines => cases h; exact (restarted_of_aecReset (t := powerOn s lines) rfl rfl).ordered _
    | frameStart =>
      cases h
      unfold frameStartPacket
      split
      · exact hs
      · exact frameOpens_ordered hs hwithin hlow hhigh
      · have hcut := truncateFrame_orderKept s .newStart
        have hparams := truncateFrame_params s .newStart
        refine frameOpens_ordered (hcut.ordered hs) ?_ (hparams ▸ hlow) (hparams ▸ hhigh)
        rw [hcut.fn]
        exact recordsWithin_of_effective hcut.effective hwithin
    | frameEnd => cases h; exact (frameEndPacket_orderKept s).ordered hs
    | frameTimeout => cases h; exact (timeoutExpires_orderKept s).ordered hs
    | pathStop => cases h; exact (pathStop_orderKept ..).ordered hs
    | reset =>
      cases h
      obtain hr | hk := resetCommand_restarted _ _ _ s
      · exact hr.ordered _
      · exact hk.ordered hs
    | writeItemAcknowledged =>
      cases h
      rw [congrArg Intake.fn (itemAcknowledged_controls s).intake]
      exact itemAcknowledged_ordered hs hlater hlow hhigh
    | writeItemNotAcknowledged =>
      cases h
      rw [congrArg Intake.fn (itemNotAcknowledged_controls s).intake]
      exact itemNotAcknowledged_ordered hs
    | _ => exact (hi rfl).elim

/-- Settles O7: whatever enters a state of AFC, AEC follows it (afcEnter_focusHolds), and AE_MODE asks which it is. -/
theorem focusHoldsExposureKept : Obligations.FocusHoldsExposureKept := by
  intro s t hs h
  unfold step at h
  split at h
  · cases h; exact hs
  · next i rest _ => exact exec_focusHolds (s := s.setPending rest) (hs.of_states rfl rfl) h

/-- Settles O12: an SOF moves the frame number under records that are recent, and a record joins the list only where none
of it is still to start (completeSequence_ordered). -/
theorem inFlightOrderKept : Obligations.InFlightOrderKept := by
  intro s t hs hr hlow hhigh h
  unfold step at h
  split at h
  · cases h; exact hs
  · next i rest _ => exact exec_inFlightOrdered (s := s.setPending rest) hs hr hlow hhigh h

end Sys2Proof.Machine
end

section
/-! PROOF of the statements on arithmetic of chapters 3 and 6: the level of a zone mean (R41), the walks of an exposure
program (R46, R47), and the zoom table between its rows (R39, R110, R116). -/

namespace Sys2Proof.Machine

/-! ### The level of a zone mean (R41) -/

/-- The level of a mean in the octave from 2^e. -/
theorem zoneLevel_of_octave {z e : Nat} (hlo : 2 ^ e ≤ max z 1) (hhi : max z 1 < 2 ^ (e + 1)) :
    zoneLevel z = 16 * e + 16 * (max z 1 - 2 ^ e) / 2 ^ e := by
  have hlog : (max z 1).log2 = e := (Nat.log2_eq_iff (by omega)).2 ⟨hlo, hhi⟩
  unfold zoneLevel
  dsimp only
  rw [hlog]

theorem sixteenth_le {v e : Nat} (hhi : v < 2 ^ (e + 1)) : 16 * (v - 2 ^ e) / 2 ^ e ≤ 15 := by
  have hpos : 0 < 2 ^ e := Nat.two_pow_pos e
  rw [Nat.pow_succ] at hhi
  have hlt : 16 * (v - 2 ^ e) / 2 ^ e < 16 := Nat.div_lt_of_lt_mul (by omega)
  omega

/-- Every mean of twelve bits lies in one of twelve octaves. -/
theorem exists_octave {z : Nat} (hz : z ≤ 4095) : ∃ e ≤ 11, 2 ^ e ≤ max z 1 ∧ max z 1 < 2 ^ (e + 1) := by
  obtain ⟨hlo, hhi⟩ := (Nat.log2_eq_iff (n := max z 1) (by omega)).1 rfl
  refine ⟨(max z 1).log2, ?_, hlo, hhi⟩
  by_contra hlt
  have hpow : 2 ^ 12 ≤ 2 ^ (max z 1).log2 := Nat.pow_le_pow_right (by omega) (by omega)
  omega

theorem zoneLevel_le {z : Nat} (hz : z ≤ 4095) : zoneLevel z ≤ 191 := by
  obtain ⟨e, he, hlo, hhi⟩ := exists_octave hz
  have hm := sixteenth_le hhi
  rw [zoneLevel_of_octave hlo hhi]
  omega

theorem zoneLevel_two_mul {z : Nat} (hz : 1 ≤ z) : zoneLevel (2 * z) = zoneLevel z + 16 := by
  obtain ⟨hlo, hhi⟩ := (Nat.log2_eq_iff (n := z) (by omega)).1 rfl
  generalize z.log2 = e at hlo hhi
  have hmax : max z 1 = z := by omega
  have hmax2 : max (2 * z) 1 = 2 * z := by omega
  have hscale : 16 * (2 * z - 2 ^ (e + 1)) / 2 ^ (e + 1) = 16 * (z - 2 ^ e) / 2 ^ e := by
    rw [Nat.pow_succ, show 16 * (2 * z - 2 ^ e * 2) = 16 * (z - 2 ^ e) * 2 by omega, Nat.mul_div_mul_right _ _ (by omega)]
  rw [zoneLevel_of_octave (z := 2 * z) (e := e + 1) (by rw [hmax2, Nat.pow_succ]; omega)
      (by rw [hmax2, Nat.pow_succ]; omega),
    zoneLevel_of_octave (z := z) (e := e) (by rwa [hmax]) (by rwa [hmax]), hmax, hmax2, hscale]
  omega

/-- Settles O20, octave by octave. -/
theorem zoneLevel_spec : Obligations.ZoneLevel :=
  ⟨fun _ _ hlo hhi => ⟨sixteenth_le hhi, zoneLevel_of_octave hlo hhi⟩, fun _ => exists_octave, fun _ => zoneLevel_le,
    by decide, by decide, by decide, fun _ => zoneLevel_two_mul⟩

/-! ### The walks of an exposure program (R46, R47) -/

/-- A walk that has shared n out: whole, with each control within its range. -/
structure Walk.Shares (w : Walk) (k : WalkLimits) (n : Nat) : Prop where
  whole : w.tI + w.aI + w.gI + w.r = n
  time : w.tI ≤ k.tMax
  aperture : w.aI ≤ 47
  gain : w.gI ≤ k.gMax

/-- The limit of an allowed segment lies within the range of its control (R37, R46). -/
theorem segmentLimit_le {k : WalkLimits} {g : Segment} (hg : segmentAllowed g = true) (ha : k.aW ≤ 47)
    (ht : k.tLim ≤ k.tMax) : segmentLimit k g ≤ controlTop k g.control := by
  obtain ⟨control, limit, v⟩ := g
  unfold segmentAllowed at hg
  dsimp only at hg
  split at hg
  iterate 3 exact Nat.min_le_right ..
  · exact ha
  · exact ht
  · exact Nat.le_refl _
  · cases hg

/-- A segment raises its control alone, by what it takes from the remainder. -/
theorem walkSegment_cases (k : WalkLimits) (w : Walk) (g : Segment) (hlimit : segmentLimit k g ≤ controlTop k g.control) :
    let u := walkSegment k w g
    (g.control = 0 ∧ u.aI = w.aI ∧ u.gI = w.gI ∧ u.tI + u.r = w.tI + w.r ∧ (w.tI ≤ k.tMax → u.tI ≤ k.tMax)) ∨
    (g.control = 1 ∧ u.tI = w.tI ∧ u.gI = w.gI ∧ u.aI + u.r = w.aI + w.r ∧ (w.aI ≤ 47 → u.aI ≤ 47)) ∨
    (g.control ≠ 1 ∧ u.tI = w.tI ∧ u.aI = w.aI ∧ u.gI + u.r = w.gI + w.r ∧ (w.gI ≤ k.gMax → u.gI ≤ k.gMax)) := by
  intro u
  unfold controlTop at hlimit
  unfold u walkSegment
  split at hlimit
  · next hc => rw [hc]; exact .inl ⟨rfl, rfl, rfl, by dsimp only; omega, fun h => by dsimp only; omega⟩
  · next hc => rw [hc]; exact .inr (.inl ⟨rfl, rfl, rfl, by dsimp only; omega, fun h => by dsimp only; omega⟩)
  · next h0 h1 =>
    exact .inr (.inr ⟨h1, rfl, rfl, by dsimp only; omega, fun h => by dsimp only; omega⟩)

theorem foldl_walkSegment_shares {k : WalkLimits} {gs : List Segment} {w : Walk} {n : Nat} (hw : w.Shares k n)
    (hgs : ∀ g ∈ gs, segmentLimit k g ≤ controlTop k g.control) : (gs.foldl (walkSegment k) w).Shares k n := by
  induction gs generalizing w with
  | nil => exact hw
  | cons g gs ih =>
    obtain ⟨hg, hgs⟩ := List.forall_mem_cons.1 hgs
    refine ih ?_ hgs
    obtain ⟨hwhole, htime, haperture, hgain⟩ := hw
    obtain ⟨-, ha, hgi, hsum, htop⟩ | ⟨-, hti, hgi, hsum, htop⟩ | ⟨-, hti, ha, hsum, htop⟩ := walkSegment_cases k w g hg
    · exact ⟨by omega, htop htime, by omega, by omega⟩
    · exact ⟨by omega, by omega, htop haperture, by omega⟩
    · exact ⟨by omega, by omega, by omega, htop hgain⟩

/-- The pinned walk shares what the pinned aperture leaves (R47). -/
theorem foldl_walkSegment_pinned {k : WalkLimits} {gs : List Segment} {w : Walk}
    (hgs : ∀ g ∈ gs, g.control ≠ 1 ∧ segmentLimit k g ≤ controlTop k g.control) (ht : w.tI ≤ k.tMax) (hg : w.gI ≤ k.gMax) :
    let u := gs.foldl (walkSegment k) w
    u.tI + u.gI + u.r = w.tI + w.gI + w.r ∧ u.aI = w.aI ∧ u.tI ≤ k.tMax ∧ u.gI ≤ k.gMax := by
  induction gs generalizing w with
  | nil => exact ⟨rfl, rfl, ht, hg⟩
  | cons g gs ih =>
    obtain ⟨⟨hc, hlimit⟩, hgs⟩ := List.forall_mem_cons.1 hgs
    obtain ⟨-, ha, hgi, hsum, htop⟩ | ⟨h1, -⟩ | ⟨-, hti, ha, hsum, htop⟩ := walkSegment_cases k w g hlimit
    · obtain ⟨hwhole, haI, htI, hgI⟩ := ih hgs (htop ht) (hgi ▸ hg)
      exact ⟨by rw [List.foldl_cons]; omega, haI.trans ha, htI, hgI⟩
    · exact absurd h1 hc
    · obtain ⟨hwhole, haI, htI, hgI⟩ := ih hgs (hti ▸ ht) (htop hg)
      exact ⟨by rw [List.foldl_cons]; omega, haI.trans ha, htI, hgI⟩

/-- Stage 7 splits the total gain whole, the digital step only beyond the sensor's (R47). -/
theorem splitGain_whole {tI iris gI gAMax : Nat} (h : gI ≤ gAMax + 31) :
    let set := splitGain tI iris gI gAMax
    set.tI = tI ∧ set.iris = iris ∧ set.gA + set.gD = gI ∧ set.gA ≤ gAMax ∧ set.gD ≤ 31 ∧ (set.gD ≠ 0 → set.gA = gAMax) := by
  refine ⟨rfl, rfl, ?_⟩
  unfold splitGain
  dsimp only
  omega

theorem desiredWalk_append (k : WalkLimits) (gs : List Segment) (g : Segment) (x : Nat) :
    desiredWalk k (gs ++ [g]) x = walkSegment k (desiredWalk k gs x) g := List.foldl_append ..

theorem pinnedWalk_append (k : WalkLimits) (gs : List Segment) (g : Segment) (x a : Nat) :
    pinnedWalk k (gs ++ [g]) x a =
      if g.control = 1 then pinnedWalk k gs x a else walkSegment k (pinnedWalk k gs x a) g := by
  unfold pinnedWalk
  rw [List.filter_append, List.foldl_append]
  by_cases hc : g.control = 1
  · simp [hc]
  · simp [hc]

/-- Settles O21: the equations of the two walks, and what each segment takes from the remainder (walkSegment_cases). -/
theorem walkSharesExposure : Obligations.WalkSharesExposure := by
  refine ⟨fun k gs g x a hg => ?_, fun k gs x a gAMax hgs ha ht hgain => ⟨?_, ?_⟩⟩
  · intro limit raised
    have hraised (w : Walk) : walkSegment k w g = raised w := by
      unfold raised limit walkSegment segmentLimit controlTop
      rfl
    exact ⟨rfl, (desiredWalk_append ..).trans (hraised _), rfl, (pinnedWalk_append ..).trans (by rw [hraised])⟩
  · obtain ⟨hwhole, htime, haperture, hgain⟩ := foldl_walkSegment_shares (k := k) (gs := gs) (w := ⟨0, 0, 0, x⟩) (n := x)
      ⟨by simp, Nat.zero_le _, by simp, Nat.zero_le _⟩ fun g hg => segmentLimit_le (hgs g hg) ha ht
    exact ⟨hwhole, htime, haperture, hgain⟩
  · obtain ⟨hwhole, haI, htI, hgI⟩ := foldl_walkSegment_pinned (k := k) (gs := gs.filter fun g => g.control ≠ 1)
      (w := ⟨0, a, 0, x - a⟩)
      (fun g hg => ⟨by simpa using (List.mem_filter.1 hg).2, segmentLimit_le (hgs g (List.mem_filter.1 hg).1) ha ht⟩)
      (Nat.zero_le _) (Nat.zero_le _)
    exact ⟨hwhole.trans (by simp), haI, htI, hgI, splitGain_whole (hgain ▸ hgI)⟩

/-! ### The zoom table between its rows (R116) -/

/-- The rounded quotient lies within half a step of the quotient (section 4.5). -/
theorem divRoundAway_sixtyFour (i : Int) : -32 ≤ 64 * divRoundAway i 64 - i ∧ 64 * divRoundAway i 64 - i ≤ 32 := by
  unfold divRoundAway
  split <;> omega

/-- The product of a difference and a fraction of 64, between 0 and 63 of the difference. -/
theorem mul_fraction_bounds {d : Int} {f : Nat} (hf : f ≤ 63) :
    (0 ≤ d → 0 ≤ d * f ∧ d * f ≤ 63 * d) ∧ (d ≤ 0 → 63 * d ≤ d * f ∧ d * f ≤ 0) := by
  have hf' : (f : Int) ≤ 63 := by exact_mod_cast hf
  have h0 : (0 : Int) ≤ f := Int.natCast_nonneg f
  constructor
  · intro hd
    exact ⟨Int.mul_nonneg hd h0, by nlinarith⟩
  · intro hd
    exact ⟨by nlinarith, Int.mul_nonpos_of_nonpos_of_nonneg hd h0⟩

/-- Between two rows: within the rows' values, and within half a step of the straight line. -/
theorem interpolate_between (v0 v1 : Nat) {f : Nat} (hf : f ≤ 63) :
    min v0 v1 ≤ interpolate v0 v1 f ∧ interpolate v0 v1 f ≤ max v0 v1 ∧
    (64 * (interpolate v0 v1 f : Int) - (64 * v0 + ((v1 : Int) - v0) * f)).natAbs ≤ 32 := by
  obtain ⟨hlo, hhi⟩ := divRoundAway_sixtyFour (((v1 : Int) - v0) * f)
  obtain ⟨hup, hdown⟩ := mul_fraction_bounds (d := (v1 : Int) - v0) hf
  unfold interpolate
  generalize ((v1 : Int) - v0) * f = p at *
  generalize divRoundAway p 64 = q at *
  by_cases hle : v0 ≤ v1
  · have hp := hup (by omega)
    omega
  · have hp := hdown (by omega)
    omega

@[simp] theorem interpolate_zero (v0 v1 : Nat) : interpolate v0 v1 0 = v0 := by simp [interpolate, divRoundAway]

/-- R116: between two rows that have inf not above near, neither has their interpolation. Only where both straight lines
meet could the rounding tell them apart, and there the rows are equal. -/
theorem interpolate_mono {v0 v1 w0 w1 f : Nat} (h0 : v0 ≤ w0) (h1 : v1 ≤ w1) (hf : f ≤ 63) :
    interpolate v0 v1 f ≤ interpolate w0 w1 f := by
  by_cases hzero : f = 0
  · rw [hzero, interpolate_zero, interpolate_zero]
    exact h0
  · obtain ⟨-, -, hv⟩ := interpolate_between v0 v1 hf
    obtain ⟨-, -, hw⟩ := interpolate_between w0 w1 hf
    have hf0 : (0 : Int) < f := by omega
    have hg0 : (0 : Int) < 64 - f := by omega
    have hlow : (v0 : Int) * (64 - f) ≤ w0 * (64 - f) := Int.mul_le_mul_of_nonneg_right (by omega) hg0.le
    have hhigh : (v1 : Int) * f ≤ w1 * f := Int.mul_le_mul_of_nonneg_right (by omega) hf0.le
    have hlineV : 64 * (v0 : Int) + ((v1 : Int) - v0) * f = v0 * (64 - f) + v1 * f := by ring
    have hlineW : 64 * (w0 : Int) + ((w1 : Int) - w0) * f = w0 * (64 - f) + w1 * f := by ring
    rw [hlineV] at hv
    rw [hlineW] at hw
    by_cases hlt : (v0 : Int) * (64 - f) + v1 * f < w0 * (64 - f) + w1 * f
    · omega
    · have hrow0 : (v0 : Int) = w0 := Int.eq_of_mul_eq_mul_right hg0.ne' (by omega)
      have hrow1 : (v1 : Int) = w1 := Int.eq_of_mul_eq_mul_right hf0.ne' (by omega)
      rw [Int.natCast_inj.1 hrow0, Int.natCast_inj.1 hrow1]

theorem segmentEnd_up {p t : Nat} (h : p < t) : p < segmentEnd p t ∧ segmentEnd p t ≤ t ∧
    (segmentEnd p t % 64 = 0 ∨ segmentEnd p t = t) ∧ ∀ q, p < q → q < segmentEnd p t → q % 64 ≠ 0 := by
  have heq : segmentEnd p t = min t ((p / 64 + 1) * 64) := if_pos h
  rw [heq]
  exact ⟨by omega, by omega, by omega, fun q hpq hq => by omega⟩

theorem segmentEnd_down {p t : Nat} (h : t < p) : segmentEnd p t < p ∧ t ≤ segmentEnd p t ∧
    (segmentEnd p t % 64 = 0 ∨ segmentEnd p t = t) ∧ ∀ q, q < p → segmentEnd p t < q → q % 64 ≠ 0 := by
  have heq : segmentEnd p t = max t ((p - 1) / 64 * 64) := (if_neg (Nat.lt_asymm h)).trans (if_pos h)
  rw [heq]
  exact ⟨by omega, by omega, by omega, fun q hqp hq => by omega⟩

/-- inf and near on a row are the row's values. -/
theorem infAt_nearAt_row (s : State) {p : Nat} (hp : p ≤ 2048) (hrow : p % 64 = 0) :
    s.infAt p = (zoomRowOf (s.working zoomId) (p / 64)).inf ∧ s.nearAt p = (zoomRowOf (s.working zoomId) (p / 64)).near := by
  unfold State.infAt State.nearAt
  by_cases htop : 2048 ≤ p
  · obtain rfl : p = 2048 := by omega
    exact ⟨rfl, rfl⟩
  · simp only [if_neg htop, hrow, interpolate_zero, and_self]

theorem infAt_nearAt_between (s : State) {p : Nat} (hp : p < 2048) :
    s.infAt p = interpolate (zoomRowOf (s.working zoomId) (p / 64)).inf (zoomRowOf (s.working zoomId) (p / 64 + 1)).inf
      (p % 64) ∧
    s.nearAt p = interpolate (zoomRowOf (s.working zoomId) (p / 64)).near
      (zoomRowOf (s.working zoomId) (p / 64 + 1)).near (p % 64) :=
  ⟨if_neg (by omega), if_neg (by omega)⟩

/-- Settles O22: the rows as they are read, the segment ends up and down, and the interpolation on and between rows. -/
theorem zoomRowArithmetic : Obligations.ZoomRowArithmetic := by
  refine ⟨fun _ _ => rfl, fun _ => ⟨rfl, rfl⟩, fun _ _ => ⟨segmentEnd_up, segmentEnd_down⟩,
    fun s p hp hrows => ⟨?_, infAt_nearAt_row s hp, fun hoff => ?_⟩⟩
  · by_cases hrow : p % 64 = 0
    · obtain ⟨hinf, hnear⟩ := infAt_nearAt_row s hp hrow
      rw [hinf, hnear]
      exact hrows _ (by omega)
    · obtain ⟨hinf, hnear⟩ := infAt_nearAt_between s (show p < 2048 by omega)
      rw [hinf, hnear]
      exact interpolate_mono (hrows _ (by omega)) (hrows _ (by omega)) (by omega)
  · obtain ⟨hinf, hnear⟩ := infAt_nearAt_between s (show p < 2048 by omega)
    obtain ⟨hinfLo, hinfHi, hinfLine⟩ := interpolate_between (zoomRowOf (s.working zoomId) (p / 64)).inf
      (zoomRowOf (s.working zoomId) (p / 64 + 1)).inf (show p % 64 ≤ 63 by omega)
    obtain ⟨hnearLo, hnearHi, hnearLine⟩ := interpolate_between (zoomRowOf (s.working zoomId) (p / 64)).near
      (zoomRowOf (s.working zoomId) (p / 64 + 1)).near (show p % 64 ≤ 63 by omega)
    rw [hinf, hnear]
    exact ⟨hinfLo, hinfHi, hnearLo, hnearHi, hinfLine, hnearLine⟩

end Sys2Proof.Machine
end

section
/-! PROOF of the statements on AEC's commands and on the sensor control port: AE_MODE, AE_SETUP, AE_MANUAL (R32, R34, R48,
R52) and the write sequences (R50, R51, R57). -/

namespace Sys2Proof.Machine

/-! ### AE_MODE (R32, R48) -/

/-- AE_MODE is not refused: no mode of three but OFF without the exposure tables, none but OFF and LOCKED without
PROGRAM_LIVE and an iris position (R32). -/
theorem aeModeRefusal_none {s : State} {n : Nat} {mode : AeState} (hn : aeModeArg? n = some mode)
    (htables : n ≠ 0 → s.tableValid timeId = true ∧ s.tableValid againId = true ∧ s.tableValid sensorWriteId = true)
    (hrun : n = 1 → s.tableValid programLiveId = true ∧ s.lds.iris.valid = true) : aeModeRefusal s mode = none := by
  unfold aeModeArg? at hn
  split at hn
  · cases hn; rfl
  · obtain ⟨htime, hagain, hwrite⟩ := htables (by omega)
    obtain ⟨hlive, hiris⟩ := hrun rfl
    cases hn
    simp [aeModeRefusal, exposureTables, htime, hagain, hwrite, hlive, hiris]
  · obtain ⟨htime, hagain, hwrite⟩ := htables (by omega)
    cases hn
    simp [aeModeRefusal, exposureTables, htime, hagain, hwrite]
  · cases hn

/-- SETTLED by the rule of the state entered, the counters being 0 (R48). -/
def settledOnEntry (a : Aec) (fn : Nat) : AeState → Bool
  | .run => decide (a.params.settleCount = 0)
  | .held => decide (a.params.settleCount = 0)
  | _ => a.latest.isSome && a.inFlight.all (fun r => !fnLater r.effective fn) && a.awaiting.isNone && a.retry.isNone &&
      a.sequence.isNone

/-- AEC enters a state with the settled counter 0 (R48). -/
theorem aecEnter_of_counter {s : State} {mode : AeState} (hcount : s.aec.settledCount = 0) (hfault : mode ≠ .fault) :
    aecEnter s mode = (s.setAec { s.aec with state := mode, settled := settledOnEntry s.aec s.intake.fn mode }).level
      condAeSettled (settledOnEntry s.aec s.intake.fn mode) := by
  have hrule : settledByRule { s.aec with state := mode } s.intake.fn = settledOnEntry s.aec s.intake.fn mode := by
    unfold settledByRule settledOnEntry
    cases mode with
    | fault => exact absurd rfl hfault
    | run => simp [hcount]
    | held => simp [hcount]
    | off => rfl
    | locked => rfl
  rw [← hrule]
  rfl

/-- What a taken AE_MODE leaves of AEC when it changes the state (R32, R48). -/
def Aec.entered (a : Aec) (fn : Nat) (mode : AeState) : Aec :=
  { a with
    state := mode, settledCount := 0, breakCount := 0, settled := settledOnEntry a fn mode
    manual := if mode = .off then a.manual else none
    failures := if a.state = .fault then 0 else a.failures
    retryFlag := if a.state = .fault then false else a.retryFlag }

theorem aeModeChanges_eq (s : State) {mode : AeState} (hfault : mode ≠ .fault) :
    aeModeChanges s mode =
      let t := (s.setAec (s.aec.entered s.intake.fn mode)).setCnd
        (cndSetLevel s.cnd condAeSettled (settledOnEntry s.aec s.intake.fn mode))
      if s.lds.hasMove .iris then t.setLds (ldsCancel s.lds .iris) else t := by
  unfold aeModeChanges
  dsimp only
  rw [aecEnter_of_counter rfl hfault]
  simp only [decide_eq_true_eq]
  rfl

section
variable {s : State} {tag : Tag}

theorem exec_aeMode_taken {n : Nat} {arg mode : AeState} (h : s.turnOf (.aeMode tag (.args n)))
    (harg : aeModeArg? n = some arg) (hmode : aeModeState s arg = mode)
    (htables : n ≠ 0 → s.tableValid timeId = true ∧ s.tableValid againId = true ∧ s.tableValid sensorWriteId = true)
    (hrun : n = 1 → s.tableValid programLiveId = true ∧ s.lds.iris.valid = true) :
    (mode = s.aec.state → exec (.aeMode tag (.args n)) s = .next (s.replied tag 5 (answer .done))) ∧
    (mode ≠ s.aec.state → mode ≠ .fault →
      let t := (s.setAec (s.aec.entered s.intake.fn mode)).setCnd
        (cndSetLevel s.cnd condAeSettled (settledOnEntry s.aec s.intake.fn mode))
      exec (.aeMode tag (.args n)) s =
        .next ((if s.lds.hasMove .iris then t.setLds (ldsCancel s.lds .iris) else t).replied tag 5 (answer .done))) := by
  have htaken : aeMode n (s.setLnk (lnkTake s.lnk tag)) = (aeModeTaken (s.setLnk (lnkTake s.lnk tag)) arg, answer .done) := by
    unfold aeMode
    rw [harg]
    dsimp only
    rw [aeModeRefusal_none (s := s.setLnk (lnkTake s.lnk tag)) harg htables hrun]
  subst hmode
  constructor
  · intro hsame
    refine congrArg Host.Outcome.next (hostCommand_unchanged h (htaken.trans ?_))
    exact congrArg (·, answer .done) (if_pos hsame)
  · intro hdiffers hfault t
    refine congrArg Host.Outcome.next (hostCommand_replied h ?_ (htaken.trans (congrArg (·, answer .done) ?_)))
    · split <;> rfl
    · refine (if_neg hdiffers).trans ((aeModeChanges_eq (s.setLnk (lnkTake s.lnk tag)) hfault).trans ?_)
      by_cases hmove : s.lds.hasMove .iris = true
      · rw [if_pos hmove]
        exact if_pos hmove
      · rw [if_neg hmove]
        exact if_neg hmove

/-! ### AE_SETUP and AE_MANUAL (R34, R52) -/

theorem exec_aeSetup_taken {a : AeSetupArgs} (h : s.turnOf (.aeSetup tag (.args a))) (hweight : a.weightTable ≤ 3) :
    exec (.aeSetup tag (.args a)) s = .next ((s.setAec { s.aec with params := aeParamsOf a }).replied tag 6
      (answer (if aeParamsOf a = aeParamsRaw a then .done else .doneClamped))) := by
  refine congrArg Host.Outcome.next (hostCommand_replied h rfl ?_)
  unfold aeSetup
  rw [if_neg (by omega)]
  dsimp only
  rw [clampedStatus_eq (p := aeParamsOf a = aeParamsRaw a) (by simp)]
  rfl

theorem aeParamsOf_eq_raw (a : AeSetupArgs) : aeParamsOf a = aeParamsRaw a ↔
    (aeParamsOf a).target = a.target ∧ (aeParamsOf a).compensation = a.compensation ∧
    (aeParamsOf a).deadband = a.deadband ∧ (aeParamsOf a).damping = a.damping ∧ (aeParamsOf a).maxStep = a.maxStep ∧
    (aeParamsOf a).settleCount = a.settleCount ∧ (aeParamsOf a).hlPull = a.hlPull ∧ (aeParamsOf a).blLift = a.blLift ∧
    (aeParamsOf a).boost = a.boost ∧ (aeParamsOf a).breakLevel = a.breakLevel ∧ (aeParamsOf a).latency = a.latency := by
  simp [aeParamsRaw, aeParamsOf]

theorem exec_aeManual_taken {a : AeManualArgs} (h : s.turnOf (.aeManual tag (.args a))) (hoff : s.aec.state = .off)
    (htables : exposureTables s = true) :
    exec (.aeManual tag (.args a)) s = .next ((s.setAec { s.aec with
      manual := some (splitGain (min s.tIMax a.tI) (min 47 a.iris) (min s.gainMax a.gI) s.gAMax) }).replied tag 7
        (answer (if a.tI ≤ s.tIMax ∧ a.iris ≤ 47 ∧ a.gI ≤ s.gainMax then .done else .doneClamped))) := by
  have htables' : exposureTables (s.setLnk (lnkTake s.lnk tag)) = true := htables
  have htop : (s.setLnk (lnkTake s.lnk tag)).tIMax = s.tIMax := rfl
  have hgain : (s.setLnk (lnkTake s.lnk tag)).gainMax = s.gainMax := rfl
  refine congrArg Host.Outcome.next (hostCommand_replied h rfl ?_)
  unfold aeManual
  rw [if_neg (by simpa using hoff), htables', if_neg (by decide)]
  dsimp only
  rw [clampedStatus_eq (p := a.tI ≤ s.tIMax ∧ a.iris ≤ 47 ∧ a.gI ≤ s.gainMax)]
  · simp only [clampArg, clampNat_zero]
    rfl
  · simp only [Bool.or_eq_true, clampArg_changed_eq_true, clampNat_zero, htop, hgain]
    omega

end

/-- Settles O32: AE_MODE from its arguments and the state they give, then the clamps of the two other commands. -/
theorem aeCommandsSetStateAndSettings : Obligations.AeCommandsSetStateAndSettings := by
  refine ⟨fun s tag n mode h hmode htables hrun => ?_, fun s tag a h hweight => ?_, fun s tag a h hweight => ?_,
    fun s tag a h hoff htime hagain hwrite => ?_, fun s tag a h hstate => ?_⟩
  · obtain ⟨arg, harg, hstate, hfault⟩ : ∃ arg, aeModeArg? n = some arg ∧ aeModeState s arg = mode ∧ mode ≠ .fault := by
      obtain ⟨rfl, rfl⟩ | ⟨rfl, rfl⟩ | ⟨rfl, rfl⟩ := hmode
      · exact ⟨.off, rfl, rfl, by decide⟩
      · exact ⟨.locked, rfl, rfl, by decide⟩
      · exact ⟨.run, rfl, by simp [aeModeState, scanning_iff], by split <;> decide⟩
    obtain ⟨hsame, hdiffers⟩ := exec_aeMode_taken h harg hstate htables hrun
    exact ⟨hsame, fun hne => hdiffers hne hfault⟩
  · rw [exec_aeSetup_taken h hweight]
    simp only [aeParamsOf_eq_raw]
    simp only [aeParamsOf, clampNat_zero]
    rfl
  · exact congrArg Host.Outcome.next (hostCommand_unchanged h (if_pos hweight))
  · exact exec_aeManual_taken h hoff (by simp [exposureTables, htime, hagain, hwrite])
  · exact congrArg Host.Outcome.next (hostCommand_unchanged h (if_pos hstate))

/-! ### The write sequences (R50, R51, R57) -/

theorem aecJudgeRecords_of_measuring {s : State} (h : s.aec.state = .run ∨ s.aec.state = .held) : aecJudgeRecords s = s := by
  unfold aecJudgeRecords
  rcases h with h | h <;> rw [h]

theorem aecJudgeRecords_of_not_measuring {s : State} (hrun : s.aec.state ≠ .run) (hheld : s.aec.state ≠ .held) :
    aecJudgeRecords s = aecJudge s := by
  unfold aecJudgeRecords
  split
  · exact absurd ‹_› hrun
  · exact absurd ‹_› hheld
  · rfl

/-- What judging SETTLED by the records leaves, in every state of AEC. -/
theorem aecJudgeRecords_cases (s : State) :
    ((s.aec.state = .run ∨ s.aec.state = .held) ∧ aecJudgeRecords s = s) ∨
    (s.aec.state ≠ .run ∧ s.aec.state ≠ .held ∧ aecJudgeRecords s = aecJudge s) := by
  by_cases h : s.aec.state = .run ∨ s.aec.state = .held
  · exact .inl ⟨h, aecJudgeRecords_of_measuring h⟩
  · obtain ⟨hrun, hheld⟩ := not_or.1 h
    exact .inr ⟨hrun, hheld, aecJudgeRecords_of_not_measuring hrun hheld⟩

/-- Without a complete set of records in effect, SETTLED is false in the states that follow the records (R48). -/
theorem settledByRule_eq_false {a : Aec} {fn : Nat} (hrun : a.state ≠ .run) (hheld : a.state ≠ .held)
    (h : (∃ r ∈ a.inFlight, fnLater r.effective fn = true) ∨ a.retry.isSome = true) : settledByRule a fn = false := by
  unfold settledByRule
  split
  · exact absurd ‹_› hrun
  · exact absurd ‹_› hheld
  · rfl
  · obtain ⟨r, hr, hlater⟩ | hretry := h
    · have hall : (a.inFlight.all fun r => !fnLater r.effective fn) = false := List.all_eq_false.2 ⟨r, hr, by simp [hlater]⟩
      simp [hall]
    · obtain ⟨i, hi⟩ := Option.isSome_iff_exists.1 hretry
      simp [hi]

/-- A frame up to half the circle of numbers on is later (section 4.3). -/
theorem fnLater_add (fn : Nat) {d : Nat} (h1 : 1 ≤ d) (h2 : d ≤ 32767) : fnLater ((fn + d) % 65536) fn = true :=
  decide_eq_true (by omega)

section
variable {s : State} {b : BusItem} {w : WriteSequence}

/-- The last item acknowledged completes the sequence. -/
theorem itemAcknowledged_last {x : SensorItem} (hb : s.aec.bus = some b) (howned : b.owned = true)
    (hw : s.aec.sequence = some w) (hitems : w.items = [x]) :
    itemAcknowledged s = aecJudgeRecords (s.setAec (completeSequence { s.aec with bus := none } s.intake.fn w.issue)) := by
  simp only [itemAcknowledged, hb, howned, hw, hitems, if_true, List.tail_cons]

theorem itemNotAcknowledged_failing (hb : s.aec.bus = some b) (howned : b.owned = true) (hw : s.aec.sequence = some w) :
    itemNotAcknowledged s = failSequence (s.setAec { s.aec with bus := none }) w := by
  simp only [itemNotAcknowledged, hb, howned, hw, if_true]

/-- A first failure keeps the record for retry (R51). -/
theorem itemNotAcknowledged_first (hb : s.aec.bus = some b) (howned : b.owned = true) (hw : s.aec.sequence = some w)
    (hretry : w.retry = false) (hfailures : s.aec.failures = 0) :
    itemNotAcknowledged s = aecJudgeRecords (s.setAec { s.aec with
      bus := none, sequence := none, retry := some w.issue, retryFlag := true, failures := 1 }) := by
  rw [itemNotAcknowledged_failing hb howned hw]
  unfold failSequence
  simp only [State.setAec_aec, hretry, hfailures]
  rfl

/-- A failure that follows another enters FAULT (R51). -/
theorem itemNotAcknowledged_again (hb : s.aec.bus = some b) (howned : b.owned = true) (hw : s.aec.sequence = some w)
    (hagain : w.retry = true ∨ 1 ≤ s.aec.failures) :
    itemNotAcknowledged s = aecJudge ((s.setAec { s.aec with
      bus := none, sequence := none, retry := none, retryFlag := false, failures := s.aec.failures + 1, manual := none
      state := .fault }).setCnd (cndRaise s.cnd condAeFault)) := by
  rw [itemNotAcknowledged_failing hb howned hw]
  unfold failSequence
  rw [if_pos (by rw [Bool.or_eq_true, decide_eq_true_eq]; exact hagain)]
  rfl

end

/-- Settles O34, a clause for each way an item ends. -/
theorem sensorWritesCompleteOrFail : Obligations.SensorWritesCompleteOrFail := by
  refine ⟨fun s hb => ⟨?_, ?_⟩, fun s b hb howned hw => ⟨?_, ?_⟩, fun s b w x rest hb howned hw hitems => ⟨?_, ?_⟩,
    fun s b w x y rest hb howned hw hitems => ?_, fun s b w x hb howned hw hitems => ?_,
    fun s b w hb howned hw hretry hfailures => ?_, fun s b w hlength hb howned hw hagain => ?_⟩
  · exact congrArg Host.Outcome.next (by simp only [itemAcknowledged, hb])
  · exact congrArg Host.Outcome.next (by simp only [itemNotAcknowledged, hb])
  · exact congrArg Host.Outcome.next (by simp [itemAcknowledged, startItem, hb, howned, hw])
  · exact congrArg Host.Outcome.next (by simp [itemNotAcknowledged, startItem, hb, howned, hw])
  · exact congrArg Host.Outcome.next (by simp [itemAcknowledged, startItem, hb, howned, hw, hitems])
  · exact congrArg Host.Outcome.next (by simp [itemNotAcknowledged, startItem, hb, howned, hw, hitems])
  · exact congrArg Host.Outcome.next (by simp [itemAcknowledged, startItem, hb, howned, hw, hitems])
  · refine ⟨_, congrArg Host.Outcome.next (itemAcknowledged_last hb howned hw hitems), ?_⟩
    obtain ⟨hstate, heq⟩ | ⟨hrun, hheld, heq⟩ := aecJudgeRecords_cases
      (s.setAec (completeSequence { s.aec with bus := none } s.intake.fn w.issue))
    · rw [heq]
      exact ⟨rfl, fun _ => rfl, fun hrun hheld => absurd hstate (not_or.2 ⟨hrun, hheld⟩), (if_pos ⟨rfl, hstate⟩).symm, rfl⟩
    · rw [heq]
      refine ⟨rfl, fun h => absurd h (not_or.2 ⟨hrun, hheld⟩), fun _ _ h1 h3 => ?_,
        (if_neg fun h => absurd h.2 (not_or.2 ⟨hrun, hheld⟩)).symm, rfl⟩
      exact settledByRule_eq_false hrun hheld
        (.inl ⟨_, List.mem_append_right _ (List.mem_singleton.2 rfl), fnLater_add _ h1 (h3.trans (by decide))⟩)
  · refine ⟨_, congrArg Host.Outcome.next (itemNotAcknowledged_first hb howned hw hretry hfailures), ?_⟩
    obtain ⟨hstate, heq⟩ | ⟨hrun, hheld, heq⟩ := aecJudgeRecords_cases (s.setAec { s.aec with
      bus := none, sequence := none, retry := some w.issue, retryFlag := true, failures := 1 })
    · rw [heq]
      exact ⟨rfl, fun _ => ⟨rfl, rfl⟩, fun hrun hheld => absurd hstate (not_or.2 ⟨hrun, hheld⟩), rfl⟩
    · rw [heq]
      exact ⟨rfl, fun h => absurd h (not_or.2 ⟨hrun, hheld⟩),
        fun _ _ => settledByRule_eq_false hrun hheld (.inr rfl), rfl⟩
  · refine ⟨_, congrArg Host.Outcome.next (itemNotAcknowledged_again hb howned hw hagain), rfl, ?_, rfl⟩
    exact (congrArg Condition.latch (cndSetLevel_agreeAt_of_ne (cndRaise s.cnd condAeFault) false (by decide)).1).trans
      (cndRaise_latch (hlength ▸ (by decide : condAeFault < 25)))

end Sys2Proof.Machine
end

section
/-! PROOF of the statement on AEC at the EOF of a complete frame (R40 to R48, R52, R53, R55): the stages as the rules spell
them, then what each state of AEC makes of them. -/

namespace Sys2Proof.Machine

/-! ### Stages 1 to 4 (R41 to R45) -/

theorem boostedWeight_eq (c : MeterCopy) (i : Nat) : boostedWeight c i =
    if i ∈ c.subject then min 31 (c.weights.getD i 0 + c.boost) else c.weights.getD i 0 := by
  unfold boostedWeight
  simp only [List.contains_iff_mem]

theorem weightSum_eq (c : MeterCopy) : weightSum c = ((List.range 192).map fun i =>
    if i ∈ c.subject then min 31 (c.weights.getD i 0 + c.boost) else c.weights.getD i 0).sum := by
  unfold weightSum
  rw [funext (boostedWeight_eq c)]

theorem levelSum_eq (c : MeterCopy) (means : List Nat) : levelSum c means = ((List.range 192).map fun i =>
    (if i ∈ c.subject then min 31 (c.weights.getD i 0 + c.boost) else c.weights.getD i 0) *
      zoneLevel (means.getD i 0)).sum := by
  unfold levelSum
  simp only [boostedWeight_eq]

/-- A zone of the mask lies in the subject exactly when the subject is not clear (R43). -/
theorem subjectClear_eq_false {mask subject : List Nat} : subjectClear mask subject = false ↔ ∃ i ∈ mask, i ∈ subject := by
  simp [subjectClear]

theorem clippedSubject_eq (mask subject : List Nat) : clippedSubject mask subject = decide (∃ i ∈ mask, i ∈ subject) := by
  rw [Bool.eq_iff_iff, decide_eq_true_iff, ← subjectClear_eq_false]
  unfold clippedSubject
  simp only [Bool.and_eq_true, Bool.not_eq_true', List.isEmpty_eq_false_iff, and_iff_right_iff_imp]
  intro hclear
  obtain ⟨i, hm, hs⟩ := subjectClear_eq_false.1 hclear
  exact ⟨List.ne_nil_of_mem hm, List.ne_nil_of_mem hs⟩

/-- With highlights, and none of them in the subject, the mask is not contained in it: R43's fourth case is empty. -/
theorem caseAdjustment_eq (p : AeParams) (mask subject : List Nat) : caseAdjustment p mask subject =
    if mask = [] ∨ subject = [] then 0 else if (∃ i ∈ mask, i ∈ subject) then -(p.hlPull : Int) else p.blLift := by
  unfold caseAdjustment
  simp only [Bool.or_eq_true, List.isEmpty_iff, Bool.not_eq_true', subjectClear_eq_false]
  by_cases hempty : mask = [] ∨ subject = []
  · rw [if_pos hempty, if_pos hempty]
  rw [if_neg hempty, if_neg hempty]
  by_cases hclipped : ∃ i ∈ mask, i ∈ subject
  · rw [if_pos hclipped, if_pos hclipped]
  rw [if_neg hclipped, if_neg hclipped]
  obtain ⟨i, hi⟩ := List.exists_mem_of_ne_nil mask (not_or.1 hempty).1
  have hout : maskContained mask subject = false := by
    simp only [maskContained, List.all_eq_false, Bool.not_eq_true, List.contains_eq_mem, decide_eq_false_iff_not]
    exact ⟨i, hi, fun hs => hclipped ⟨i, hi, hs⟩⟩
  rw [if_pos hout]

/-- The effective target is held within 0..191 before the error is formed (R43, R45). -/
theorem effectiveTarget_cast (p : AeParams) (adj : Int) :
    (effectiveTarget p adj : Int) = max 0 (min 191 ((p.target : Int) + p.compensation + adj)) :=
  Int.toNat_of_nonneg (le_max_left 0 _)

/-! ### Stages 5 to 7 (R37, R44, R46, R47) -/

theorem segmentsOf_eq (m : Memory) : segmentsOf m = (List.range (tbl8 m 0)).map fun j =>
    ⟨tbl8 m (2 + 2 * j) / 16, tbl8 m (2 + 2 * j) % 16, tbl8 m (3 + 2 * j)⟩ := by
  refine List.map_congr_left fun j _ => ?_
  unfold segmentOf
  rw [show 2 + 2 * j + 1 = 3 + 2 * j by omega]

theorem activeSegments_eq (s : State) : activeSegments s = segmentsOf
    (if s.aec.program = .capture ∧ s.tableValid programCaptureId = true
      then s.working programCaptureId else s.working programLiveId) := by
  unfold activeSegments
  cases hp : s.aec.program with
  | live => rfl
  | capture =>
    by_cases hv : s.tableValid programCaptureId = true
    · simp [hv]
    · simp [hv]

theorem desiredUsable_eq_true {s : State} {a : Nat} : desiredUsable s a = true ↔
    s.lds.iris.valid = true ∧ a = s.lds.iris.pos ∧ s.lds.hasMove .iris = false ∧ a ≤ s.aWNow := by
  simp only [desiredUsable, Bool.and_eq_true, decide_eq_true_eq, Bool.not_eq_true', and_assoc]

/-! ### Settling (R45, R48) -/

/-- A measured frame as it is reported and settled: AE_LIMIT_LOW for an X_new below 0, AE_LIMIT_HIGH for a remainder that a
walk leaves, and a frame counted within the deadband, or at a limit that the frame's exposure already realizes. -/
def State.measured (s : State) (c : Computed) (remainder realized : Nat) : State :=
  let walked := ¬ c.e.natAbs ≤ s.aec.params.deadband ∨ s.aec.markDue = true
  let counts := c.e.natAbs ≤ s.aec.params.deadband ∨
    ((c.xNew < 0 ∨ (walked ∧ 0 < remainder)) ∧ realized = s.aec.frame.x)
  let n := if counts then min 8 (s.aec.settledCount + 1) else 0
  let low := if c.xNew < 0 then cndRaise s.cnd condAeLimitLow else s.cnd
  let high := if walked ∧ 0 < remainder then cndRaise low condAeLimitHigh else low
  (s.setAec { s.aec with
    m := c.m, e := c.e, tEff := c.tEff, settledCount := n, settled := decide (s.aec.params.settleCount ≤ n) }).setCnd
      (cndSetLevel high condAeSettled (decide (s.aec.params.settleCount ≤ n)))

theorem reportStages_eq (s : State) (c : Computed) : reportStages s c =
    (s.setAec { s.aec with m := c.m, e := c.e, tEff := c.tEff }).setCnd
      (if c.xNew < 0 then cndRaise s.cnd condAeLimitLow else s.cnd) := by
  unfold reportStages
  by_cases hlow : c.xNew < 0
  · simp only [if_pos hlow]; rfl
  · simp only [if_neg hlow]; rfl

theorem walked_eq_true {p : AeParams} {e : Int} {due : Bool} :
    (decide (p.deadband < e.natAbs) || due) = true ↔ ¬ e.natAbs ≤ p.deadband ∨ due = true := by
  rw [Bool.or_eq_true, decide_eq_true_eq, Nat.not_le]

/-- SETTLED follows the counter in RUN and HELD (R48). -/
theorem aecJudge_of_counted {s : State} {b : Bool} (hs : s.aec.state = .run ∨ s.aec.state = .held)
    (hb : decide (s.aec.params.settleCount ≤ s.aec.settledCount) = b) :
    aecJudge s = (s.setAec { s.aec with settled := b }).setCnd (cndSetLevel s.cnd condAeSettled b) := by
  have hrule : settledByRule s.aec s.intake.fn = b := by
    unfold settledByRule
    rcases hs with hs | hs <;> rw [hs] <;> exact hb
  rw [← hrule]
  rfl

theorem settledAfter_frameCounts {p : AeParams} {e : Int} {low walked : Bool} {l w : Prop} [Decidable l] [Decidable w]
    (hl : low = true ↔ l) (hw : walked = true ↔ w) (plan : Plan) (x n : Nat) :
    settledAfter (frameCounts p e low walked plan x) n =
      if e.natAbs ≤ p.deadband ∨ ((l ∨ (w ∧ 0 < plan.remainder)) ∧ plan.realized = x) then min 8 (n + 1) else 0 := by
  have hcounts : frameCounts p e low walked plan x = true ↔
      e.natAbs ≤ p.deadband ∨ ((l ∨ (w ∧ 0 < plan.remainder)) ∧ plan.realized = x) := by
    simp only [frameCounts, Bool.or_eq_true, Bool.and_eq_true, decide_eq_true_eq, hl, hw]
  unfold settledAfter
  simp only [hcounts]

/-- A walk that leaves a remainder latches AE_LIMIT_HIGH (R46). -/
theorem latchHigh_eq {u : State} {walked : Bool} {w : Prop} [Decidable w] (hw : walked = true ↔ w) (r : Nat) :
    (if (walked && decide (0 < r)) = true then u.raise condAeLimitHigh else u) =
      u.setCnd (if w ∧ 0 < r then cndRaise u.cnd condAeLimitHigh else u.cnd) := by
  simp only [Bool.and_eq_true, decide_eq_true_eq, hw]
  by_cases h : w ∧ 0 < r
  · rw [if_pos h, if_pos h]; rfl
  · rw [if_neg h, if_neg h]; rfl

theorem settleFrame_eq {s : State} (hs : s.aec.state = .run ∨ s.aec.state = .held) (c : Computed) (plan : Plan) :
    settleFrame (reportStages s c) c plan (decide (s.aec.params.deadband < c.e.natAbs) || s.aec.markDue) =
      s.measured c plan.remainder plan.realized := by
  rw [reportStages_eq]
  unfold settleFrame
  dsimp only
  rw [latchHigh_eq walked_eq_true, settledAfter_frameCounts decide_eq_true_iff walked_eq_true]
  exact aecJudge_of_counted hs rfl

/-! ### The states of AEC (R40, R47, R52, R53, R55) -/

theorem captureCopy_eq {u : State} (hu : u.aec.state = .off ∨ u.aec.state = .locked) : captureCopy u =
    match u.aec.latest with
    | some y => if u.aec.markDue = true ∧ ¬ (u.afc.state = .coarse ∨ u.afc.state = .fine) then issuedRecord u u.aec y else u
    | none => u := by
  cases hl : u.aec.latest with
  | none => exact captureCopy_eq_self (.inl hl)
  | some y =>
    dsimp only
    by_cases hissues : u.aec.markDue = true ∧ ¬ (u.afc.state = .coarse ∨ u.afc.state = .fine)
    · obtain ⟨hm, hscan⟩ := hissues
      rw [if_pos ⟨hm, hscan⟩, captureCopy_eq_issued hu hl hm (mt (scanning_iff _).1 hscan)]
    · rw [if_neg hissues]
      obtain hm | hscan := not_and_or.1 hissues
      · exact captureCopy_eq_self (.inr (.inl (by simpa using hm)))
      · exact captureCopy_eq_self (.inr (.inr ((scanning_iff _).2 (not_not.1 hscan))))

theorem requestIris_eq (u : State) (iris : Nat) : requestIris u iris =
    if u.lds.iris.valid = true ∧ u.lds.hasMoveToward .iris iris = false
    then (u.setLds (ldsPlace u.lds .iris ⟨.iris, iris, 0⟩)).grant else u := by
  unfold requestIris State.place
  simp only [Bool.and_eq_true, Bool.not_eq_true']

section
variable {s : State} {z : ZoneSet}

theorem aecEof_off (hw : ¬ waitingFrame s.aec s.intake.fn = true) (hs : s.aec.state = .off) :
    aecEof s (some z) = (issueOff s, false, false) := by
  unfold aecEof
  dsimp only
  rw [if_neg hw, hs]

theorem aecEof_locked (hw : ¬ waitingFrame s.aec s.intake.fn = true) (hs : s.aec.state = .locked) :
    aecEof s (some z) = if weightSum s.aec.copy = 0 then (captureCopy s, false, false)
      else (captureCopy (reportStages s (computeStages s z)), false, clippedSubject z.mask s.aec.copy.subject) := by
  unfold aecEof
  dsimp only
  rw [if_neg hw, hs]
  simp only [decide_eq_true_eq]

theorem aecEof_measuring (hw : ¬ waitingFrame s.aec s.intake.fn = true) (hs : s.aec.state = .run ∨ s.aec.state = .held) :
    aecEof s (some z) = if s.aec.irisMoved = true ∨ weightSum s.aec.copy = 0 then (invalidFrame s, false, false)
      else ((measuredFrame s z).1, (measuredFrame s z).2, clippedSubject z.mask s.aec.copy.subject) := by
  unfold aecEof
  dsimp only
  rw [if_neg hw]
  rcases hs with hs | hs <;> rw [hs] <;> simp only [Bool.or_eq_true, decide_eq_true_eq]

/-- The break test of R55, in HELD. -/
theorem measuredFrame_held (hs : s.aec.state = .held) :
    let c := computeStages s z
    let plan := exposurePlan s c.xNew.toNat
    let u := s.measured c plan.remainder plan.realized
    let broken := s.aec.params.breakLevel ≤ c.e.natAbs
    measuredFrame s z = (u.setAec { u.aec with breakCount := if broken ∧ s.aec.breakCount = 0 then 1 else 0 },
      decide (broken ∧ s.aec.breakCount ≠ 0)) := by
  intro c plan u broken
  have hplan : exposurePlan (reportStages s c) c.xNew.toNat = plan := by rw [reportStages_eq]; rfl
  have hparams : (reportStages s c).aec.params = s.aec.params ∧ (reportStages s c).aec.markDue = s.aec.markDue := by
    rw [reportStages_eq]; exact ⟨rfl, rfl⟩
  have hbreak : breakTest u.aec c.e = (if broken ∧ s.aec.breakCount = 0 then 1 else 0, decide (broken ∧ s.aec.breakCount ≠ 0)) := by
    unfold breakTest
    rw [show u.aec.params = s.aec.params from rfl, show u.aec.breakCount = s.aec.breakCount from rfl]
    by_cases hb : broken <;> by_cases hc : s.aec.breakCount = 0 <;> simp [hb, hc, broken]
  unfold measuredFrame
  dsimp only
  rw [hplan, hparams.1, hparams.2, settleFrame_eq (.inr hs)]
  rw [if_pos (show (s.measured (computeStages s z) plan.remainder plan.realized).aec.state = .held from hs),
    show breakTest (s.measured (computeStages s z) plan.remainder plan.realized).aec (computeStages s z).e = _ from hbreak]

/-- The issue decision of R47, in RUN. -/
theorem measuredFrame_run (hs : s.aec.state = .run) :
    let c := computeStages s z
    let plan := exposurePlan s c.xNew.toNat
    let u := s.measured c plan.remainder plan.realized
    let issued := u.setAec (issueRecord u.aec plan.setting)
    measuredFrame s z = (if (¬ c.e.natAbs ≤ s.aec.params.deadband ∨ s.aec.markDue = true) ∧
        (s.aec.markDue = true ∨ s.aec.latest ≠ some plan.setting)
      then (if plan.pinned = true then requestIris issued plan.setting.iris else issued) else u, false) := by
  intro c plan u issued
  have hplan : exposurePlan (reportStages s c) c.xNew.toNat = plan := by rw [reportStages_eq]; rfl
  have hparams : (reportStages s c).aec.params = s.aec.params ∧ (reportStages s c).aec.markDue = s.aec.markDue := by
    rw [reportStages_eq]; exact ⟨rfl, rfl⟩
  unfold measuredFrame
  dsimp only
  rw [hplan, hparams.1, hparams.2, settleFrame_eq (.inl hs)]
  rw [if_neg (by rw [show (s.measured c plan.remainder plan.realized).aec.state = s.aec.state from rfl, hs]; decide)]
  unfold issueDecision differs
  simp only [Bool.and_eq_true, walked_eq_true]
  simp only [Bool.or_eq_true, decide_eq_true_eq]
  rfl

end

/-- Settles O33: the stages are the model's by the equations above, and each state of AEC makes of them what its clause
says. -/
theorem exposureAtACompleteFrame : Obligations.ExposureAtACompleteFrame := by
  intro s z a p subject weight weights m clipped adj target e within step₀ step xNew bonus tMax gMax k program segments x w
    usable ap q gains setting remainder realized walked counts settledCount settled broken waits scanning issue requested
    copied low high reported computed
  have hwaits : waitingFrame s.aec s.intake.fn = true ↔ waits := waitingFrame_iff ..
  have hweights : weightSum s.aec.copy = weights := weightSum_eq _
  have hclipped : clippedSubject z.mask s.aec.copy.subject = clipped := clippedSubject_eq ..
  have hadj : caseAdjustment s.aec.params z.mask s.aec.copy.subject = adj := by
    rw [caseAdjustment_eq]
    simp only [adj, clipped, decide_eq_true_eq]
    rfl
  have htarget : (effectiveTarget s.aec.params adj : Int) = target := effectiveTarget_cast ..
  have hm : meterLevel s.aec.copy z.means = m := congrArg₂ (· / ·) (levelSum_eq ..) hweights
  have hstages : computeStages s z = ⟨m, e, target.toNat, xNew⟩ := by
    unfold computeStages
    dsimp only
    rw [hadj, hm, htarget]
    rfl
  have hlimits : walkLimits s = k := by
    unfold walkLimits handheldLimit
    dsimp only
    rw [Int.add_assoc]
    rfl
  have hsegments : activeSegments s = segments := (activeSegments_eq s).trans (segmentsOf_eq _)
  have husable : desiredUsable s w.aI = true ↔ usable := desiredUsable_eq_true
  have hplan : exposurePlan s x = ⟨setting, !decide usable, remainder, realized⟩ := by
    unfold exposurePlan
    rw [hlimits, hsegments]
    simp only [setting, remainder, realized]
    by_cases hu : usable
    · simp only [if_pos hu]
      exact (if_pos (husable.2 hu)).trans (by rw [decide_eq_true hu]; rfl)
    · simp only [if_neg hu]
      exact (if_neg (mt husable.1 hu)).trans (by rw [decide_eq_false hu]; rfl)
  have hreported : reportStages s (computeStages s z) = reported := by
    rw [hstages]
    exact reportStages_eq ..
  have hcopied (hs : s.aec.state = .off ∨ s.aec.state = .locked) : captureCopy s = copied s := captureCopy_eq hs
  have hcopiedReported (hs : s.aec.state = .off ∨ s.aec.state = .locked) : captureCopy reported = copied reported :=
    captureCopy_eq hs
  have hcomputed : s.measured ⟨m, e, target.toNat, xNew⟩ remainder realized = computed := rfl
  refine ⟨fun h => ?_, fun hw hs => ?_, fun hw hs hmanual => ?_, fun y hw hs hmanual => ?_, fun hw hs hinvalid => ?_,
    fun hw hs hmoved hne => ?_, fun hw hs hmoved hne => ?_⟩
  · exact aecEof_of_waiting _ (h.imp_left hwaits.2)
  · rw [aecEof_locked (mt hwaits.1 hw) hs, hweights, hclipped, hcopied (.inr hs), hreported]
    by_cases hzero : weights = 0
    · rw [if_pos hzero, if_pos hzero]
    · rw [if_neg hzero, if_neg hzero, hcopiedReported (.inr hs)]
  · rw [aecEof_off (mt hwaits.1 hw) hs, issueOff_none hmanual, hcopied (.inl hs)]
  · rw [aecEof_off (mt hwaits.1 hw) hs]
    by_cases hdiffers : a.markDue = true ∨ a.latest ≠ some y
    · rw [if_pos hdiffers, issueOff_differs hmanual hdiffers]
      by_cases hscan : scanning
      · rw [if_pos hscan]
        exact congrArg (·, false, false) (if_pos ((scanning_iff _).2 hscan))
      · rw [if_neg hscan, issueManual_eq hs (mt (scanning_iff _).1 hscan)]
        rfl
    · obtain ⟨hm, hl⟩ := not_or.1 hdiffers
      rw [if_neg hdiffers, issueOff_same hmanual (Bool.eq_false_iff.2 hm) (not_not.1 hl)]
  · rw [aecEof_measuring (mt hwaits.1 hw) hs, hweights, if_pos hinvalid, invalidFrame_eq hs]
  · rw [aecEof_measuring (mt hwaits.1 hw) (.inr hs), hweights, if_neg (not_or.2 ⟨Bool.eq_false_iff.1 hmoved, hne⟩), measuredFrame_held hs,
      hclipped, hstages, hplan]
    rfl
  · intro issued
    rw [aecEof_measuring (mt hwaits.1 hw) (.inl hs), hweights, if_neg (not_or.2 ⟨Bool.eq_false_iff.1 hmoved, hne⟩), measuredFrame_run hs,
      hclipped, hstages, hplan]
    have hiris : setting.iris = w.aI := by
      simp only [setting]
      split <;> rfl
    have hrequests : (if (!decide usable) = true then requestIris issued setting.iris else issued) =
        if usable then issued else requested issued w.aI := by
      by_cases hu : usable
      · rw [decide_eq_true hu, if_pos hu]
        rfl
      · rw [decide_eq_false hu, if_neg hu, hiris]
        exact requestIris_eq ..
    exact congrArg (fun t => (if walked ∧ (a.markDue = true ∨ a.latest ≠ some setting) then t else computed, false, clipped))
      hrequests

end Sys2Proof.Machine
end

section
/-! PROOF of the statement on STORE_START, STORE_STOP, TRIGGER and NOTICE_ARM (R143, R144, R150, R159), with how AEC follows
AFC's states (R33, R48). -/

namespace Sys2Proof.Machine

/-! ### AEC follows AFC (R33, R48) -/

/-- AEC enters RUN or HELD: SETTLED is judged by the counter as it stands (R48). -/
def State.countedIn (s : State) (st : AeState) : State :=
  (s.setAec { s.aec with state := st, settled := decide (s.aec.params.settleCount ≤ s.aec.settledCount) }).setCnd
    (cndSetLevel s.cnd condAeSettled (decide (s.aec.params.settleCount ≤ s.aec.settledCount)))

/-- AFC enters a state without a scan: AEC leaves HELD (R33). -/
theorem afcEnter_of_not_scanning (s : State) {st : AfState} (h : st.scanning = false) :
    afcEnter s st = if s.aec.state = .held then (s.setAfc { s.afc with state := st }).countedIn .run
      else s.setAfc { s.afc with state := st } := by
  unfold afcEnter
  rw [h]
  rfl

/-- AFC enters COARSE or FINE: AEC in RUN is held, its break counter 0 (R33). -/
theorem afcEnter_of_scanning (s : State) {st : AfState} (h : st.scanning = true) :
    afcEnter s st = if s.aec.state = .run
      then ((s.setAfc { s.afc with state := st }).setAec { s.aec with breakCount := 0 }).countedIn .held
      else s.setAfc { s.afc with state := st } := by
  unfold afcEnter
  rw [h]
  rfl

/-- AF_CANCEL in a scan (R86). -/
theorem afcCancel_inScan {s : State} (h : s.afc.state = .coarse ∨ s.afc.state = .fine ∨ s.afc.state = .settle) :
    afcCancel s = afcEnter ((s.cancelMove .af).setAfc { s.afc with scan := none, rescanAfterZoom := false }) .idle := by
  unfold afcCancel
  rcases h with h | h | h <;> rw [h] <;> rfl

/-- AF_CANCEL in LOCKED, MONITOR and FAILED (R86). -/
theorem afcCancel_locked {s : State} (h : s.afc.state = .locked ∨ s.afc.state = .monitor ∨ s.afc.state = .failed) :
    afcCancel s = afcEnter (s.setAfc { s.afc.unlocked with rescanAfterZoom := false }) .idle := by
  unfold afcCancel
  rcases h with h | h | h <;> rw [h]

theorem afcCancel_idle {s : State} (h : s.afc.state = .idle) :
    afcCancel s = s.setAfc { s.afc with rescanAfterZoom := false } := by
  unfold afcCancel
  rw [h]

/-- An S1 release does not look at the Link Interface. -/
theorem afcS1Release_setLnk (s : State) (l : Lnk) : afcS1Release (s.setLnk l) = (afcS1Release s).setLnk l := by
  unfold afcS1Release
  rw [State.setLnk_afc]
  split
  iterate 3 exact afcCancel_setLnk s l
  · exact afcEnter_setLnk (s.setAfc _) .idle l
  · rfl

/-! ### STORE_STOP (R144, R54, R161) -/

theorem triggered_iff (c : Cst) :
    c.triggered = true ↔ c.state = .gating ∨ (c.state = .capturing ∧ c.params.mode ≠ .stream) := by
  simp [Cst.triggered]

/-- The state once STORE_STOP has ended a capture, before an S1 release withheld during it is passed on. -/
def State.halted (s : State) : State :=
  ((s.setAec (if s.cst.state = .gating ∨ (s.cst.state = .capturing ∧ s.cst.params.mode ≠ .stream)
      then { s.aec with program := .live, markDue := false } else s.aec)).setCnd
    (if ∃ x ∈ s.cst.slots, x.state = .filling then cndSetLevel s.cnd condStoreFull false else s.cnd)).setCst { s.cst with
      state := .idle, forced := false, withheldRelease := false, slots := s.cst.slots.map unfilled }

theorem tellCaptureEnd_eq (s : State) : tellCaptureEnd s =
    s.setAec (if s.cst.triggered = true then { s.aec with program := .live, markDue := false } else s.aec) := by
  unfold tellCaptureEnd
  split <;> rfl

theorem captureStopped_passed (s : State) :
    (captureStopped s).setCst { (captureStopped s).cst with withheldRelease := false } = s.halted := by
  unfold captureStopped State.halted
  simp only [← triggered_iff]
  rw [tellCaptureEnd_eq, freeFilling_eq]
  rfl

theorem storeStop_of_capture {s : State} (h : s.cst.state ≠ .idle) :
    storeStop s = if s.cst.withheldRelease = true ∧ s.cst.s1.debounced = false then afcS1Release s.halted else s.halted := by
  have hcst := (captureStopped_values s).1
  have hstate : (captureStopped s).cst.state = .idle := by rw [hcst]
  have hwithheld : (captureStopped s).cst.withheldRelease = s.cst.withheldRelease := by rw [hcst]
  have hs1 : (captureStopped s).cst.s1 = s.cst.s1 := by rw [hcst]
  have hstop : storeStop s = passWithheld (captureStopped s) := if_neg h
  rw [hstop, passWithheld_eq (.inl hstate), captureStopped_passed, hwithheld, hs1]

/-- STORE_STOP does not look at the Link Interface. -/
theorem storeStop_setLnk (s : State) (l : Lnk) : storeStop (s.setLnk l) = (storeStop s).setLnk l := by
  by_cases h : s.cst.state = .idle
  · exact (if_pos h).trans (congrArg (State.setLnk · l) (if_pos h).symm)
  · have hhalted : (s.setLnk l).halted = s.halted.setLnk l := rfl
    rw [storeStop_of_capture h, storeStop_of_capture (s := s.setLnk l) h, hhalted, afcS1Release_setLnk]
    exact (apply_ite (State.setLnk · l) ..).symm

section
variable {s : State} {tag : Tag}

theorem exec_storeStop (h : s.turnOf (.storeStop tag (.args ()))) :
    exec (.storeStop tag (.args ())) s = .next ((storeStop s).replied tag 26 (answer .done)) :=
  congrArg Host.Outcome.next (hostCommand_replied h (storeStop_storeOnly s).lnk
    (congrArg (·, answer .done) (storeStop_setLnk ..)))

/-! ### TRIGGER and STORE_START (R143, R150, R53) -/

theorem exec_trigger_taken (h : s.turnOf (.trigger tag (.args ()))) (hr : triggerRefusal s.cst = none) :
    exec (.trigger tag (.args ())) s = .next ((takeTrigger s).replied tag 27 (answer .accepted)) := by
  refine congrArg Host.Outcome.next (hostCommand_replied h rfl ?_)
  unfold triggerCommand
  rw [State.setLnk_cst, hr]
  rfl

theorem exec_trigger_refused {st : Status} (h : s.turnOf (.trigger tag (.args ()))) (hr : triggerRefusal s.cst = some st) :
    exec (.trigger tag (.args ())) s = .next (s.replied tag 27 (answer st)) := by
  refine congrArg Host.Outcome.next (hostCommand_unchanged h ?_)
  unfold triggerCommand
  rw [State.setLnk_cst, hr]

theorem exec_storeStart_taken {c : Cst} (h : s.turnOf (.storeStart tag (.args ())))
    (hb : ∀ l, storeStart (s.setLnk l) = ((s.setLnk l).setCst c, answer .done)) :
    exec (.storeStart tag (.args ())) s = .next ((s.setCst c).replied tag 25 (answer .done)) :=
  congrArg Host.Outcome.next (hostCommand_replied h rfl (hb _))

end

/-- Settles O51, command by command; AFC's part of a withheld release is afcS1Release of the state that STORE_STOP
leaves. -/
theorem capturesStartTriggerStop : Obligations.CapturesStartTriggerStop := by
  refine ⟨fun s tag h => ⟨fun hs hm => ?_, fun hs hm => ?_, fun hr => ?_, fun hr => ?_⟩,
    fun s tag h => ⟨fun hm => ?_, fun hm hs => ?_, fun hs hm => ?_, fun hs hm => ?_, fun hs hm => ?_⟩, fun s tag h hs => ?_,
    fun s tag h hs => ?_, fun s tag h => ?_⟩
  · rw [exec_trigger_taken h (by simp [triggerRefusal, hs, hm])]
    unfold takeTrigger
    dsimp only
    rw [if_pos hm]
    rfl
  · rw [exec_trigger_taken h (by simp [triggerRefusal, hs, hm])]
    unfold takeTrigger
    dsimp only
    rw [if_neg (by rw [hm]; decide)]
    rfl
  · exact exec_trigger_refused h (by rcases hr with ⟨hs, hm⟩ | ⟨hs, hm⟩ <;> simp [triggerRefusal, hs, hm])
  · exact exec_trigger_refused h (by rcases hr with hs | hs <;> simp [triggerRefusal, hs])
  · refine congrArg Host.Outcome.next (hostCommand_unchanged h ?_)
    unfold storeStart
    rw [State.setLnk_cst, hm]
  · refine congrArg Host.Outcome.next (hostCommand_unchanged h ?_)
    unfold storeStart
    rw [State.setLnk_cst]
    split
    · exact absurd ‹_› hm
    · exact if_pos hs
  · refine exec_storeStart_taken h fun l => ?_
    unfold storeStart
    rw [State.setLnk_cst, hm]
    exact if_neg (not_not.2 hs)
  · refine exec_storeStart_taken h fun l => ?_
    unfold storeStart
    rw [State.setLnk_cst, hm]
    exact if_neg (not_not.2 hs)
  · refine exec_storeStart_taken h fun l => ?_
    unfold storeStart
    rw [State.setLnk_cst, hm]
    exact if_neg (not_not.2 hs)
  · rw [exec_storeStop h, show storeStop s = s from if_pos hs]
  · intro told a c u passes settled runsOn
    have hu : s.halted = u := rfl
    rw [exec_storeStop h, storeStop_of_capture hs, hu]
    refine ⟨fun hkept => ?_, fun hpasses hafc => ?_, fun hpasses hafc => ?_⟩
    · by_cases hpasses : passes
      · rw [if_pos hpasses, afcS1Release_of_idle (s := u) (hkept.resolve_left (not_not.2 hpasses))]
      · rw [if_neg hpasses]
    · have hrelease : afcS1Release u = afcEnter (u.setAfc u.afc.unlocked) .idle := by
        unfold afcS1Release
        rw [show u.afc.state = .locked from hafc]
      rw [if_pos hpasses, hrelease, afcEnter_of_not_scanning _ rfl]
      rfl
    · rw [if_pos hpasses, afcS1Release_inScan (s := u) hafc, afcCancel_inScan (s := u) hafc, afcEnter_of_not_scanning _ rfl]
      rfl
  · exact congrArg Host.Outcome.next (hostCommand_replied h rfl rfl)

end Sys2Proof.Machine
end

section
/-! PROOF of the statement on AF_START and AF_CANCEL (R85, R86, R88, R33). -/

namespace Sys2Proof.Machine

/-! ### Positions by steps (R88) -/

/-- The steps stay between the two ends. -/
theorem mem_stepPositions {a b step q : Nat} (hstep : 1 ≤ step) (hq : q ∈ stepPositions a b step) :
    min a b ≤ q ∧ q ≤ max a b := by
  unfold stepPositions at hq
  obtain hq | hq := List.mem_append.1 hq
  · obtain ⟨i, hi, rfl⟩ := List.mem_map.1 hq
    have hsteps : (i + 1) * step ≤ distance a b + step - 1 := (Nat.le_div_iff_mul_le hstep).1 (List.mem_range.1 hi)
    have hreach : i * step ≤ distance a b := by rw [Nat.succ_mul] at hsteps; omega
    unfold distance at hreach
    generalize i * step = reach at hreach ⊢
    split <;> omega
  · rw [List.mem_singleton.1 hq]
    omega

theorem stepPositions_getLast? (a b step : Nat) : (stepPositions a b step).getLast? = some b := by
  unfold stepPositions
  rw [List.getLast?_append, List.getLast?_singleton]
  rfl

theorem stepPositions_head? {a b step : Nat} (hstep : 1 ≤ step) : (stepPositions a b step).head? = some a := by
  unfold stepPositions
  cases hn : (distance a b + step - 1) / step with
  | zero =>
    have hzero : distance a b + step - 1 < step := by
      by_contra hge
      have hpos := Nat.div_pos (Nat.le_of_not_lt hge) hstep
      omega
    have hsame : a = b := by unfold distance at hzero; omega
    simp [hsame]
  | succ n => simp [List.range_succ_eq_map]

/-! ### A request granted at once (R65) -/

theorem noMoves_eq_true {l : Lds} : l.noMoves = true ↔ l.running = none ∧ l.stack = [] ∧ ∀ src, l.slots.get src = none := by
  unfold Lds.noMoves
  simp only [Bool.and_eq_true, Option.isNone_iff_eq_none, List.isEmpty_iff, List.all_eq_true, and_assoc]
  refine and_congr_right fun _ => and_congr_right fun _ => ⟨fun h src => h src ?_, fun h src _ => h src⟩
  cases src <;> decide

/-- With no moves the grant finds nothing to start. -/
theorem grantLoop_of_noMoves {s : State} (h : s.lds.noMoves = true) (k : Nat) : grantLoop k s = s := by
  obtain ⟨-, hstack, hslots⟩ := noMoves_eq_true.1 h
  have hchoose : choose s.lds = .nothing := by
    unfold choose bestPending sourceOrder
    simp only [hstack, List.foldl_cons, List.foldl_nil, hslots]
  cases k with
  | zero => rfl
  | succ k =>
    unfold grantLoop
    rw [hchoose]
    exact ite_self s

theorem Slots.get_set (sl : Slots) (src x : Source) (r : Option Request) :
    (sl.set src r).get x = if x = src then r else sl.get x := by
  cases src <;> cases x <;> rfl

/-- A request alone in the slots is the one that the grant chooses. -/
theorem choose_of_noMoves {l : Lds} (h : l.noMoves = true) (src : Source) (r : Request) :
    choose { l with slots := l.slots.set src (some r) } = .request src r := by
  obtain ⟨-, hstack, hslots⟩ := noMoves_eq_true.1 h
  have hget (x : Source) : (l.slots.set src (some r)).get x = if x = src then some r else none := by
    rw [Slots.get_set, hslots]
  unfold choose bestPending sourceOrder
  simp only [hstack, List.foldl_cons, List.foldl_nil, hget]
  cases src <;> rfl

/-- The request taken from its slot again leaves the slots as they were. -/
theorem slots_set_none_of_noMoves {l : Lds} (h : l.noMoves = true) (src : Source) (r : Request) :
    { l with slots := (l.slots.set src (some r)).set src none } = l := by
  have hsrc := (noMoves_eq_true.1 h).2.2 src
  have hset : (l.slots.set src (some r)).set src none = l.slots := by
    rw [← hsrc]
    cases src <;> rfl
  rw [hset]

/-- A request of a valid motor on an idle drive without moves is granted at once (R63, R65). -/
theorem place_grant_of_noMoves {v : State} {src : Source} {r : Request} (hidle : v.lds.noMoves = true)
    (href : v.lds.reference = none) (hvalid : (v.lds.motor r.motor).valid = true) :
    (v.place src r).grant =
      let g := grantOne v (moveOf v.lds src { r with target := min (motorTop r.motor) r.target })
      if g.1 then grantLoop 63 g.2 else g.2 := by
  obtain ⟨hrunning, hstack, -⟩ := noMoves_eq_true.1 hidle
  have hplace : v.place src r = v.setLds { v.lds with
      slots := v.lds.slots.set src (some { r with target := min (motorTop r.motor) r.target }) } := by
    unfold State.place ldsPlace
    have hsuspends : v.lds.suspends src = false := by simp [Lds.suspends, hstack]
    dsimp only
    rw [if_pos hvalid, hrunning, hsuspends]
    rfl
  generalize ({ r with target := min (motorTop r.motor) r.target } : Request) = r' at hplace ⊢
  have hdrive : ({ v.lds with slots := v.lds.slots.set src (some r') } : Lds).idle = true := by
    simp [Lds.idle, hrunning, href]
  rw [hplace]
  change grantLoop (63 + 1) _ = _
  unfold grantLoop
  rw [State.setLds_lds, if_pos hdrive, choose_of_noMoves hidle]
  dsimp only
  rw [State.setLds_setLds, slots_set_none_of_noMoves hidle]
  rfl

/-- AF's request on an idle drive without moves starts its move, or completes at once where the focus is already there
(R61, R65). -/
theorem afcRequest_grant {v : State} {pos : Nat} (hidle : v.lds.noMoves = true) (href : v.lds.reference = none)
    (hfocus : v.lds.focus.valid = true) (hpos : pos ≤ 4095) :
    let m := moveOf v.lds .af ⟨.focus, pos, v.lds.params.afClass⟩
    (v.lds.focus.pos ≠ pos → (afcRequest v pos).grant = v.setLds (v.lds.start m)) ∧
    (v.lds.focus.pos = pos → (moveComplete v .af).lds = v.lds → (afcRequest v pos).grant = moveComplete v .af) := by
  intro m
  have htop : min (motorTop .focus) pos = pos := by simp only [motorTop]; omega
  have hgrant : (afcRequest v pos).grant = let g := grantOne v m; if g.1 then grantLoop 63 g.2 else g.2 := by
    have h := place_grant_of_noMoves (src := .af) (r := ⟨.focus, pos, v.lds.params.afClass⟩) hidle href hfocus
    rw [htop] at h
    exact h
  rw [hgrant]
  refine ⟨fun hne => ?_, fun heq hlds => ?_⟩
  · have hrest : ¬ m.atRest v.lds.focus.pos = true := fun h => hne (of_decide_eq_true h).1
    have hone : grantOne v m = (false, v.setLds (v.lds.start m)) := if_neg hrest
    rw [hone]
    rfl
  · have hrest : m.atRest v.lds.focus.pos = true :=
      decide_eq_true ⟨heq, heq.trans (if_neg (Nat.not_lt.2 heq.le)).symm⟩
    have hone : grantOne v m = (true, moveComplete v .af) := if_pos hrest
    rw [hone]
    refine (if_pos rfl).trans (grantLoop_of_noMoves (s := moveComplete v .af) ?_ 63)
    rw [hlds]
    exact hidle

/-! ### What AFC's commands leave -/

/-- AFC, LDS, AEC and the conditions put back: nothing else has changed. -/
theorem State.ControlsOnly.undone {t s : State} (h : t.ControlsOnly s) (hz : t.zmc = s.zmc) :
    (((t.setAfc s.afc).setLds s.lds).setAec s.aec).setCnd s.cnd = s := by
  obtain ⟨hintake, hpxp, hstats, hmou, hcst, hlnk, hchoices, hpending, -⟩ := h
  cases t
  cases s
  dsimp only at *
  subst hintake hpxp hstats hmou hcst hlnk hchoices hpending hz
  rfl

/-- The same with the Link Interface, which a REPLY alone has changed. -/
theorem State.ControlsOnly.undone_replied {t s : State} (h : t.ControlsOnly s) (hz : t.zmc = s.zmc) (tag : Tag) (code : Byte)
    (a : Answer) :
    (((((t.replied tag code a).setAfc s.afc).setLds s.lds).setAec s.aec).setCnd s.cnd).setLnk s.lnk = s := by
  have hundone := h.undone hz
  have hlnk : (((((t.replied tag code a).setAfc s.afc).setLds s.lds).setAec s.aec).setCnd s.cnd).setLnk s.lnk =
      ((((t.setAfc s.afc).setLds s.lds).setAec s.aec).setCnd s.cnd).setLnk s.lnk := rfl
  rw [hlnk, hundone]
  rfl

/-! ### AF_CANCEL (R86, R70) -/

/-- What AFC's entering a state without a scan leaves of each block: AEC leaves HELD (R33). -/
theorem afcEnter_leaving_values (u : State) {st : AfState} (h : st.scanning = false) :
    (afcEnter u st).afc = { u.afc with state := st } ∧ (afcEnter u st).lds = u.lds ∧
    (afcEnter u st).zmc = u.zmc ∧ (u.aec.state = .held → (afcEnter u st).aec.state = .run) ∧
    (u.aec.state ≠ .held → (afcEnter u st).aec = u.aec ∧ (afcEnter u st).cnd = u.cnd) := by
  rw [afcEnter_of_not_scanning u h]
  by_cases hheld : u.aec.state = .held
  · rw [if_pos hheld]
    exact ⟨rfl, rfl, rfl, fun _ => rfl, fun h => absurd hheld h⟩
  · rw [if_neg hheld]
    exact ⟨rfl, rfl, rfl, fun h => absurd h hheld, fun _ => ⟨rfl, rfl⟩⟩

/-- Outside IDLE a scan is in hand, or AFC holds or has lost a lock. -/
theorem afState_cases {x : AfState} (h : x ≠ .idle) :
    (x = .locked ∨ x = .monitor ∨ x = .failed) ∨ (x = .coarse ∨ x = .fine ∨ x = .settle) := by
  revert h
  cases x <;> decide

section
variable {s : State} {tag : Tag}

theorem exec_afCancel_replied (h : s.turnOf (.afCancel tag (.args ()))) :
    exec (.afCancel tag (.args ())) s = .next ((afcCancel s).replied tag 15 (answer .done)) :=
  congrArg Host.Outcome.next (hostCommand_replied h (afcCancel_lnk s) (congrArg (·, answer .done) (afcCancel_setLnk ..)))

/-! ### AF_START (R85, R88) -/

theorem exec_afStart_refused {st : Status} (h : s.turnOf (.afStart tag (.args ()))) (hr : afcStartChecks s = some st) :
    exec (.afStart tag (.args ())) s = .next (s.replied tag 14 (answer st)) := by
  refine congrArg Host.Outcome.next (hostCommand_unchanged h ?_)
  unfold afStart
  rw [show afcStartChecks (s.setLnk (lnkTake s.lnk tag)) = afcStartChecks s from rfl, hr]

theorem exec_afStart_taken (h : s.turnOf (.afStart tag (.args ()))) (hr : afcStartChecks s = none) :
    exec (.afStart tag (.args ())) s = .next ((afcScanStart s).grant.replied tag 14 (answer .accepted)) := by
  have hlnk : (afcScanStart s).grant.lnk = s.lnk := by simp
  have hscan : afcScanStart (s.setLnk (lnkTake s.lnk tag)) = (afcScanStart s).setLnk (lnkTake s.lnk tag) := by
    refine (afcScanStart_ignores s (takePlace tag s.lnk.buffer)).trans ?_
    unfold State.withBuffer
    rw [afcScanStart_lnk]
    rfl
  have hstart : (afcScanStart (s.setLnk (lnkTake s.lnk tag))).grant = (afcScanStart s).grant.setLnk (lnkTake s.lnk tag) := by
    have hgrant := grant_ignores (afcScanStart s) (takePlace tag s.lnk.buffer)
    unfold State.withBuffer at hgrant
    rw [State.grant_lnk, afcScanStart_lnk] at hgrant
    rw [hscan]
    exact hgrant
  refine congrArg Host.Outcome.next (hostCommand_replied h hlnk ?_)
  unfold afStart
  rw [show afcStartChecks (s.setLnk (lnkTake s.lnk tag)) = afcStartChecks s from rfl, hr]
  exact congrArg (·, answer .accepted) hstart

end

theorem afcStartChecks_of_mode {s : State} (hoff : s.afc.mode ≠ .off) (hmanual : s.afc.mode ≠ .manual) :
    afcStartChecks s = afcBusyChecks s := if_neg (not_or.2 ⟨hoff, hmanual⟩)

theorem afcBusyChecks_of_free {s : State} (hscan : s.afc.state.inScan = false) (hzoom : s.zmc.mode = .idle) :
    afcBusyChecks s = afcRangeChecks s := by
  unfold afcBusyChecks
  rw [hscan, hzoom]
  rfl

theorem afcRangeChecks_eq_none {s : State} : afcRangeChecks s = none ↔
    s.tableValid zoomId = true ∧ s.lds.focus.valid = true ∧ s.lds.zoom.valid = true ∧ enabledWindows s.afc.windows ≠ [] := by
  unfold afcRangeChecks
  cases s.tableValid zoomId <;> cases s.lds.focus.valid <;> cases s.lds.zoom.valid <;> simp

theorem enabledWindows_eq (ws : List Window) :
    enabledWindows ws = (List.range 8).filter fun k => (ws[k]?).any (·.enabled) := by
  refine List.filter_congr fun k _ => ?_
  cases ws[k]? <;> rfl

theorem enabledWindows_eq_nil {ws : List Window} (h : ∀ w ∈ ws.take 8, w.enabled = false) : enabledWindows ws = [] := by
  unfold enabledWindows
  rw [List.filter_eq_nil_iff]
  intro i hi
  cases hw : ws[i]? with
  | none => simp
  | some w =>
    have hmem : w ∈ ws.take 8 := List.mem_of_getElem? (i := i) (by rw [List.getElem?_take_of_lt (List.mem_range.1 hi), hw])
    simp [h w hmem]

/-- The scan that begins on a range, before its first request (R88). -/
def State.startedScan (s : State) (inf near : Nat) : Scan :=
  { inf := inf, near := near, positions := coarsePositions s.lds.focus.pos inf near s.afc.coarseStep, next := 1
    peaks := List.replicate 8 none, coarsePeak := none
    primary := if s.afc.selection = .selected then some s.afc.selected else none
    drops := 0, discards := 0, wait := .move, lockPos := 0 }

/-- AFC as a start leaves it in COARSE (R85). -/
def State.startedAfc (s : State) : Afc :=
  { s.afc.unlocked with
    restarts := 0, rescanAfterZoom := false, windowSet := enabledWindows s.afc.windows
    range := some (s.infAt s.lds.zoom.pos, s.nearAt s.lds.zoom.pos)
    scan := some (s.startedScan (s.infAt s.lds.zoom.pos) (s.nearAt s.lds.zoom.pos)), history := [] }

/-- A start enters COARSE and requests the first position (R88). -/
theorem afcScanStart_eq (s : State) : afcScanStart s = afcRequest (afcEnter (s.setAfc s.startedAfc) .coarse)
    ((coarsePositions s.lds.focus.pos (s.infAt s.lds.zoom.pos) (s.nearAt s.lds.zoom.pos) s.afc.coarseStep).headD 0) := rfl

/-- A completion that AFC waits on begins the wait for an SOF (R89). -/
theorem moveComplete_af_move {s : State} {sc : Scan} (hscan : s.afc.scan = some sc)
    (hs : s.afc.state = .coarse ∨ s.afc.state = .fine) (hslot : s.lds.slots.af = none) (hwait : sc.wait = .move) :
    moveComplete s .af = s.setAfc { s.afc with scan := some { sc with wait := .sof, discards := 0 } } := by
  change afcMoveComplete s = _
  unfold afcMoveComplete
  rw [hscan]
  dsimp only
  rw [if_pos (by rw [(scanning_iff _).2 hs, hslot]; rfl), hwait]

section
variable {s : State}

/-- A taken start on an idle drive: the move to the nearer end starts, or the first sample is waited for at once where the
focus is there. -/
theorem afcScanStart_grant {start : Nat} (hidle : s.lds.noMoves = true) (href : s.lds.reference = none)
    (hfocus : s.lds.focus.valid = true) (hstart : start ≤ 4095)
    (hhead : (coarsePositions s.lds.focus.pos (s.infAt s.lds.zoom.pos) (s.nearAt s.lds.zoom.pos)
      s.afc.coarseStep).head? = some start) :
    let v := afcEnter (s.setAfc s.startedAfc) .coarse
    (s.lds.focus.pos ≠ start → (afcScanStart s).grant =
      v.setLds (s.lds.start (moveOf s.lds .af ⟨.focus, start, s.lds.params.afClass⟩))) ∧
    (s.lds.focus.pos = start → (afcScanStart s).grant = v.setAfc { v.afc with
      scan := some { s.startedScan (s.infAt s.lds.zoom.pos) (s.nearAt s.lds.zoom.pos) with wait := .sof } }) := by
  intro v
  obtain ⟨hafc, hlds, -⟩ : v.afc = _ ∧ v.lds = s.lds ∧ _ := afcEnter_values (s.setAfc s.startedAfc) .coarse
  have hcomplete : moveComplete v .af = v.setAfc { v.afc with
      scan := some { s.startedScan (s.infAt s.lds.zoom.pos) (s.nearAt s.lds.zoom.pos) with wait := .sof } } :=
    moveComplete_af_move (by rw [hafc]; rfl) (by rw [hafc]; exact .inl rfl)
      (by rw [hlds]; exact (noMoves_eq_true.1 hidle).2.2 .af) rfl
  obtain ⟨hmoves, hthere⟩ := afcRequest_grant (v := v) (pos := start) (by rw [hlds]; exact hidle) (by rw [hlds]; exact href)
    (by rw [hlds]; exact hfocus) hstart
  rw [hlds] at hmoves hthere
  rw [afcScanStart_eq, List.headD_eq_head?_getD, hhead]
  exact ⟨hmoves, fun heq => (hthere heq (by rw [hcomplete]; exact hlds)).trans hcomplete⟩

/-- AEC as AFC enters COARSE (R33). -/
theorem afcEnter_coarse_aec (s : State) :
    (s.aec.state = .run → (afcEnter s .coarse).aec.state = .held ∧ (afcEnter s .coarse).aec.breakCount = 0 ∧
      (afcEnter s .coarse).aec.settledCount = s.aec.settledCount) ∧
    (s.aec.state ≠ .run → (afcEnter s .coarse).aec = s.aec ∧ (afcEnter s .coarse).cnd = s.cnd) := by
  rw [afcEnter_of_scanning s rfl]
  refine ⟨fun hrun => ?_, fun hrun => ?_⟩
  · rw [if_pos hrun]
    exact ⟨rfl, rfl, rfl⟩
  · rw [if_neg hrun]
    exact ⟨rfl, rfl⟩

/-- What a taken start leaves of each block, the first position being start (R85, R88, R33). -/
theorem afcScanStart_taken {start : Nat} {u : State} (hu : (afcScanStart s).grant = u) (hidle : s.lds.noMoves = true) (href : s.lds.reference = none)
    (hfocus : s.lds.focus.valid = true) (hstart : start ≤ 4095)
    (hhead : (coarsePositions s.lds.focus.pos (s.infAt s.lds.zoom.pos) (s.nearAt s.lds.zoom.pos)
      s.afc.coarseStep).head? = some start) :
    ∃ wait, u.afc = { s.startedAfc with
        state := .coarse
        scan := some { s.startedScan (s.infAt s.lds.zoom.pos) (s.nearAt s.lds.zoom.pos) with wait := wait } } ∧
      (s.lds.focus.pos ≠ start → wait = .move ∧
        u.lds = s.lds.start (moveOf s.lds .af ⟨.focus, start, s.lds.params.afClass⟩)) ∧
      (s.lds.focus.pos = start → wait = .sof ∧ u.lds = s.lds) ∧
      (s.aec.state = .run → u.aec.state = .held ∧ u.aec.breakCount = 0 ∧ u.aec.settledCount = s.aec.settledCount) ∧
      (s.aec.state ≠ .run → u.aec = s.aec ∧ u.cnd = s.cnd) ∧
      u.zmc = s.zmc := by
  obtain ⟨hmoves, hthere⟩ := afcScanStart_grant hidle href hfocus hstart hhead
  obtain ⟨hrun, hother⟩ := afcEnter_coarse_aec (s.setAfc s.startedAfc)
  obtain ⟨a, c, henter, -⟩ := afcEnter_eq (s.setAfc s.startedAfc) .coarse
  rw [hu, henter] at hmoves hthere
  rw [henter] at hrun hother
  by_cases heq : s.lds.focus.pos = start
  · rw [hthere heq]
    exact ⟨.sof, rfl, fun hne => absurd heq hne, fun _ => ⟨rfl, by simp⟩, hrun, hother, by simp⟩
  · rw [hmoves heq]
    exact ⟨.move, rfl, fun _ => ⟨rfl, State.setLds_lds ..⟩, fun h => absurd h heq, hrun, hother, by simp⟩

end

/-- Settles O41: AF_CANCEL state by state; AF_START by its order of checks, and its taken form by afcScanStart_grant. -/
theorem afStartAndCancel : Obligations.AfStartAndCancel := by
  refine ⟨fun s tag h => ⟨_, exec_afCancel_replied h, ?_⟩, fun s tag h => ⟨fun hmode => ?_, fun hoff hmanual hbusy => ?_,
    fun hoff hmanual hscan hzoom => ⟨fun htable => ?_, fun htable hmotors => ?_, fun htable hfocus hzoomValid hnone => ?_⟩,
    fun hoff hmanual hscan hzoom htable hfocus hzoomValid hsome hstep hheld hidle href hnear hle => ?_⟩⟩
  · have hlnk : ((afcCancel s).replied tag 15 (answer .done)).lnk = (s.replied tag 15 (answer .done)).lnk := by
      rw [State.replied, afcCancel_lnk]
      rfl
    have hundone (hz : (afcCancel s).zmc = s.zmc) := (afcCancel_controls s).undone_replied hz tag 15 (answer .done)
    by_cases hidle : s.afc.state = .idle
    · rw [afcCancel_idle hidle] at hlnk hundone ⊢
      exact ⟨hidle, rfl, fun _ h => absurd hidle h, fun _ => ⟨rfl, rfl⟩, fun _ => rfl, fun h => by simp [hidle] at h,
        fun h => by simp [hidle] at h, hlnk, hundone rfl⟩
    · obtain hlocked | hscan := afState_cases hidle
      · obtain ⟨hafc, hlds, hzmc, hheld, hother⟩ := afcEnter_leaving_values (s.setAfc { s.afc.unlocked with rescanAfterZoom := false })
          (st := .idle) rfl
        rw [← afcCancel_locked hlocked] at hafc hlds hzmc hheld hother
        exact ⟨congrArg Afc.state hafc, congrArg Afc.rescanAfterZoom hafc, fun h _ => hheld h, hother,
          fun h => absurd h hidle, fun _ => ⟨hlds, hafc⟩, fun h => by rcases hlocked with g | g | g <;> simp [g] at h,
          hlnk, hundone hzmc⟩
      · obtain ⟨hafc, hlds, hzmc, hheld, hother⟩ :=
          afcEnter_leaving_values ((s.cancelMove .af).setAfc { s.afc with scan := none, rescanAfterZoom := false })
            (st := .idle) rfl
        rw [← afcCancel_inScan hscan] at hafc hlds hzmc hheld hother
        exact ⟨congrArg Afc.state hafc, congrArg Afc.rescanAfterZoom hafc, fun h _ => hheld h, hother,
          fun h => absurd h hidle, fun h => by rcases hscan with g | g | g <;> simp [g] at h, fun _ => ⟨hafc, hlds⟩,
          hlnk, hundone hzmc⟩
  · exact exec_afStart_refused h (if_pos hmode)
  · refine exec_afStart_refused h ((afcStartChecks_of_mode hoff hmanual).trans (if_pos ?_))
    simpa using hbusy
  · refine exec_afStart_refused h ((afcStartChecks_of_mode hoff hmanual).trans ((afcBusyChecks_of_free hscan hzoom).trans ?_))
    unfold afcRangeChecks
    rw [htable]
    rfl
  · refine exec_afStart_refused h ((afcStartChecks_of_mode hoff hmanual).trans ((afcBusyChecks_of_free hscan hzoom).trans ?_))
    unfold afcRangeChecks
    rw [htable]
    rcases hmotors with hmotor | hmotor <;> simp [hmotor]
  · refine exec_afStart_refused h ((afcStartChecks_of_mode hoff hmanual).trans ((afcBusyChecks_of_free hscan hzoom).trans ?_))
    unfold afcRangeChecks
    rw [htable, hfocus, hzoomValid, enabledWindows_eq_nil hnone]
    rfl
  · intro inf near p start other
    have hpositions : coarsePositions p inf near s.afc.coarseStep = stepPositions start other s.afc.coarseStep := by
      unfold coarsePositions start other
      split <;> rfl
    have hends : start ≤ 4095 ∧ inf ≤ min start other ∧ max start other ≤ near := by
      unfold start other
      split <;> omega
    obtain ⟨hstart, hlo, hhi⟩ := hends
    have htaken := exec_afStart_taken h ((afcStartChecks_of_mode hoff hmanual).trans
      ((afcBusyChecks_of_free hscan hzoom).trans (afcRangeChecks_eq_none.2 ⟨htable, hfocus, hzoomValid, hsome⟩)))
    obtain ⟨wait, hafc, hmoves, hthere, hrun, hother, hzmc⟩ := afcScanStart_taken rfl hidle href hfocus hstart
      (by rw [hpositions]; exact stepPositions_head? hstep)
    have hlnk : (afcScanStart s).grant.lnk = s.lnk := by simp
    have hcontrols : (afcScanStart s).grant.ControlsOnly s := (State.grant_controls _).trans (afcScanStart_controls s)
    generalize (afcScanStart s).grant = u at *
    refine ⟨_, _, htaken, congrArg Afc.state hafc, congrArg Afc.scan hafc, congrArg Afc.history hafc,
      congrArg Afc.restarts hafc, congrArg Afc.lock hafc, congrArg Afc.range hafc, (congrArg Afc.windowSet hafc).trans ?_,
      rfl, rfl, rfl, ?_, ?_, hpositions, fun q hq => ?_, hmoves, hthere, hrun, hother, ?_, ?_⟩
    · exact enabledWindows_eq _
    · exact (congrArg List.head? hpositions).trans (stepPositions_head? hstep)
    · exact (congrArg List.getLast? hpositions).trans (stepPositions_getLast? ..)
    · have hq' : q ∈ stepPositions start other s.afc.coarseStep := hpositions ▸ hq
      obtain ⟨hmin, hmax⟩ := mem_stepPositions hstep hq'
      omega
    · rw [State.replied, hlnk]
      rfl
    · exact hcontrols.undone_replied hzmc tag 14 _

end Sys2Proof.Machine
end

section
/-! PROOF of the statement on AFC's frames (R84, R89, R90, R94 to R96, R99, R100, R102): what an SOF, an EOF, a disturbance
and a completed move make of a scan and of a lock. -/

namespace Sys2Proof.Machine

/-! ### A truncated EOF leaves AFC's move to itself (R40, R52, R102) -/

theorem ldsPlace_running_isSome (l : Lds) (src : Source) (r : Request) :
    (ldsPlace l src r).running.isSome = l.running.isSome := by
  unfold ldsPlace
  dsimp only
  split
  · cases hrunning : l.running with
    | none => dsimp only; split <;> rfl
    | some m =>
      dsimp only
      split
      · split <;> rfl
      · split <;> rfl
  · rfl

section
variable {s : State}

/-- The grant of an IRIS request leaves AFC, the drive being busy or without other moves. -/
theorem place_iris_grant_afc (target speed : Nat) (hiris : s.lds.iris.valid = true)
    (h : s.lds.running.isSome = true ∨ s.lds.reference.isSome = true ∨ s.lds.noMoves = true) :
    ((s.place .iris ⟨.iris, target, speed⟩).grant).afc = s.afc := by
  by_cases hidle : (s.place .iris ⟨.iris, target, speed⟩).lds.idle = true
  · obtain ⟨hrunning, href⟩ := Bool.and_eq_true_iff.1 hidle
    have href : s.lds.reference = none := by rwa [State.place_lds_reference, Option.isNone_iff_eq_none] at href
    have hrunning : s.lds.running.isSome = false := by
      rw [← ldsPlace_running_isSome s.lds .iris ⟨.iris, target, speed⟩]
      exact Option.isSome_eq_false_iff.2 hrunning
    have hmoves : s.lds.noMoves = true := by simpa [href, hrunning] using h
    rw [place_grant_of_noMoves (src := .iris) (r := ⟨.iris, target, speed⟩) hmoves href hiris]
    dsimp only
    unfold grantOne
    split
    · exact congrArg State.afc (grantLoop_of_noMoves (s := s) hmoves 63)
    · rfl
  · have hstay : (s.place .iris ⟨.iris, target, speed⟩).grant = s.place .iris ⟨.iris, target, speed⟩ := if_neg hidle
    rw [hstay]
    rfl

theorem requestIris_afc (target : Nat)
    (h : s.lds.running.isSome = true ∨ s.lds.reference.isSome = true ∨ s.lds.noMoves = true) :
    (requestIris s target).afc = s.afc := by
  unfold requestIris
  split
  · next hvalid => exact place_iris_grant_afc target 0 (Bool.and_eq_true_iff.1 hvalid).1 h
  · rfl

theorem aecJudgeRecords_afc_lds (s : State) : (aecJudgeRecords s).afc = s.afc ∧ (aecJudgeRecords s).lds = s.lds := by
  unfold aecJudgeRecords
  split <;> exact ⟨rfl, rfl⟩

theorem captureCopy_afc (s : State) : (captureCopy s).afc = s.afc := by
  unfold captureCopy
  split
  · split
    · exact (aecJudgeRecords_afc_lds _).1
    · rfl
  · rfl

theorem issueOff_afc (h : s.lds.running.isSome = true ∨ s.lds.reference.isSome = true ∨ s.lds.noMoves = true) :
    (issueOff s).afc = s.afc := by
  unfold issueOff
  split
  · split
    · unfold issueManual
      split
      · rfl
      · obtain ⟨hafc, hlds⟩ := aecJudgeRecords_afc_lds (s.setAec (issueRecord { s.aec with manual := none } _))
        exact (requestIris_afc _ (by rw [hlds]; exact h)).trans hafc
    · rfl
  · exact captureCopy_afc s

/-- AEC at a truncated EOF leaves AFC, the drive being busy or without moves. -/
theorem aecEof_none_afc (h : s.lds.running.isSome = true ∨ s.lds.reference.isSome = true ∨ s.lds.noMoves = true) :
    (aecEof s none).1.afc = s.afc := by
  by_cases hw : waitingFrame s.aec s.intake.fn = true
  · rw [aecEof_of_waiting none (.inl hw)]
  cases hs : s.aec.state with
  | fault => rw [aecEof_of_waiting none (.inr hs)]
  | off => rw [aecEof_none_off hw hs]; exact issueOff_afc h
  | locked => rw [aecEof_none_locked hw hs]; exact captureCopy_afc s
  | run => rw [aecEof_none_counted hw (.inl hs)]; rfl
  | held => rw [aecEof_none_counted hw (.inr hs)]; rfl

/-- A frame that ends short passes a sampled, referenced or monitored frame over (R102). -/
theorem exec_frameEnd_short_afc (hm : s.intake.mode = .inFrame) (hs : s.intake.lineCounter < s.intake.geometry.h)
    (h : s.lds.running.isSome = true ∨ s.lds.reference.isSome = true ∨ s.lds.noMoves = true) :
    ∃ t, exec .frameEnd s = .next t ∧ t.afc = afcTruncated s.afc := by
  refine ⟨_, exec_frameEnd_of_short hm hs, ?_⟩
  rw [truncateFrame_of_latches s (c := .shortFrame) rfl, truncatedWork_eq rfl]
  exact congrArg afcTruncated (aecEof_none_afc (s := cutShort (s.setIntake { s.intake with mode := .waiting })) h)

/-! ### A disturbance and an SOF (R89, R95, R99, R100) -/

theorem afcDisturbance_of_not_scanning (h : ¬ (s.afc.state = .coarse ∨ s.afc.state = .fine)) : afcDisturbance s = s :=
  if_neg (mt (scanning_iff _).1 h)

theorem afcDisturbance_of_scanning (h : s.afc.state = .coarse ∨ s.afc.state = .fine) : afcDisturbance s =
    if 3 ≤ s.afc.restarts + 1 then afcFail (s.setAfc { s.afc with restarts := s.afc.restarts + 1 }) .disturbed
    else afcEnter (((s.setAfc { s.afc with restarts := s.afc.restarts + 1 }).cancelMove .af).setAfc
      { s.afc with restarts := s.afc.restarts + 1, settleCount := 0 }) .settle := if_pos ((scanning_iff _).2 h)

/-- An SOF in a scan (R89): a blurred frame is discarded up to three times. -/
theorem afcSof_scanning {sc : Scan} (hscan : s.afc.scan = some sc) (h : s.afc.state = .coarse ∨ s.afc.state = .fine)
    (blurred settled : Bool) :
    afcSof s blurred settled = s.setAfc { s.afc with scan := some (scanSof sc blurred) } := by
  unfold afcSof
  rcases h with h | h <;> rw [h, hscan] <;> rfl

theorem scanSof_of_not_sof {sc : Scan} {blurred : Bool} (h : sc.wait ≠ .sof) : scanSof sc blurred = sc := by
  unfold scanSof
  split
  · exact absurd ‹_› h
  · rfl

theorem scanSof_discarded {sc : Scan} {blurred : Bool} (h : sc.wait = .sof) (hb : blurred = true) (hd : sc.discards < 3) :
    scanSof sc blurred = { sc with discards := sc.discards + 1 } := by
  unfold scanSof
  rw [h]
  exact if_pos ⟨hb, hd⟩

theorem scanSof_sampled {sc : Scan} {blurred : Bool} (h : sc.wait = .sof) (hkeep : blurred = false ∨ 3 ≤ sc.discards) :
    scanSof sc blurred = { sc with wait := .eof blurred } := by
  unfold scanSof
  rw [h]
  refine if_neg fun hboth => ?_
  obtain ⟨hb, hd⟩ := hboth
  rcases hkeep with hclear | hfull
  · exact Bool.false_ne_true (hclear.symm.trans hb)
  · omega

/-- A scan begins on a range (R88, R33). -/
theorem afcBeginCoarse_eq (s : State) (inf near : Nat) : afcBeginCoarse s inf near =
    (if s.aec.state = .run
      then ((s.setAfc { s.afc with state := .coarse, scan := some (s.startedScan inf near), history := [] }).setAec
        { s.aec with breakCount := 0 }).countedIn .held
      else s.setAfc { s.afc with state := .coarse, scan := some (s.startedScan inf near), history := [] }).setLds
      (ldsPlace s.lds .af ⟨.focus, (s.startedScan inf near).positions.headD 0, s.lds.params.afClass⟩) := by
  have hbegin : afcBeginCoarse s inf near = afcRequest (afcEnter (s.setAfc { s.afc with
      scan := some (s.startedScan inf near), history := [] }) .coarse) ((s.startedScan inf near).positions.headD 0) := rfl
  rw [hbegin, afcEnter_of_scanning _ rfl]
  by_cases hrun : s.aec.state = .run
  · simp only [State.setAfc_aec, hrun, if_true]
    rfl
  · simp only [State.setAfc_aec, hrun, if_false]
    rfl

/-- An SOF in SETTLE (R100). -/
theorem afcSof_settle (h : s.afc.state = .settle) (blurred settled : Bool) : afcSof s blurred settled = afcSettleSof s settled := by
  unfold afcSof
  rw [h]

theorem afcSettleSof_waiting : afcSettleSof s false =
    if s.afc.settleTimeout ≤ s.afc.settleCount + 1
    then afcFail (s.setAfc { s.afc with settleCount := s.afc.settleCount + 1 }) .settleTimeout
    else s.setAfc { s.afc with settleCount := s.afc.settleCount + 1 } := rfl

theorem afcSettleSof_settled {sc : Scan} (hscan : s.afc.scan = some sc) :
    afcSettleSof s true = afcBeginCoarse s sc.inf sc.near := by
  unfold afcSettleSof
  rw [hscan]
  rfl

/-! ### An EOF in a scan (R90) -/

theorem afcFigures_scanning {sc : Scan} (hscan : s.afc.scan = some sc) (h : s.afc.state = .coarse ∨ s.afc.state = .fine)
    (fn : Nat) (records : List WindowRecord) :
    afcFigures s fn records = match sc.wait with | .eof b => afcEntry s sc b fn records | _ => s := by
  unfold afcFigures
  rcases h with h | h <;> rw [h] <;> simp only [hscan] <;> rfl

/-- The entry of a sample frame (R90). -/
def sampleEntry (s : State) (blurred : Bool) (fn : Nat) (records : List WindowRecord) : HistoryEntry :=
  ⟨s.lds.focus.pos, fn, decide (s.afc.state = .fine), blurred, s.afc.windowSet.map fun k =>
    ⟨k, (records.getD k ⟨false, 0, false, 0, 0, 0⟩).f, (records.getD k ⟨false, 0, false, 0, 0, 0⟩).sat,
      (records.getD k ⟨false, 0, false, 0, 0, 0⟩).mean⟩⟩

/-- A scan after a coarse entry (R91). -/
def scanAfterEntry (a : Afc) (sc : Scan) (e : HistoryEntry) : Scan :=
  { sc with
    peaks := peaksAfter sc.peaks e
    drops := dropsAfter (sc.peaks[a.selected]?).join (entryF e a.selected) e.pos sc.drops }

section
variable {sc : Scan} {b : Bool} {fn : Nat} {records : List WindowRecord}

theorem afcEntry_full (h : 64 ≤ s.afc.history.length) : afcEntry s sc b fn records = afcFail s .historyFull := if_pos h

theorem afcEntry_fine (hroom : s.afc.history.length < 64) (hs : s.afc.state ≠ .coarse) :
    afcEntry s sc b fn records = afcNextPosition (s.setAfc { s.afc with
      historyMade := true, history := s.afc.history ++ [sampleEntry s b fn records] }) sc :=
  (if_neg (Nat.not_le.2 hroom)).trans (if_neg hs)

theorem afcEntry_coarse (hroom : s.afc.history.length < 64) (hs : s.afc.state = .coarse) :
    let u := s.setAfc { s.afc with historyMade := true, history := s.afc.history ++ [sampleEntry s b fn records] }
    let sc' := scanAfterEntry s.afc sc (sampleEntry s b fn records)
    afcEntry s sc b fn records =
      if s.afc.selection = .selected ∧ 2 ≤ sc'.drops then afcCoarseEnd u sc' else afcNextPosition u sc' :=
  (if_neg (Nat.not_le.2 hroom)).trans (if_pos hs)

end

/-! ### A completed move (R82, R89, R94) -/

theorem moveComplete_af_kept {sc : Scan} (hscan : s.afc.scan = some sc)
    (h : ¬ (s.afc.state = .coarse ∨ s.afc.state = .fine) ∨ s.lds.slots.af.isSome = true) : moveComplete s .af = s := by
  change afcMoveComplete s = s
  unfold afcMoveComplete
  rw [hscan]
  refine if_neg fun hboth => ?_
  obtain ⟨hscanning, hslot⟩ := Bool.and_eq_true_iff.1 hboth
  rcases h with h | h
  · exact h ((scanning_iff _).1 hscanning)
  · rw [Option.isNone_iff_eq_none] at hslot
    simp [hslot] at h

/-- A completion in a scan with no newer request pending, by what the scan waits for. -/
theorem moveComplete_af_waited {sc : Scan} (hscan : s.afc.scan = some sc) (h : s.afc.state = .coarse ∨ s.afc.state = .fine)
    (hslot : s.lds.slots.af = none) :
    moveComplete s .af =
      match sc.wait with
      | .move => s.setAfc { s.afc with scan := some { sc with wait := .sof, discards := 0 } }
      | .lockMove => afcEnter ((((s.setAfc { s.afc with
          primary := sc.primary, lock := some ⟨sc.lockPos, sc.lockPos - sc.inf, 0, false⟩, scan := none
          monitorCount := 0, primaryFigure := none, frame := none }).raise condAfLocked)).setZmc
            { s.zmc with trackLimit := false }) .locked
      | _ => s := by
  change afcMoveComplete s = _
  unfold afcMoveComplete
  rw [hscan]
  exact if_pos (by rw [(scanning_iff _).2 h, hslot]; rfl)

/-! ### An EOF in LOCKED and MONITOR (R95, R96) -/

/-- The primary window's figure is shown, and a frame neither blurred nor stepped is judged. -/
theorem afcFigures_lockedOn {w : Nat} {k : Lock} (h : s.afc.state = .locked ∨ s.afc.state = .monitor)
    (hprimary : s.afc.primary = some w) (hlock : s.afc.lock = some k) (fn : Nat) (records : List WindowRecord) :
    let r := records.getD w ⟨false, 0, false, 0, 0, 0⟩
    let u := s.setAfc { s.afc with primaryFigure := some r.f, frame := none }
    (s.afc.frame ≠ some ⟨false, false⟩ → afcFigures s fn records = u) ∧
    (s.afc.frame = some ⟨false, false⟩ → afcFigures s fn records = afcReferenceFrame u k (sharpness r.f r.mean)) := by
  intro r u
  have hfigures : afcFigures s fn records = match s.afc.frame with
      | some t => if t.blurred || t.stepped then u else afcReferenceFrame u k (sharpness r.f r.mean)
      | none => u := by
    unfold afcFigures
    rcases h with h | h <;> rw [h, hprimary, hlock] <;> rfl
  rw [hfigures]
  refine ⟨fun hother => ?_, fun hframe => by rw [hframe]; rfl⟩
  match hframe : s.afc.frame with
  | none => rfl
  | some ⟨false, false⟩ => exact absurd hframe hother
  | some ⟨true, _⟩ => rfl
  | some ⟨false, true⟩ => rfl

/-- A frame that gives N_lock (R95). -/
theorem afcReferenceFrame_reference {a : Afc} {k : Lock} (htaken : k.taken = false) (h : a.state = .locked ∨ a.state = .monitor)
    (hheld : s.aec.state ≠ .held) (n : Nat) : afcReferenceFrame (s.setAfc a) k n = s.setAfc { a with
      lock := some { k with n := n, taken := true }
      state := if a.mode = .continuous then .monitor else a.state } := by
  unfold afcReferenceFrame
  rw [htaken]
  refine (if_pos rfl).trans ?_
  dsimp only
  by_cases hmode : a.mode = .continuous
  · rw [if_pos hmode]
    rcases h with h | h
    · refine (if_pos ⟨hmode, h⟩).trans ((afcEnter_of_not_scanning _ rfl).trans ((if_neg hheld).trans ?_))
      rfl
    · refine (if_neg fun hboth => ?_).trans ?_
      · exact AfState.noConfusion (h.symm.trans hboth.2)
      · rw [← h]
        rfl
  · rw [if_neg hmode]
    exact if_neg fun hboth => hmode hboth.1

/-- In LOCKED a frame after the reference changes nothing (R95). -/
theorem afcReferenceFrame_locked {a : Afc} {k : Lock} (h : a.state = .locked) (htaken : k.taken = true) (n : Nat) :
    afcReferenceFrame (s.setAfc a) k n = s.setAfc a := by
  unfold afcReferenceFrame
  rw [htaken, if_neg (by decide), if_neg (by rw [State.setAfc_afc, h]; decide)]

/-- In MONITOR a frame after the reference is compared with it (R96). -/
theorem afcReferenceFrame_monitor {a : Afc} {k : Lock} (h : a.state = .monitor) (htaken : k.taken = true) (n : Nat) :
    afcReferenceFrame (s.setAfc a) k n =
      if a.monitorFrames ≤ monitorAfter n k.n a.monitorRatio a.monitorCount
      then if afcBusyChecks (s.setAfc a) = none then afcScanStart (s.setAfc a)
        else (s.setAfc a).setAfc { a with monitorCount := 0 }
      else s.setAfc { a with monitorCount := monitorAfter n k.n a.monitorRatio a.monitorCount } := by
  unfold afcReferenceFrame
  rw [htaken, if_neg (by decide), if_pos (by rw [State.setAfc_afc, h])]
  dsimp only
  cases hc : afcBusyChecks (s.setAfc a) with
  | none => rfl
  | some st => rfl

/-- A rescan's checks, no scan being in hand (R85, R96). -/
theorem afcBusyChecks_eq_none {u : State} (hscan : u.afc.state.inScan = false) : afcBusyChecks u = none ↔
    u.zmc.mode = .idle ∧ u.tableValid zoomId = true ∧ u.lds.focus.valid = true ∧ u.lds.zoom.valid = true ∧
      enabledWindows u.afc.windows ≠ [] := by
  rw [← afcRangeChecks_eq_none]
  unfold afcBusyChecks
  rw [hscan]
  by_cases hzoom : u.zmc.mode = .idle <;> simp [hzoom]

end

/-- Settles O42, clause by clause: each names what the frame or the move finds AFC waiting for. -/
theorem focusSamplesFrames : Obligations.FocusSamplesFrames := by
  unfold Obligations.FocusSamplesFrames
  intro judged heldIn runsOn
  refine ⟨fun s => ⟨fun hcoarse hfine => ?_, fun hs => ⟨fun hthird => ?_, fun hfewer => ?_⟩, fun hm hshort hdrive => ?_⟩,
    fun s sc blurred settled hscan hs => ?_, fun s blurred settled => ?_, fun s sc fn records hscan hs => ?_,
    fun s hs fn records => ?_, fun s sc hscan => ?_, fun s w k fn records hs hprimary hlock => ?_⟩
  · exact afcDisturbance_of_not_scanning (not_or.2 ⟨hcoarse, hfine⟩)
  · exact (afcDisturbance_of_scanning hs).trans (if_pos hthird)
  · rw [afcDisturbance_of_scanning hs, if_neg (Nat.not_le.2 hfewer), afcEnter_of_not_scanning _ rfl]
    rfl
  · obtain ⟨t, hexec, hafc⟩ := exec_frameEnd_short_afc hm hshort hdrive
    exact ⟨t, hexec, hafc.trans (afcTruncated_eq _)⟩
  · intro after
    rw [afcSof_scanning hscan hs]
    refine ⟨fun hwait => ?_, fun hwait hblurred hdiscards => ?_, fun hwait hkeep => ?_⟩
    · rw [scanSof_of_not_sof hwait, ← hscan]
      rfl
    · rw [scanSof_discarded hwait hblurred hdiscards]
    · rw [scanSof_sampled hwait hkeep]
  · refine ⟨fun hs => ?_, fun hs => ?_, fun hs hsettled hmore => ?_, fun hs hsettled hexpired => ?_,
      fun sc hs hsettled hscan => ?_⟩
    · unfold afcSof
      rcases hs with hs | hs <;> rw [hs]
    · unfold afcSof
      rcases hs with hs | hs <;> rw [hs]
    · rw [afcSof_settle hs, hsettled, afcSettleSof_waiting, if_neg (Nat.not_le.2 hmore)]
    · rw [afcSof_settle hs, hsettled, afcSettleSof_waiting, if_pos hexpired]
    · intro p positions
      rw [afcSof_settle hs, hsettled, afcSettleSof_settled hscan, afcBeginCoarse_eq]
      unfold heldIn
      by_cases hrun : s.aec.state = .run
      · rw [if_pos hrun]
        exact (if_pos hrun).symm
      · rw [if_neg hrun]
        exact (if_neg hrun).symm
  · intro record
    rw [afcFigures_scanning hscan hs]
    refine ⟨fun hwait => ?_, fun b hwait => ?_⟩
    · cases hw : sc.wait with
      | eof b => exact absurd hw (hwait b)
      | move => rfl
      | sof => rfl
      | lockMove => rfl
    · rw [hwait]
      refine ⟨afcEntry_full, fun hroom => ⟨_, _, rfl, rfl, fun hfine => ?_, fun hcoarse => ?_⟩⟩
      · exact afcEntry_fine hroom (by rw [hfine]; decide)
      · refine ⟨scanAfterEntry s.afc sc (sampleEntry s b fn records), ?_, rfl⟩
        have hentry := afcEntry_coarse (sc := sc) (b := b) (fn := fn) (records := records) hroom hcoarse
        by_cases hends : s.afc.selection = .selected ∧ 2 ≤ (scanAfterEntry s.afc sc (sampleEntry s b fn records)).drops
        · exact .inr (hentry.trans (if_pos hends))
        · exact .inl (hentry.trans (if_neg hends))
  · unfold afcFigures
    rcases hs with hs | hs | hs <;> rw [hs]
  · refine ⟨fun h => moveComplete_af_kept hscan (h.imp_left not_or.2), fun hs hslot => ?_⟩
    rw [moveComplete_af_waited hscan hs hslot]
    refine ⟨fun hwait => by rw [hwait], fun hwait => ?_, fun hwait => ⟨_, rfl, ?_⟩⟩
    · rcases hwait with hwait | ⟨b, hwait⟩ <;> rw [hwait]
    · rw [hwait]
      obtain ⟨hafc, hlds, hzmc, hheld, hother⟩ := afcEnter_leaving_values ((((s.setAfc { s.afc with
        primary := sc.primary, lock := some ⟨sc.lockPos, sc.lockPos - sc.inf, 0, false⟩, scan := none
        monitorCount := 0, primaryFigure := none, frame := none }).raise condAfLocked)).setZmc
          { s.zmc with trackLimit := false }) (st := .locked) rfl
      obtain ⟨a, c, henter, hc⟩ := afcEnter_eq ((((s.setAfc { s.afc with
        primary := sc.primary, lock := some ⟨sc.lockPos, sc.lockPos - sc.inf, 0, false⟩, scan := none
        monitorCount := 0, primaryFigure := none, frame := none }).raise condAfLocked)).setZmc
          { s.zmc with trackLimit := false }) .locked
      refine ⟨hafc, hzmc, hlds, ?_, hheld, hother⟩
      exact (congrArg (fun t : State => t.cnd.condition condAfLocked) henter).trans (hc condAfLocked (by decide)).1
  · intro r n shown qualifies count
    obtain ⟨hother, hjudged⟩ := afcFigures_lockedOn hs hprimary hlock fn records
    refine ⟨fun hkept => ?_, fun hq htaken hheld => ?_, fun hq htaken hmonitor hfew => ?_, fun hq htaken hmonitor hmany => ?_⟩
    · by_cases hq : qualifies
      · obtain ⟨hlocked, htaken⟩ := hkept.resolve_left (not_not.2 hq)
        exact (hjudged hq).trans (afcReferenceFrame_locked (a := shown) hlocked htaken _)
      · exact hother hq
    · exact (hjudged hq).trans (afcReferenceFrame_reference (a := shown) htaken hs hheld _)
    · exact (hjudged hq).trans ((afcReferenceFrame_monitor (a := shown) hmonitor htaken _).trans (if_neg (Nat.not_le.2 hfew)))
    · intro passes
      have hchecks : afcBusyChecks (s.setAfc shown) = none ↔ passes :=
        afcBusyChecks_eq_none (u := s.setAfc shown) (by rw [State.setAfc_afc, show shown.state = s.afc.state from rfl, hmonitor]; rfl)
      have hmonitored : afcFigures s fn records = if afcBusyChecks (s.setAfc shown) = none then afcScanStart (s.setAfc shown)
          else (s.setAfc shown).setAfc { shown with monitorCount := 0 } :=
        (hjudged hq).trans ((afcReferenceFrame_monitor (a := shown) hmonitor htaken _).trans (if_pos hmany))
      rw [hmonitored]
      exact ⟨fun hno => if_neg (mt hchecks.1 hno), fun hyes => if_pos (hchecks.2 hyes)⟩

end Sys2Proof.Machine
end

section
/-! PROOF of the statement on TABLE_COMMIT (R181, R182, R35): the checks as R181 lists them, and a commit applied at once in
STOPPED. -/

namespace Sys2Proof.Machine

/-! ### The checks (R181) -/

theorem firstBad_eq_some {n i : Nat} {ok : Nat → Bool} {good : Nat → Prop} (h : ∀ j, ok j = true ↔ good j) :
    firstBad n ok = some i ↔ i < n ∧ ¬ good i ∧ ∀ j < i, good j := by
  unfold firstBad
  rw [List.find?_range_eq_some]
  simp only [← h, Bool.not_eq_true', List.mem_range, Bool.not_eq_true, Bool.not_not]
  tauto

/-- A bad count is reported as index 65,535; a good one leaves the entries to be checked. -/
theorem countThen_eq_some {c top i : Nat} {entries : Option Nat} : countThen c top entries = some i ↔
    ((c = 0 ∨ top < c) ∧ i = 65535) ∨ (1 ≤ c ∧ c ≤ top ∧ entries = some i) := by
  unfold countThen badCount
  by_cases hc : 1 ≤ c ∧ c ≤ top
  · obtain ⟨h1, htop⟩ := hc
    rw [if_pos ⟨h1, htop⟩]
    exact ⟨fun h => .inr ⟨h1, htop, h⟩, fun h => h.elim (fun hbad => absurd hbad.1 (by omega)) fun hgood => hgood.2.2⟩
  · rw [if_neg hc, Option.some_inj]
    exact ⟨fun h => .inl ⟨by omega, h.symm⟩, fun h => h.elim (fun hbad => hbad.2.symm)
      fun hgood => absurd ⟨hgood.1, hgood.2.1⟩ hc⟩

theorem gainOk_iff (m : Memory) (i : Nat) : gainOk m i = true ↔ 1024 ≤ tbl16 m (2 * i) ∧ tbl16 m (2 * i) ≤ 4095 :=
  decide_eq_true_iff

theorem weightOk_iff (m : Memory) (i : Nat) : weightOk m i = true ↔ tbl8 m i ≤ 15 := decide_eq_true_iff

/-- The limit kinds allowed on each control (R37, R181). -/
theorem segmentAllowed_iff (g : Segment) : segmentAllowed g = true ↔
    (g.limit = 0 ∧ g.control ≤ 2) ∨ (g.limit = 1 ∧ g.control = 1) ∨ (g.limit = 2 ∧ g.control = 0) ∨
      (g.limit = 3 ∧ g.control = 2) := by
  unfold segmentAllowed
  split
  iterate 6 (simp [*])
  · next h00 h10 h20 h11 h02 h23 =>
    simp only [Bool.false_eq_true, false_iff]
    rintro (⟨hl, hc⟩ | ⟨hl, hc⟩ | ⟨hl, hc⟩ | ⟨hl, hc⟩)
    · obtain hc | hc | hc : g.control = 0 ∨ g.control = 1 ∨ g.control = 2 := by omega
      · exact h00 hc hl
      · exact h10 hc hl
      · exact h20 hc hl
    · exact h11 hc hl
    · exact h02 hc hl
    · exact h23 hc hl

/-- A line count is 1 or more, and not below the one before it. -/
theorem lineCountOk_iff (m : Memory) (j : Nat) :
    lineCountOk m j = true ↔ 1 ≤ tbl16 m (2 + 2 * j) ∧ (j ≠ 0 → tbl16 m (2 * j) ≤ tbl16 m (2 + 2 * j)) := by
  unfold lineCountOk
  rw [Bool.and_eq_true, decide_eq_true_iff, Bool.or_eq_true, beq_iff_eq, decide_eq_true_iff]
  refine and_congr_right fun _ => ?_
  by_cases hj : j = 0
  · simp [hj]
  · rw [show 2 + 2 * (j - 1) = 2 * j by omega]
    simp [hj]

theorem itemOk_iff (m : Memory) (j : Nat) : itemOk m j = true ↔ tbl8 m (4 + 4 * j) ≤ 4 := by
  unfold itemOk
  rw [show 2 + 4 * j + 2 = 4 + 4 * j by omega, decide_eq_true_iff]

/-- That inf is at most 4,095 follows from near's range (R115). -/
theorem rowOk_iff (m : Memory) (k : Nat) : rowOk m k = true ↔
    (zoomRowOf m k).aW ≤ 47 ∧ (zoomRowOf m k).near ≤ 4095 ∧ (zoomRowOf m k).inf ≤ (zoomRowOf m k).near := by
  unfold rowOk
  dsimp only
  rw [decide_eq_true_iff]
  omega

theorem commitCheck_shading {n : Nat} (h : n ≤ 3) (m : Memory) : commitCheck n m = firstBad 3072 (gainOk m) := if_pos h

theorem commitCheck_weight {n : Nat} (h4 : 4 ≤ n) (h7 : n ≤ 7) (m : Memory) :
    commitCheck n m = firstBad 192 (weightOk m) := (if_neg (by omega)).trans (if_pos h7)

theorem commitCheck_program {n : Nat} (h : n = 8 ∨ n = 9) (m : Memory) :
    commitCheck n m = countThen (tbl8 m 0) 8 (firstBad (tbl8 m 0) fun i => segmentAllowed (segmentOf m i)) :=
  (if_neg (by omega)).trans ((if_neg (by omega)).trans (if_pos (by omega)))

theorem commitCheck_time (m : Memory) :
    commitCheck timeId m = countThen (tbl16 m 0) 256 (firstBad (tbl16 m 0) (lineCountOk m)) := rfl

theorem commitCheck_again (m : Memory) : commitCheck againId m = countThen (tbl16 m 0) 97 none := rfl

theorem commitCheck_sensorWrite (m : Memory) : commitCheck sensorWriteId m =
    if 127 < tbl8 m 0 then some badCount else countThen (tbl8 m 1) 8 (firstBad (tbl8 m 1) (itemOk m)) := rfl

theorem commitCheck_zoom (m : Memory) : commitCheck zoomId m = firstBad 33 (rowOk m) := rfl

/-! ### A commit applied (R182, R35) -/

/-- Commits that are not pending change nothing. -/
theorem foldl_applyCommit_none {s : State} {ks : List Nat} (h : ∀ k ∈ ks, (s.table k).commitPending = false) :
    ks.foldl applyCommit s = s := by
  induction ks with
  | nil => rfl
  | cons k ks ih =>
    obtain ⟨hk, hks⟩ := List.forall_mem_cons.1 h
    have hstay : applyCommit s k = s := if_neg (by rw [hk]; decide)
    rw [List.foldl_cons, hstay, ih hks]

/-- The one pending commit alone is applied. -/
theorem foldl_applyCommit_one {s : State} {n : Nat} {ks : List Nat} (hn : n ∈ ks) (hnodup : ks.Nodup)
    (h : ∀ k, k ≠ n → (s.table k).commitPending = false) : ks.foldl applyCommit s = applyCommit s n := by
  induction ks with
  | nil => exact absurd hn List.not_mem_nil
  | cons j ks ih =>
    obtain ⟨hj, hnodup⟩ := List.nodup_cons.1 hnodup
    rw [List.foldl_cons]
    by_cases heq : j = n
    · subst heq
      refine foldl_applyCommit_none fun k hk => ?_
      have hne : k ≠ j := fun heq => hj (heq ▸ hk)
      rw [applyCommit_table, if_neg fun hboth => hne hboth.1.symm]
      exact h k hne
    · have hstay : applyCommit s j = s := if_neg (by rw [h j heq]; decide)
      rw [hstay]
      exact ih ((List.mem_cons.1 hn).resolve_left (Ne.symm heq)) hnodup

section
variable {s : State} {n : Nat}

/-- The state with table n's pending copy at work (R182). -/
def State.committed (s : State) (n : Nat) : State :=
  (s.setLnk { s.lnk with
    tables := s.lnk.tables.set n { s.table n with working := (s.table n).pending, valid := true } }).raise condTableApplied

theorem modifyTable_eq (hn : n < s.lnk.tables.length) (f : Table → Table) :
    s.modifyTable n f = s.setLnk { s.lnk with tables := s.lnk.tables.set n (f (s.table n)) } := by
  have hget : s.lnk.tables[n]? = some (s.table n) := by
    rw [State.table, List.getD_eq_getElem?_getD, List.getElem?_eq_getElem hn]
    rfl
  unfold State.modifyTable lnkModifyTable
  rw [modifyAt_eq_set hget]

/-- Every setting that AEC holds is brought within the tables at work (R35), the record being written with them (log entry
13). -/
theorem aecClamp_eq (u : State) :
    let within := fun x : Setting => { x with tI := min x.tI u.tIMax, gA := min x.gA u.gAMax }
    let issue := fun x : Issue => { x with setting := within x.setting }
    aecClamp u = u.setAec { u.aec with
      inFlight := u.aec.inFlight.map fun r => { r with issue := issue r.issue }, latest := u.aec.latest.map within
      awaiting := u.aec.awaiting.map issue, retry := u.aec.retry.map issue, manual := u.aec.manual.map within
      sequence := u.aec.sequence.map fun w => { w with issue := issue w.issue } } := by
  have hwithin (x : Setting) : x.within u.tIMax u.gAMax = { x with tI := min x.tI u.tIMax, gA := min x.gA u.gAMax } := by
    rw [Nat.min_comm x.tI, Nat.min_comm x.gA]
    rfl
  intro within issue
  unfold aecClamp aecClampTables Issue.within
  simp only [hwithin]
  rfl

/-- A commit alone in STOPPED works at once, and AEC follows new TIME and AGAIN tables (R182, R35). -/
theorem applyCommits_one (hl : s.lnk.tables.length = 14) (hn : n < 14) (h : ∀ k, (s.table k).commitPending = false) :
    applyCommits (s.modifyTable n fun t => { t with commitPending := true }) =
      if n = timeId ∨ n = againId then aecClamp (s.committed n) else s.committed n := by
  have hlen : n < s.lnk.tables.length := hl ▸ hn
  have htable (k : Nat) : ((s.modifyTable n fun t => { t with commitPending := true }).table k).commitPending =
      decide (n = k) := by
    rw [State.table_modifyTable]
    by_cases hk : n = k
    · subst hk
      simp [hlen]
    · simp [hk, h k]
  have hone : (List.range 14).foldl applyCommit (s.modifyTable n fun t => { t with commitPending := true }) =
      s.committed n := by
    rw [foldl_applyCommit_one (n := n) (List.mem_range.2 hn) List.nodup_range fun k hk => by simp [htable, Ne.symm hk]]
    have happlied : applyCommit (s.modifyTable n fun t => { t with commitPending := true }) n =
        ((s.modifyTable n fun t => { t with commitPending := true }).modifyTable n Table.applied).raise condTableApplied :=
      if_pos (by simp [htable])
    have hworking : Table.applied { s.table n with commitPending := true } =
        { s.table n with working := (s.table n).pending, valid := true } := by
      have hpending := h n
      unfold Table.applied
      rw [← hpending]
    rw [happlied, modifyTable_eq (by rw [modifyTable_eq hlen]; simpa using hlen), State.table_modifyTable,
      if_pos ⟨rfl, hlen⟩, hworking, modifyTable_eq hlen]
    unfold State.committed
    simp
  unfold applyCommits
  rw [hone, htable, htable]
  dsimp only
  simp only [Bool.or_eq_true, decide_eq_true_eq]

theorem commitTable_refusedTable {i : Nat} (hn : n < 14) (hp : (s.table n).commitPending = false)
    (hc : commitCheck n (s.table n).pending = some i) : commitTable n s = (s, ⟨.refusedTable, field16 i, []⟩) := by
  unfold commitTable
  rw [if_neg (by omega), if_neg (by rw [hp]; decide), hc]

theorem commitTable_taken (hn : n < 14) (hp : (s.table n).commitPending = false)
    (hc : commitCheck n (s.table n).pending = none) :
    commitTable n s = (applyIfStopped (s.modifyTable n fun t => { t with commitPending := true }), answer .accepted) := by
  unfold commitTable
  rw [if_neg (by omega), if_neg (by rw [hp]; decide), hc]

end

/-- Settles O59: TABLE_COMMIT by the order of its checks, then each table's check by its kind of entries. -/
theorem tableCommitChecksAndApplies : Obligations.TableCommitChecksAndApplies := by
  refine ⟨fun s tag n h => ⟨fun hn => ?_, fun hn hp => ?_, fun i hn hp hc => ?_, fun hn hl hp hc => ⟨fun hm => ?_, fun hm hnone => ?_⟩⟩,
    fun n i m hn => ?_, fun n i m h4 h7 => ?_, fun n i m hn => ?_, fun i m => ?_, fun i m => ?_, fun i m => ?_, fun i m => ?_⟩
  · exact congrArg Host.Outcome.next (hostCommand_unchanged h (if_pos hn))
  · refine congrArg Host.Outcome.next (hostCommand_unchanged h ?_)
    exact (if_neg (Nat.not_le.2 hn)).trans (if_pos hp)
  · exact congrArg Host.Outcome.next (hostCommand_unchanged h (commitTable_refusedTable hn hp hc))
  · have hcommit := commitTable_taken (s := s.setLnk (lnkTake s.lnk tag)) hn hp hc
    have hwaits : applyIfStopped ((s.setLnk (lnkTake s.lnk tag)).modifyTable n fun t => { t with commitPending := true }) =
        (s.setLnk (lnkTake s.lnk tag)).modifyTable n fun t => { t with commitPending := true } := if_neg hm
    rw [hwaits, modifyTable_eq (s := s.setLnk (lnkTake s.lnk tag)) (show n < s.lnk.tables.length from hl ▸ hn)] at hcommit
    refine congrArg Host.Outcome.next ((hostCommand_of_turn tag 38 n commitTable h).trans ?_)
    rw [hcommit]
    rfl
  · intro u within issue
    have hcommit := commitTable_taken (s := s.setLnk (lnkTake s.lnk tag)) hn hp hc
    have happlied : applyIfStopped ((s.setLnk (lnkTake s.lnk tag)).modifyTable n fun t => { t with commitPending := true }) =
        applyCommits ((s.setLnk (lnkTake s.lnk tag)).modifyTable n fun t => { t with commitPending := true }) := if_pos hm
    rw [happlied, applyCommits_one (s := s.setLnk (lnkTake s.lnk tag)) hl hn hnone] at hcommit
    refine congrArg Host.Outcome.next ((hostCommand_of_turn tag 38 n commitTable h).trans ?_)
    rw [hcommit]
    by_cases hexposure : n = timeId ∨ n = againId
    · rw [if_pos hexposure, if_pos hexposure, aecClamp_eq]
      rfl
    · rw [if_neg hexposure, if_neg hexposure]
      rfl
  · rw [commitCheck_shading hn, firstBad_eq_some (gainOk_iff m), not_and_or, Nat.not_le, Nat.not_le]
  · rw [commitCheck_weight h4 h7, firstBad_eq_some (weightOk_iff m), Nat.not_le]
  · rw [commitCheck_program hn, countThen_eq_some, firstBad_eq_some fun j => segmentAllowed_iff (segmentOf m j)]
    rfl
  · rw [commitCheck_time, countThen_eq_some, firstBad_eq_some (lineCountOk_iff m)]
  · rw [commitCheck_again, countThen_eq_some]
    simp
  · intro c good
    rw [commitCheck_sensorWrite, ← firstBad_eq_some (itemOk_iff m)]
    by_cases hd : 127 < tbl8 m 0
    · rw [if_pos hd, Option.some_inj]
      unfold badCount
      omega
    · rw [if_neg hd, countThen_eq_some]
      simp only [hd, false_or, Nat.not_lt.1 hd, true_and]
      rfl
  · rw [commitCheck_zoom, firstBad_eq_some (rowOk_iff m)]

end Sys2Proof.Machine
end

section
/-! SUPPORT. The order of the lens drive's moves (R58, R61 to R68) through the operations on the registers of LDS: what a
request placed in a slot changes, what only takes moves away, and what starts one. -/

namespace Sys2Proof.Machine

/-! ### Registers of the drive -/

@[simp] theorem Lds.setMotor_motor (l : Lds) (m n : Motor) (x : MotorState) :
    (l.setMotor m x).motor n = if n = m then x else l.motor n := by
  cases m <;> cases n <;> rfl

@[simp] theorem Lds.setMotor_running (l : Lds) (m : Motor) (x : MotorState) : (l.setMotor m x).running = l.running := by
  cases m <;> rfl
@[simp] theorem Lds.setMotor_timer (l : Lds) (m : Motor) (x : MotorState) : (l.setMotor m x).timer = l.timer := by
  cases m <;> rfl
@[simp] theorem Lds.setMotor_stack (l : Lds) (m : Motor) (x : MotorState) : (l.setMotor m x).stack = l.stack := by
  cases m <;> rfl
@[simp] theorem Lds.setMotor_slots (l : Lds) (m : Motor) (x : MotorState) : (l.setMotor m x).slots = l.slots := by
  cases m <;> rfl
@[simp] theorem Lds.setMotor_reference (l : Lds) (m : Motor) (x : MotorState) : (l.setMotor m x).reference = l.reference := by
  cases m <;> rfl
@[simp] theorem Lds.setMotor_params (l : Lds) (m : Motor) (x : MotorState) : (l.setMotor m x).params = l.params := by
  cases m <;> rfl
@[simp] theorem Lds.setMotor_latched (l : Lds) (m : Motor) (x : MotorState) : (l.setMotor m x).latched = l.latched := by
  cases m <;> rfl

/-- The motors of two drives, one by one. -/
theorem Lds.motor_congr {l l' : Lds} (hz : l'.zoom = l.zoom) (hf : l'.focus = l.focus) (hi : l'.iris = l.iris) (m : Motor) :
    l'.motor m = l.motor m := by
  cases m
  · exact hz
  · exact hf
  · exact hi

theorem State.ControlsOnly.motor {s t : State} (h : t.ControlsOnly s) (m : Motor) : t.lds.motor m = s.lds.motor m :=
  Lds.motor_congr h.zoom h.focus h.iris m

theorem suspends_eq_false {l : Lds} {src : Source} : l.suspends src = false ↔ ∀ x ∈ l.stack, x.source ≠ src := by
  simp [Lds.suspends]

theorem mainDest_le {p t b top : Nat} (h : t ≤ top) : mainDest p t b ≤ top := by
  unfold mainDest
  split <;> omega

/-! ### What the order says of a drive with a running move -/

theorem Lds.Ordered.position {l : Lds} (h : l.Ordered) (m : Motor) : (l.motor m).pos ≤ motorTop m := by
  obtain ⟨hzoom, hfocus, hiris, -⟩ := h
  cases m
  · exact hzoom
  · exact hfocus
  · exact hiris

theorem Lds.Ordered.pending {l : Lds} (h : l.Ordered) {src : Source} {r : Request} (hr : l.slots.get src = some r) :
    RequestOk l src r := by
  obtain ⟨-, -, -, -, -, hpending, -⟩ := h
  exact hpending src r hr

theorem Lds.Ordered.running {l : Lds} (h : l.Ordered) {m : Move} (hm : l.running = some m) : RunningOk l m := by
  obtain ⟨-, -, -, -, -, -, hrunning, -⟩ := h
  exact hrunning m hm

theorem Lds.Ordered.suspended {l : Lds} (h : l.Ordered) {x : Suspended} (hx : x ∈ l.stack) : SuspendedOk l x := by
  obtain ⟨-, -, -, -, -, -, -, hstack, -⟩ := h
  exact hstack x hx

theorem Lds.Ordered.reference_eq_none {l : Lds} (h : l.Ordered) {m : Move} (hm : l.running = some m) : l.reference = none := by
  obtain ⟨-, -, -, -, -, -, -, -, -, href⟩ := h
  by_contra hsome
  obtain ⟨hrunning, -⟩ := href (Option.isSome_iff_ne_none.2 hsome)
  rw [hm] at hrunning
  cases hrunning

/-- A level strictly better than all of the stack is that of no suspended source. -/
theorem suspends_eq_false_of_level_lt {l : Lds} {src : Source} (h : l.Ordered) (hlt : ∀ x ∈ l.stack, l.level src < x.level) :
    l.suspends src = false := by
  rw [suspends_eq_false]
  rintro x hx rfl
  obtain ⟨-, -, -, -, hlevel, -⟩ := h.suspended hx
  exact absurd (hlt x hx) (by omega)

/-- The running move's source has no suspended one (R64, R67). -/
theorem Lds.Ordered.suspends_running {l : Lds} (h : l.Ordered) {m : Move} (hm : l.running = some m) :
    l.suspends m.source = false := by
  obtain ⟨-, -, -, -, hlevel, hlt⟩ := h.running hm
  exact suspends_eq_false_of_level_lt h fun x hx => hlevel ▸ hlt x hx

/-- The running move's source has no request pending, but for a move marked for stop (R64). -/
theorem Lds.Ordered.pending_running {l : Lds} (h : l.Ordered) {m : Move} (hm : l.running = some m) (hstop : m.stop = false) :
    l.slots.get m.source = none := by
  by_contra hsome
  obtain ⟨r, hr⟩ := Option.ne_none_iff_exists'.1 hsome
  obtain ⟨-, -, -, -, hmarked⟩ := h.pending hr
  rw [hmarked m hm rfl] at hstop
  cases hstop

/-! ### Moves on the same motors and parameters -/

/-- The part of the order that speaks of moves: pending, running and suspended ones, and the drive held by a reference. -/
structure Lds.MovesOk (l : Lds) : Prop where
  pending : ∀ src r, l.slots.get src = some r → RequestOk l src r
  running : ∀ m, l.running = some m → RunningOk l m
  suspended : ∀ x ∈ l.stack, SuspendedOk l x
  levels : l.stack.Pairwise fun x y => x.level < y.level
  reference : l.reference.isSome = true → l.running = none ∧ l.stack = []

/-- The order is that of the moves, with positions and parameters in range (R58, R72). -/
theorem ordered_iff {l : Lds} : l.Ordered ↔
    (∀ m, (l.motor m).pos ≤ motorTop m) ∧ l.params.homePos ≤ motorTop .focus ∧ (∀ src, l.level src ≤ 3) ∧ l.MovesOk := by
  refine ⟨fun h => ⟨h.position, ?_⟩, fun ⟨hpos, hhome, hlevel, hmoves⟩ =>
    ⟨hpos .zoom, hpos .focus, hpos .iris, hhome, hlevel, hmoves.pending, hmoves.running, hmoves.suspended, hmoves.levels,
      hmoves.reference⟩⟩
  obtain ⟨-, -, -, hhome, hlevel, hpending, hrunning, hsuspended, hlevels, href⟩ := h
  exact ⟨hhome, hlevel, hpending, hrunning, hsuspended, hlevels, href⟩

/-- Other moves on the same motors, with the same parameters. -/
theorem Lds.Ordered.of_moves {l l' : Lds} (h : l.Ordered) (hmotor : ∀ m, l'.motor m = l.motor m) (hp : l'.params = l.params)
    (hmoves : l'.MovesOk) : l'.Ordered := by
  obtain ⟨hpos, hhome, hlevel, -⟩ := ordered_iff.1 h
  refine ordered_iff.2 ⟨fun m => hmotor m ▸ hpos m, hp ▸ hhome, fun src => ?_, hmoves⟩
  have hsame : l'.level src = l.level src := by unfold Lds.level; rw [hp]
  exact hsame ▸ hlevel src

/-- A drive without moves is in order when its positions and parameters are in range. -/
theorem ordered_of_noMoves {l : Lds} (hpos : ∀ m, (l.motor m).pos ≤ motorTop m) (hhome : l.params.homePos ≤ motorTop .focus)
    (hlevel : ∀ src, l.level src ≤ 3) (hn : l.noMoves = true) : l.Ordered := by
  obtain ⟨hrunning, hstack, hslots⟩ := noMoves_eq_true.1 hn
  refine ordered_iff.2 ⟨hpos, hhome, hlevel, ⟨fun src _ hr => ?_, fun m hm => ?_, ?_, ?_, fun _ => ⟨hrunning, hstack⟩⟩⟩
  · rw [hslots] at hr
    cases hr
  · rw [hrunning] at hm
    cases hm
  · rw [hstack]
    exact nofun
  · rw [hstack]
    exact List.Pairwise.nil

/-! ### Moves taken away -/

/-- The drive l' holds no move that l does not hold, but for marks on the running one, and each motor of a move that it
still holds is valid if it was in l. -/
structure Lds.Within (l' l : Lds) : Prop where
  params : l'.params = l.params
  pending : ∀ src r, l'.slots.get src = some r →
    l.slots.get src = some r ∧ ((l.motor r.motor).valid = true → (l'.motor r.motor).valid = true)
  running : ∀ n, l'.running = some n → ∃ m, l.running = some m ∧ n = { m with stop := n.stop, mute := n.mute } ∧
    (m.stop = true → n.stop = true) ∧ ((l.motor m.motor).valid = true → (l'.motor m.motor).valid = true)
  stack : l'.stack.Sublist l.stack
  valid : ∀ x ∈ l'.stack, (l.motor x.motor).valid = true → (l'.motor x.motor).valid = true
  reference : l'.reference.isSome = true → l.reference.isSome = true

/-- Taking moves away keeps the order. -/
theorem Lds.Ordered.within {l l' : Lds} (h : l.Ordered) (hw : l'.Within l) (hpos : ∀ m, (l'.motor m).pos ≤ motorTop m) :
    l'.Ordered := by
  obtain ⟨-, hhome, hlevel, hmoves⟩ := ordered_iff.1 h
  have hsame (src : Source) : l'.level src = l.level src := by unfold Lds.level; rw [hw.params]
  refine ordered_iff.2 ⟨hpos, hw.params ▸ hhome, fun src => hsame src ▸ hlevel src, ?_⟩
  refine ⟨fun src r hr => ?_, fun n hn => ?_, fun x hx => ?_, hmoves.levels.sublist hw.stack, fun href => ?_⟩
  · obtain ⟨hr', hvalid'⟩ := hw.pending src r hr
    obtain ⟨hserves, hvalid, htarget, hsuspends, hstop⟩ := h.pending hr'
    refine ⟨hserves, hvalid' hvalid, htarget, ?_, fun n hn hsrc => ?_⟩
    · rw [suspends_eq_false] at hsuspends ⊢
      exact fun x hx => hsuspends x (hw.stack.subset hx)
    · obtain ⟨m, hm, heq, hmarked, -⟩ := hw.running n hn
      rw [heq] at hsrc
      exact hmarked (hstop m hm hsrc)
  · obtain ⟨m, hm, heq, -, hvalid'⟩ := hw.running n hn
    obtain ⟨hserves, hvalid, htarget, hdest, hlev, hlt⟩ := h.running hm
    rw [heq]
    exact ⟨hserves, hvalid' hvalid, htarget, hdest, hlev.trans (hsame _).symm, fun x hx => hlt x (hw.stack.subset hx)⟩
  · obtain ⟨hserves, hvalid, htarget, hdest, hlev, hone⟩ := h.suspended (hw.stack.subset hx)
    exact ⟨hserves, hw.valid x hx hvalid, htarget, hdest, hlev.trans (hsame _).symm, hone⟩
  · obtain ⟨hrunning, hstack⟩ := hmoves.reference (hw.reference href)
    refine ⟨?_, List.sublist_nil.1 (hstack ▸ hw.stack)⟩
    by_contra hsome
    obtain ⟨n, hn⟩ := Option.ne_none_iff_exists'.1 hsome
    obtain ⟨m, hm, -⟩ := hw.running n hn
    rw [hrunning] at hm
    cases hm

/-- The moves of l without its running one. -/
theorem within_of_not_running {l l' : Lds} (hmotor : ∀ m, l'.motor m = l.motor m) (hp : l'.params = l.params)
    (hslots : ∀ src r, l'.slots.get src = some r → l.slots.get src = some r) (hr : l'.running = none)
    (hs : l'.stack.Sublist l.stack) (href : l'.reference.isSome = true → l.reference.isSome = true) : l'.Within l where
  params := hp
  pending src r h := ⟨hslots src r h, fun hv => hmotor r.motor ▸ hv⟩
  running n h := by
    rw [hr] at h
    cases h
  stack := hs
  valid x _ hv := hmotor x.motor ▸ hv
  reference := href

/-- The moves of l with other positions: the same moves of motors still valid. -/
theorem within_of_moves_eq {l l' : Lds} (hp : l'.params = l.params) (hslots : l'.slots = l.slots) (hr : l'.running = l.running)
    (hs : l'.stack = l.stack) (hvalid : ∀ m, (l.motor m).valid = true → (l'.motor m).valid = true)
    (href : l'.reference.isSome = true → l.reference.isSome = true) : l'.Within l where
  params := hp
  pending _ _ h := ⟨hslots ▸ h, hvalid _⟩
  running n h := ⟨n, hr ▸ h, rfl, id, hvalid _⟩
  stack := hs ▸ .refl _
  valid _ _ := hvalid _
  reference := href

theorem slots_of_set_none {sl : Slots} {src x : Source} {r : Request} (h : (sl.set src none).get x = some r) :
    sl.get x = some r := by
  rw [Slots.get_set] at h
  split at h
  · cases h
  · exact h

/-- A cancel takes moves away (R70). -/
theorem ldsCancel_within (l : Lds) (src : Source) : (ldsCancel l src).Within l where
  params := rfl
  pending x r h := ⟨slots_of_set_none h, fun hv => (Lds.motor_congr rfl rfl rfl r.motor : (ldsCancel l src).motor _ = _) ▸ hv⟩
  running n h := by
    obtain ⟨m, hm, rfl⟩ := Option.map_eq_some_iff.1 h
    have hv : (l.motor m.motor).valid = true → ((ldsCancel l src).motor m.motor).valid = true := by
      rw [show (ldsCancel l src).motor m.motor = l.motor m.motor from Lds.motor_congr rfl rfl rfl _]
      exact id
    refine ⟨m, hm, ?_, ?_, hv⟩ <;> split <;> simp
  stack := List.filter_sublist
  valid x _ hv := (Lds.motor_congr rfl rfl rfl x.motor : (ldsCancel l src).motor _ = _) ▸ hv
  reference := id

theorem ldsCancel_ordered {l : Lds} (h : l.Ordered) (src : Source) : (ldsCancel l src).Ordered :=
  h.within (ldsCancel_within l src) fun m => (Lds.motor_congr rfl rfl rfl m : (ldsCancel l src).motor m = _) ▸ h.position m

/-! ### A request placed (R63, R64) -/

/-- A request with its target clamped into its motor's range (R63). -/
def Request.clamped (r : Request) : Request := { r with target := min (motorTop r.motor) r.target }

/-- What placing a request changes: nothing for a motor that is not valid, else the target of the running move, or of the
suspended one, or the source's slot, where the source has no other move but one marked for stop. -/
theorem ldsPlace_cases (l : Lds) (src : Source) (r : Request) :
    ((l.motor r.motor).valid = false ∧ ldsPlace l src r = l) ∨
    ((l.motor r.motor).valid = true ∧
      ((∃ m, l.running = some m ∧ m.source = src ∧ m.stop = false ∧ ldsPlace l src r = { l with
          running := some { m with target := r.clamped.target, speed := r.speed, retarget := true } }) ∨
        ((∀ m, l.running = some m → m.source ≠ src) ∧ l.suspends src = true ∧ ldsPlace l src r = { l with
          stack := l.stack.map fun x => if x.source = src then x.retargeted r.clamped else x }) ∨
        ((∀ m, l.running = some m → m.source = src → m.stop = true) ∧
          ((∃ m, l.running = some m ∧ m.source = src) ∨ l.suspends src = false) ∧
          ldsPlace l src r = { l with slots := l.slots.set src (some r.clamped) }))) := by
  unfold ldsPlace
  by_cases hvalid : (l.motor r.motor).valid = true
  · refine .inr ⟨hvalid, ?_⟩
    dsimp only
    rw [if_pos hvalid]
    cases hrunning : l.running with
    | none =>
      cases hsuspends : l.suspends src with
      | true => exact .inr (.inl ⟨nofun, rfl, rfl⟩)
      | false => exact .inr (.inr ⟨nofun, .inr rfl, rfl⟩)
    | some m =>
      dsimp only
      by_cases hsrc : m.source = src
      · rw [if_pos hsrc]
        by_cases hstop : m.stop = true
        · rw [if_pos hstop]
          refine .inr (.inr ⟨fun n hn _ => ?_, .inl ⟨m, rfl, hsrc⟩, rfl⟩)
          cases hn
          exact hstop
        · rw [if_neg hstop]
          exact .inl ⟨m, rfl, hsrc, by simpa using hstop, rfl⟩
      · rw [if_neg hsrc]
        have hother (n : Move) (hn : some m = some n) : n.source ≠ src := Option.some.inj hn ▸ hsrc
        cases hsuspends : l.suspends src with
        | true => exact .inr (.inl ⟨hother, rfl, rfl⟩)
        | false => exact .inr (.inr ⟨fun n hn h => absurd h (hother n hn), .inr rfl, rfl⟩)
  · exact .inl ⟨by simpa using hvalid, if_neg hvalid⟩

/-- A source with one motor moves that one alone. -/
theorem eq_of_serves {src : Source} {m n : Motor} (h : sourceMotor src = some m) (hn : serves src n) : n = m := by
  rcases hn with hnone | hsome
  · rw [h] at hnone
    cases hnone
  · rw [h] at hsome
    exact (Option.some.inj hsome).symm

/-- A request of a source for a motor that the source's moves are of keeps the order: one motor of the source (R62), or a
source without a move under way, as PARK has at its parts (R78). -/
theorem ldsPlace_ordered {l : Lds} {src : Source} {r : Request} (h : l.Ordered) (hserves : serves src r.motor)
    (hone : sourceMotor src = some r.motor ∨ ((∀ m, l.running = some m → m.source ≠ src) ∧ l.suspends src = false)) :
    (ldsPlace l src r).Ordered := by
  have htop : r.clamped.target ≤ motorTop r.motor := Nat.min_le_left ..
  obtain ⟨-, -, -, hmoves⟩ := ordered_iff.1 h
  obtain ⟨-, heq⟩ | ⟨hvalid, hcases⟩ := ldsPlace_cases l src r
  · rw [heq]
    exact h
  refine h.of_moves (Lds.motor_congr (ldsPlace_zoom ..) (ldsPlace_focus ..) (ldsPlace_iris ..)) (ldsPlace_params ..) ?_
  obtain ⟨m, hm, hsrc, hstop, heq⟩ | ⟨hother, hsuspends, heq⟩ | ⟨hmarked, hfree, heq⟩ := hcases
  · obtain hsole | ⟨hno, -⟩ := hone
    swap
    · exact absurd hsrc (hno m hm)
    rw [heq]
    obtain ⟨hs, hv, -, hdest, hlevel, hlt⟩ := h.running hm
    have hmotor : m.motor = r.motor := eq_of_serves hsole (hsrc ▸ hs)
    refine ⟨fun x q hq => ?_, fun n hn => ?_, hmoves.suspended, hmoves.levels, fun href => ?_⟩
    · obtain ⟨hsq, hvq, htq, hstack, hrun⟩ := h.pending hq
      refine ⟨hsq, hvq, htq, hstack, fun n hn hx => ?_⟩
      cases hn
      exact hrun m hm hx
    · cases hn
      exact ⟨hs, hv, hmotor ▸ htop, hdest, hlevel, hlt⟩
    · obtain ⟨hnone, -⟩ := hmoves.reference href
      rw [hm] at hnone
      cases hnone
  · obtain hsole | ⟨-, hno⟩ := hone
    swap
    · rw [hsuspends] at hno
      cases hno
    rw [heq]
    have hsource (x : Suspended) : (if x.source = src then x.retargeted r.clamped else x).source = x.source := by
      split <;> rfl
    have hlevel (x : Suspended) : (if x.source = src then x.retargeted r.clamped else x).level = x.level := by
      split <;> rfl
    refine ⟨fun x q hq => ?_, fun m hm => ?_, fun y hy => ?_, ?_, fun href => ?_⟩
    · obtain ⟨hsq, hvq, htq, hstack, hrun⟩ := h.pending hq
      refine ⟨hsq, hvq, htq, ?_, hrun⟩
      rw [suspends_eq_false] at hstack ⊢
      intro y hy
      obtain ⟨z, hz, rfl⟩ := List.mem_map.1 hy
      rw [hsource]
      exact hstack z hz
    · obtain ⟨hs, hv, ht, hdest, hlev, hlt⟩ := h.running hm
      refine ⟨hs, hv, ht, hdest, hlev, fun y hy => ?_⟩
      obtain ⟨z, hz, rfl⟩ := List.mem_map.1 hy
      rw [hlevel]
      exact hlt z hz
    · obtain ⟨z, hz, rfl⟩ := List.mem_map.1 hy
      obtain ⟨hs, hv, ht, hdest, hlev, hpos⟩ := h.suspended hz
      by_cases hsrc : z.source = src
      · rw [if_pos hsrc]
        have hmotor : z.motor = r.motor := eq_of_serves hsole (hsrc ▸ hs)
        exact ⟨hs, hv, show r.clamped.target ≤ motorTop z.motor from hmotor ▸ htop, hdest, hlev, hpos⟩
      · rw [if_neg hsrc]
        exact ⟨hs, hv, ht, hdest, hlev, hpos⟩
    · rw [List.pairwise_map]
      simp only [hlevel]
      exact hmoves.levels
    · obtain ⟨hrunning, hstack⟩ := hmoves.reference href
      refine ⟨hrunning, ?_⟩
      dsimp only
      rw [hstack, List.map_nil]
  · rw [heq]
    have hsuspends : l.suspends src = false := by
      obtain ⟨m, hm, rfl⟩ | hno := hfree
      · exact h.suspends_running hm
      · exact hno
    refine ⟨fun x q hq => ?_, hmoves.running, hmoves.suspended, hmoves.levels, hmoves.reference⟩
    dsimp only at hq
    rw [Slots.get_set] at hq
    split at hq
    · next hx =>
      cases hq
      rw [hx]
      exact ⟨hserves, hvalid, htop, hsuspends, hmarked⟩
    · exact h.pending hq

/-! ### The most urgent request (R62, R65) -/

/-- Source src has the most urgent request r: of the best level, and the first in tie order among those of that level. -/
def Lds.MostUrgent (l : Lds) (src : Source) (r : Request) : Prop :=
  l.slots.get src = some r ∧ ∀ n q, l.slots.get n = some q →
    l.level src < l.level n ∨ (l.level src = l.level n ∧ sourceOrder.idxOf src ≤ sourceOrder.idxOf n)

/-- One source taken into the choice of the most urgent request. -/
def moreUrgent (l : Lds) (best : Option (Source × Request)) (src : Source) : Option (Source × Request) :=
  match l.slots.get src, best with
  | some r, some b => if l.level src < l.level b.1 then some (src, r) else best
  | some r, none => some (src, r)
  | none, _ => best

theorem bestPending_eq (l : Lds) : bestPending l = sourceOrder.foldl (moreUrgent l) none := rfl

/-- The choice among a list of sources in their order. -/
theorem foldl_moreUrgent (l : Lds) (xs : List Source) (hnodup : xs.Nodup) :
    (xs.foldl (moreUrgent l) none = none → ∀ n ∈ xs, l.slots.get n = none) ∧
    ∀ src r, xs.foldl (moreUrgent l) none = some (src, r) → src ∈ xs ∧ l.slots.get src = some r ∧
      ∀ n ∈ xs, ∀ q, l.slots.get n = some q →
        l.level src < l.level n ∨ (l.level src = l.level n ∧ xs.idxOf src ≤ xs.idxOf n) := by
  induction xs using List.reverseRecOn with
  | nil => exact ⟨fun _ => nofun, nofun⟩
  | append_singleton ys z ih =>
    obtain ⟨hys, -, hdisjoint⟩ := List.nodup_append.1 hnodup
    have hz : z ∉ ys := fun hmem => hdisjoint z hmem z List.mem_cons_self rfl
    obtain ⟨hnone, hsome⟩ := ih hys
    have hold {n : Source} (hn : n ∈ ys) : (ys ++ [z]).idxOf n = ys.idxOf n := List.idxOf_append_of_mem hn
    have hnew : (ys ++ [z]).idxOf z = ys.length := by simp [List.idxOf_append_of_notMem hz]
    rw [List.foldl_append, List.foldl_cons, List.foldl_nil]
    generalize ys.foldl (moreUrgent l) none = best at hnone hsome ⊢
    unfold moreUrgent
    cases hget : l.slots.get z with
    | none =>
      refine ⟨fun h n hn => ?_, fun src r h => ?_⟩
      · rcases List.mem_append.1 hn with hn | hn
        · exact hnone h n hn
        · rw [List.mem_singleton.1 hn, hget]
      · obtain ⟨hmem, hr, hbest⟩ := hsome src r h
        refine ⟨List.mem_append_left _ hmem, hr, fun n hn q hq => ?_⟩
        rcases List.mem_append.1 hn with hn | hn
        · rw [hold hmem, hold hn]
          exact hbest n hn q hq
        · rw [List.mem_singleton.1 hn, hget] at hq
          cases hq
    | some p =>
      cases best with
      | none =>
        refine ⟨nofun, fun src r h => ?_⟩
        cases h
        refine ⟨List.mem_append_right _ List.mem_cons_self, hget, fun n hn q hq => ?_⟩
        rcases List.mem_append.1 hn with hn | hn
        · rw [hnone rfl n hn] at hq
          cases hq
        · rw [List.mem_singleton.1 hn]
          exact .inr ⟨rfl, le_rfl⟩
      | some b =>
        obtain ⟨first, p⟩ := b
        obtain ⟨hmem, hr, hbest⟩ := hsome first p rfl
        dsimp only
        split
        · next hlt =>
          refine ⟨nofun, fun src r h => ?_⟩
          cases h
          refine ⟨List.mem_append_right _ List.mem_cons_self, hget, fun n hn q hq => ?_⟩
          rcases List.mem_append.1 hn with hn | hn
          · have := hbest n hn q hq
            exact .inl (by omega)
          · rw [List.mem_singleton.1 hn]
            exact .inr ⟨rfl, le_rfl⟩
        · next hge =>
          refine ⟨nofun, fun src r h => ?_⟩
          cases h
          refine ⟨List.mem_append_left _ hmem, hr, fun n hn q hq => ?_⟩
          rcases List.mem_append.1 hn with hn | hn
          · rw [hold hmem, hold hn]
            exact hbest n hn q hq
          · rw [List.mem_singleton.1 hn, hold hmem, hnew]
            have := (List.idxOf_lt_length_iff.2 hmem).le
            omega

theorem mem_sourceOrder (src : Source) : src ∈ sourceOrder := by cases src <;> decide

theorem bestPending_eq_none {l : Lds} : bestPending l = none ↔ ∀ src, l.slots.get src = none := by
  rw [bestPending_eq]
  obtain ⟨hnone, hsome⟩ := foldl_moreUrgent l sourceOrder (by decide)
  refine ⟨fun h src => hnone h src (mem_sourceOrder src), fun h => ?_⟩
  by_contra hne
  obtain ⟨⟨src, r⟩, hbest⟩ := Option.ne_none_iff_exists'.1 hne
  obtain ⟨-, hr, -⟩ := hsome src r hbest
  rw [h src] at hr
  cases hr

/-- At most one source has the most urgent request. -/
theorem Lds.MostUrgent.unique {l : Lds} {src n : Source} {r q : Request} (h : l.MostUrgent src r) (g : l.MostUrgent n q) :
    src = n ∧ r = q := by
  obtain ⟨hr, hbest⟩ := h
  obtain ⟨hq, hbest'⟩ := g
  have hlt := hbest n q hq
  have hgt := hbest' src r hr
  have hsame : src = n :=
    (List.idxOf_inj (mem_sourceOrder src)).1 (show sourceOrder.idxOf src = sourceOrder.idxOf n by omega)
  subst hsame
  exact ⟨rfl, Option.some.inj (hr.symm.trans hq)⟩

theorem bestPending_eq_some {l : Lds} {src : Source} {r : Request} : bestPending l = some (src, r) ↔ l.MostUrgent src r := by
  have hbest {n : Source} {q : Request} (h : bestPending l = some (n, q)) : l.MostUrgent n q := by
    rw [bestPending_eq] at h
    obtain ⟨-, hq, hall⟩ := (foldl_moreUrgent l sourceOrder (by decide)).2 n q h
    exact ⟨hq, fun x p hp => hall x (mem_sourceOrder x) p hp⟩
  refine ⟨hbest, fun h => ?_⟩
  cases hb : bestPending l with
  | none =>
    obtain ⟨hr, -⟩ := h
    rw [bestPending_eq_none.1 hb src] at hr
    cases hr
  | some b =>
    obtain ⟨rfl, rfl⟩ := h.unique (hbest hb)
    rfl

theorem Lds.MostUrgent.level_le {l : Lds} {src n : Source} {r q : Request} (h : l.MostUrgent src r)
    (hq : l.slots.get n = some q) : l.level src ≤ l.level n := by
  obtain ⟨-, hbest⟩ := h
  have := hbest n q hq
  omega

/-- A chosen request is the most urgent one, and of better level than the top of the stack (R65). -/
theorem choose_eq_request {l : Lds} {src : Source} {r : Request} :
    choose l = .request src r ↔ l.MostUrgent src r ∧ ∀ y ∈ l.stack.head?, l.level src < y.level := by
  rw [← bestPending_eq_some]
  unfold choose
  cases l.stack with
  | nil => cases bestPending l <;> simp [Prod.ext_iff]
  | cons x rest =>
    cases bestPending l with
    | none => simp
    | some b =>
      dsimp only
      split
      · next hle =>
        refine ⟨nofun, fun ⟨hb, hlt⟩ => ?_⟩
        cases hb
        exact absurd (hlt x rfl) (Nat.not_lt.2 hle)
      · next hgt =>
        constructor
        · intro h
          cases h
          refine ⟨rfl, fun y hy => ?_⟩
          cases hy
          exact Nat.not_le.1 hgt
        · rintro ⟨hb, -⟩
          cases hb
          rfl

/-- The top of the stack is chosen before a pending request of equal or worse level (R65). -/
theorem choose_eq_suspended {l : Lds} {x : Suspended} {rest : List Suspended} :
    choose l = .suspended x rest ↔ l.stack = x :: rest ∧ ∀ n q, l.slots.get n = some q → x.level ≤ l.level n := by
  unfold choose
  cases l.stack with
  | nil => cases bestPending l <;> simp
  | cons y ys =>
    cases hb : bestPending l with
    | none =>
      have hfree := bestPending_eq_none.1 hb
      simp [hfree]
    | some b =>
      have hurgent : l.MostUrgent b.1 b.2 := bestPending_eq_some.1 hb
      dsimp only
      split
      · next hle =>
        constructor
        · intro h
          cases h
          exact ⟨rfl, fun n q hq => hle.trans (hurgent.level_le hq)⟩
        · rintro ⟨h, -⟩
          cases h
          rfl
      · next hgt =>
        refine ⟨nofun, fun ⟨h, hall⟩ => ?_⟩
        cases h
        exact absurd (hall b.1 b.2 hurgent.1) hgt

/-! ### A move started (R61, R65, R68) -/

/-- Move m may start on the idle drive: it is in order over the stack, and its source has no request pending. -/
structure Lds.MayStart (l : Lds) (m : Move) : Prop where
  running : l.running = none
  reference : l.reference = none
  move : RunningOk l m
  free : l.slots.get m.source = none

/-- The drive with a move started is in order. -/
theorem start_ordered {l : Lds} {m : Move} (h : l.Ordered) (hm : l.MayStart m) : (l.start m).Ordered := by
  obtain ⟨-, -, -, hmoves⟩ := ordered_iff.1 h
  refine h.of_moves (Lds.motor_congr rfl rfl rfl) rfl ⟨fun src r hr => ?_, fun n hn => ?_, hmoves.suspended, hmoves.levels, fun href => ?_⟩
  · obtain ⟨hs, hv, ht, hsuspends, -⟩ := h.pending hr
    refine ⟨hs, hv, ht, hsuspends, fun n hn hsrc => ?_⟩
    cases hn
    have hr' : l.slots.get src = some r := hr
    rw [← hsrc, hm.free] at hr'
    cases hr'
  · cases hn
    exact hm.move
  · have href' : l.reference.isSome = true := href
    rw [hm.reference] at href'
    cases href'

/-- A pending request of better level than the whole stack may start, once taken from its slot (R65). -/
theorem mayStart_moveOf {l : Lds} {src : Source} {r : Request} (h : l.Ordered) (hidle : l.idle = true)
    (hr : l.slots.get src = some r) (hlt : ∀ x ∈ l.stack, l.level src < x.level) :
    Lds.MayStart { l with slots := l.slots.set src none } (moveOf l src r) := by
  obtain ⟨hs, hv, ht, -, -⟩ := h.pending hr
  obtain ⟨hrunning, href⟩ := Bool.and_eq_true_iff.1 hidle
  refine ⟨Option.isNone_iff_eq_none.1 hrunning, Option.isNone_iff_eq_none.1 href,
    ⟨hs, hv, ht, mainDest_le ht, rfl, hlt⟩, ?_⟩
  exact (Slots.get_set ..).trans (if_pos rfl)

/-- The top of the stack may start, once taken off (R65, R68). -/
theorem mayStart_resumed {l : Lds} {x : Suspended} {rest : List Suspended} (h : l.Ordered) (hidle : l.idle = true)
    (hx : l.stack = x :: rest) : Lds.MayStart { l with stack := rest } (resumed l x) := by
  obtain ⟨-, -, -, hmoves⟩ := ordered_iff.1 h
  obtain ⟨hs, hv, ht, hdest, hlevel, -⟩ := h.suspended (hx ▸ List.mem_cons_self)
  obtain ⟨hrunning, href⟩ := Bool.and_eq_true_iff.1 hidle
  have hlevels := hmoves.levels
  rw [hx, List.pairwise_cons] at hlevels
  refine ⟨Option.isNone_iff_eq_none.1 hrunning, Option.isNone_iff_eq_none.1 href, ⟨hs, hv, ht, ?_, hlevel, hlevels.1⟩, ?_⟩
  · unfold resumed
    dsimp only
    split
    · exact mainDest_le ht
    · exact hdest
  · by_contra hsome
    obtain ⟨r, hr⟩ := Option.ne_none_iff_exists'.1 hsome
    obtain ⟨-, -, -, hsuspends, -⟩ := h.pending (l := l) hr
    rw [suspends_eq_false] at hsuspends
    exact hsuspends x (hx ▸ List.mem_cons_self) rfl

end Sys2Proof.Machine
end

section
/-! SUPPORT. The order of the lens drive's moves (R58, R62 to R68) through the focus and zoom controllers, the outcomes of
moves, the grant, a step boundary and the reference, and what each leaves of the motors. -/

namespace Sys2Proof.Machine

/-! ### What keeps the drive in order and its motors where they are -/

/-- The drive l' is in order if l is, with every motor at its position, and valid only where it was. -/
structure Lds.Kept (l' l : Lds) : Prop where
  ordered : l.Ordered → l'.Ordered
  pos : ∀ m, (l'.motor m).pos = (l.motor m).pos
  valid : ∀ m, (l'.motor m).valid = true → (l.motor m).valid = true

theorem Lds.Kept.of_motors {l l' : Lds} (ho : l.Ordered → l'.Ordered) (hm : ∀ m, l'.motor m = l.motor m) : l'.Kept l :=
  ⟨ho, fun m => congrArg MotorState.pos (hm m), fun m hv => hm m ▸ hv⟩

/-- The lens drive of t is that of s, kept in order with its motors where they are. -/
def State.LensKept (t s : State) : Prop := t.lds.Kept s.lds

theorem State.LensKept.of_eq {s t : State} (h : t.lds = s.lds) : t.LensKept s :=
  .of_motors (h ▸ id) fun m => congrArg (Lds.motor · m) h

theorem State.LensKept.refl (s : State) : s.LensKept s := .of_eq rfl

theorem State.LensKept.trans {s t u : State} (h : u.LensKept t) (g : t.LensKept s) : u.LensKept s :=
  ⟨fun ho => h.ordered (g.ordered ho), fun m => (h.pos m).trans (g.pos m), fun m hv => g.valid m (h.valid m hv)⟩

theorem State.lensKept_ite {p : Prop} [Decidable p] {s t u : State} (h : t.LensKept s) (g : u.LensKept s) :
    (if p then t else u).LensKept s := by
  split
  · exact h
  · exact g

/-- Whatever the controllers do keeps the motors; the order is to be shown. -/
theorem State.ControlsOnly.lensKept {s t : State} (h : t.ControlsOnly s) (ho : s.lds.Ordered → t.lds.Ordered) : t.LensKept s :=
  .of_motors ho h.motor

theorem State.lensKept_place (s : State) {src : Source} {r : Request} (h : sourceMotor src = some r.motor) :
    (s.place src r).LensKept s :=
  (s.place_controls src r).lensKept fun ho => ldsPlace_ordered ho (.inr h) (.inl h)

theorem State.lensKept_cancelMove (s : State) (src : Source) : (s.cancelMove src).LensKept s :=
  (s.cancelMove_controls src).lensKept fun ho => ldsCancel_ordered ho src

/-! ### The focus controller (chapter 5) -/

theorem afcEnter_lensKept {s t : State} (h : t.lds = s.lds) (st : AfState) : (afcEnter t st).LensKept s :=
  .of_eq ((afcEnter_values t st).2.1.trans h)

/-- AFC enters a state with its move cancelled. -/
theorem afcEnter_lensKept_of_cancel {s t : State} (h : t.lds = ldsCancel s.lds .af) (st : AfState) : (afcEnter t st).LensKept s :=
  (afcEnter_lensKept (s := s.cancelMove .af) h st).trans (s.lensKept_cancelMove .af)

theorem afcFail_lensKept (s : State) (r : FailReason) : (afcFail s r).LensKept s :=
  afcEnter_lensKept_of_cancel (by rfl) .failed

theorem afcRequest_lensKept (s : State) (pos : Nat) : (afcRequest s pos).LensKept s := s.lensKept_place rfl

theorem afcBeginCoarse_lensKept (s : State) (inf near : Nat) : (afcBeginCoarse s inf near).LensKept s :=
  (afcRequest_lensKept ..).trans (afcEnter_lensKept (by rfl) .coarse)

theorem afcScanStart_lensKept (s : State) : (afcScanStart s).LensKept s := afcBeginCoarse_lensKept (s.setAfc _) _ _

theorem afcCancel_lensKept (s : State) : (afcCancel s).LensKept s := by
  unfold afcCancel
  split
  · exact .refl s
  iterate 3 exact afcEnter_lensKept (by rfl) .idle
  · exact afcEnter_lensKept_of_cancel (by rfl) .idle

theorem afcS1Assert_lensKept (s : State) : (afcS1Assert s).LensKept s := by
  unfold afcS1Assert
  split
  · exact afcScanStart_lensKept s
  · exact .refl s

theorem afcS1Release_lensKept (s : State) : (afcS1Release s).LensKept s := by
  unfold afcS1Release
  split
  iterate 3 exact afcCancel_lensKept s
  · exact afcEnter_lensKept (by rfl) .idle
  · exact .refl s

theorem afcAbort_lensKept (s : State) (b : Bool) : (afcAbort s b).LensKept s :=
  afcEnter_lensKept_of_cancel (by rfl) .idle

theorem afcZoomGranted_lensKept (s : State) : (afcZoomGranted s).LensKept s :=
  State.lensKept_ite (afcAbort_lensKept ..) (.refl s)

theorem afcPathStop_lensKept (s : State) : (afcPathStop s).LensKept s := State.lensKept_ite (afcAbort_lensKept ..) (.refl s)

theorem afcFocusInvalid_lensKept (s : State) : (afcFocusInvalid s).LensKept s :=
  State.lensKept_ite (afcFail_lensKept ..) (.refl s)

theorem afcZoomIdle_lensKept (s : State) : (afcZoomIdle s).LensKept s := by
  unfold afcZoomIdle
  refine State.lensKept_ite (State.lensKept_ite ?_ (.of_eq rfl)) (.refl s)
  split
  · exact afcScanStart_lensKept (s.setAfc _)
  · exact .of_eq rfl

theorem afcDisturbance_lensKept (s : State) : (afcDisturbance s).LensKept s :=
  State.lensKept_ite (State.lensKept_ite (afcFail_lensKept (s.setAfc _) _)
    (afcEnter_lensKept_of_cancel (by rfl) .settle)) (.refl s)

theorem afcSettleSof_lensKept (s : State) (b : Bool) : (afcSettleSof s b).LensKept s := by
  unfold afcSettleSof
  refine State.lensKept_ite ?_ (State.lensKept_ite (afcFail_lensKept (s.setAfc _) _) (.of_eq rfl))
  split
  · exact afcBeginCoarse_lensKept ..
  · exact .refl s

theorem afcSof_lensKept (s : State) (b c : Bool) : (afcSof s b c).LensKept s := by
  unfold afcSof
  split
  · exact afcSettleSof_lensKept ..
  iterate 4 exact .of_eq rfl
  · exact .refl s

theorem afcMoveComplete_lensKept (s : State) : (afcMoveComplete s).LensKept s := by
  unfold afcMoveComplete
  split
  · exact .refl s
  · refine State.lensKept_ite ?_ (.refl s)
    split
    · exact .of_eq rfl
    · exact afcEnter_lensKept (by rfl) .locked
    · exact .refl s

theorem afcTrackEnded_lensKept (s : State) : (afcTrackEnded s).LensKept s := State.lensKept_ite (.of_eq rfl) (.refl s)

theorem afcCoarseEnd_lensKept (s : State) (sc : Scan) : (afcCoarseEnd s sc).LensKept s := by
  unfold afcCoarseEnd
  split
  · exact afcFail_lensKept ..
  · exact (afcRequest_lensKept ..).trans (afcEnter_lensKept (by rfl) .fine)

theorem afcLockChoice_lensKept (s : State) (sc : Scan) : (afcLockChoice s sc).LensKept s := by
  unfold afcLockChoice
  split
  · exact State.lensKept_ite (afcFail_lensKept ..) (afcRequest_lensKept (s.setAfc _) _)
  · exact afcFail_lensKept ..

theorem afcNextPosition_lensKept (s : State) (sc : Scan) : (afcNextPosition s sc).LensKept s := by
  unfold afcNextPosition
  split
  · exact afcRequest_lensKept (s.setAfc _) _
  · exact State.lensKept_ite (afcCoarseEnd_lensKept ..) (afcLockChoice_lensKept ..)

theorem afcEntry_lensKept (s : State) (sc : Scan) (b : Bool) (fn : Nat) (rs : List WindowRecord) :
    (afcEntry s sc b fn rs).LensKept s :=
  State.lensKept_ite (afcFail_lensKept ..) (State.lensKept_ite
    (State.lensKept_ite (afcCoarseEnd_lensKept (s.setAfc _) _) (afcNextPosition_lensKept (s.setAfc _) _))
    (afcNextPosition_lensKept (s.setAfc _) _))

theorem afcReferenceFrame_lensKept (s : State) (k : Lock) (n : Nat) : (afcReferenceFrame s k n).LensKept s := by
  unfold afcReferenceFrame
  refine State.lensKept_ite (State.lensKept_ite (afcEnter_lensKept (by rfl) .monitor) (.of_eq rfl))
    (State.lensKept_ite (State.lensKept_ite ?_ (.of_eq rfl)) (.refl s))
  split
  · exact afcScanStart_lensKept s
  · exact .of_eq rfl

theorem afcFigures_lensKept (s : State) (fn : Nat) (rs : List WindowRecord) : (afcFigures s fn rs).LensKept s := by
  have hscan : (match s.afc.scan with
      | some sc => match sc.wait with | .eof blurred => afcEntry s sc blurred fn rs | _ => s
      | none => s).LensKept s := by
    split
    · split
      · exact afcEntry_lensKept ..
      · exact .refl s
    · exact .refl s
  unfold afcFigures
  split
  iterate 2 exact hscan
  iterate 2
    split
    · dsimp only
      split
      · exact State.lensKept_ite (.of_eq rfl) (afcReferenceFrame_lensKept (s.setAfc _) _ _)
      · exact .of_eq rfl
    · exact .refl s
  · exact .refl s

/-! ### The zoom controller (chapter 6) -/

theorem zmcPlace_lensKept (s : State) (e sp : Nat) : (zmcPlace s e sp).LensKept s := s.lensKept_place rfl

theorem zmcNextSegment_lensKept (s : State) (z : ZoomInHand) : (zmcNextSegment s z).LensKept s :=
  zmcPlace_lensKept (s.setZmc _) _ _

theorem zmcStart_lensKept (s : State) (t : Clamped Nat) (sp : Nat) : (zmcStart s t sp).LensKept s :=
  State.lensKept_ite (State.lensKept_ite (.of_eq rfl) (.of_eq rfl)) (zmcNextSegment_lensKept (s.setZmc _) _)

theorem zmcRetarget_lensKept (s : State) (z : ZoomInHand) (t : Clamped Nat) (sp : Nat) :
    (zmcRetarget s z t sp).LensKept s :=
  State.lensKept_ite (.of_eq rfl) (zmcPlace_lensKept (s.setZmc _) _ _)

theorem zmcCommand_lensKept (s : State) (t : Clamped Nat) (sp : Nat) : (zmcCommand s t sp).LensKept s := by
  unfold zmcCommand
  split
  · exact State.lensKept_ite (zmcRetarget_lensKept ..) (.refl s)
  · exact zmcStart_lensKept ..

theorem zmcTrack_lensKept (s : State) : (zmcTrack s).LensKept s :=
  State.lensKept_ite ((State.lensKept_place _ rfl).trans (State.lensKept_ite (.of_eq rfl) (.of_eq rfl))) (.refl s)

theorem zmcIdle_lensKept (s : State) : (zmcIdle s).LensKept s := afcZoomIdle_lensKept (s.setZmc _)

theorem zmcEnd_lensKept (s : State) (b : Bool) : (zmcEnd s b).LensKept s :=
  (zmcIdle_lensKept _).trans (State.lensKept_ite (.of_eq rfl) (.of_eq rfl))

theorem zmcMoveComplete_lensKept (s : State) : (zmcMoveComplete s).LensKept s := by
  unfold zmcMoveComplete
  split
  · exact State.lensKept_ite ((zmcEnd_lensKept ..).trans (zmcTrack_lensKept s))
      ((zmcNextSegment_lensKept ..).trans (zmcTrack_lensKept s))
  · exact (zmcEnd_lensKept ..).trans (zmcTrack_lensKept s)
  · exact .refl s

theorem zmcMoveStopped_lensKept (s : State) : (zmcMoveStopped s).LensKept s :=
  State.lensKept_ite (.refl s) ((zmcEnd_lensKept ..).trans (zmcTrack_lensKept s))

theorem zmcMoveLost_lensKept (s : State) : (zmcMoveLost s).LensKept s := State.lensKept_ite (.refl s) (zmcIdle_lensKept s)

theorem zmcStop_lensKept (s : State) : (zmcStop s).LensKept s := by
  have hcancel (z : Zmc) : ((s.cancelMove .zoom).setZmc z).LensKept s := s.lensKept_cancelMove .zoom
  exact State.lensKept_ite (State.lensKept_ite ((zmcMoveStopped_lensKept _).trans (hcancel _)) (hcancel _)) (.refl s)

/-! ### Outcomes and the grant (R65, R69 to R71) -/

/-- Parks and timers are no part of the order. -/
theorem Lds.Ordered.of_park {l : Lds} (h : l.Ordered) (p : Option Park) : ({ l with park := p } : Lds).Ordered :=
  h.within (within_of_moves_eq rfl rfl rfl rfl (fun _ hv => hv) id) h.position

theorem parkEnded_lensKept (s : State) : (parkEnded s).LensKept s :=
  (parkEnded_controls s).lensKept fun h => h.of_park none

/-- PARK requests a part where it has no move under way (R78). -/
theorem parkRequest_lensKept {s : State} (hrunning : s.lds.running = none) (hsuspends : s.lds.suspends .park = false)
    (m : Motor) : (parkRequest s m).LensKept s := by
  refine (parkRequest_controls s m).lensKept fun h => ?_
  unfold parkRequest
  dsimp only
  split
  · refine ldsPlace_ordered (h.of_park (some ⟨m, false⟩)) (.inl rfl) (.inr ⟨fun n hn => ?_, hsuspends⟩)
    have hn' : s.lds.running = some n := hn
    rw [hrunning] at hn'
    cases hn'
  · exact h.of_park none

theorem parkComplete_lensKept {s : State} (hrunning : s.lds.running = none) (hsuspends : s.lds.suspends .park = false) :
    (parkComplete s).LensKept s := by
  unfold parkComplete
  split
  iterate 2 exact parkRequest_lensKept hrunning hsuspends _
  iterate 2 exact parkEnded_lensKept s

/-- An outcome keeps the order; that of a PARK move comes when PARK has no other under way. -/
theorem moveComplete_lensKept {s : State} {src : Source}
    (h : src = .park → s.lds.running = none ∧ s.lds.suspends .park = false) : (moveComplete s src).LensKept s := by
  cases src with
  | park => exact parkComplete_lensKept (h rfl).1 (h rfl).2
  | track => exact afcTrackEnded_lensKept s
  | zoom => exact zmcMoveComplete_lensKept s
  | iris => exact .refl s
  | af => exact afcMoveComplete_lensKept s
  | manual => exact .of_eq rfl

theorem moveStopped_lensKept (s : State) (src : Source) : (moveStopped s src).LensKept s := by
  cases src with
  | park => exact parkEnded_lensKept s
  | track => exact afcTrackEnded_lensKept s
  | zoom => exact zmcMoveStopped_lensKept s
  | iris | af | manual => exact .refl s

theorem moveLost_lensKept (s : State) (src : Source) : (moveLost s src).LensKept s := by
  cases src with
  | park => exact parkEnded_lensKept s
  | zoom => exact zmcMoveLost_lensKept s
  | track | iris | af | manual => exact .refl s

theorem tellGrant_lensKept (s : State) (src : Source) : (tellGrant s src).LensKept s :=
  State.lensKept_ite (afcZoomGranted_lensKept s) (.refl s)

/-- AFC is told, and the move of a free source completes. -/
theorem moveComplete_tellGrant_ordered {s : State} {src : Source} (h : s.lds.Ordered) (hrunning : s.lds.running = none)
    (hsuspends : s.lds.suspends src = false) : (moveComplete (tellGrant s src) src).lds.Ordered := by
  refine (moveComplete_lensKept fun hsrc => ?_).ordered ((tellGrant_lensKept s src).ordered h)
  subst hsrc
  exact ⟨hrunning, hsuspends⟩

theorem grantOne_ordered {s : State} {m : Move} (h : s.lds.Ordered) (hm : s.lds.MayStart m) :
    (grantOne s m).2.lds.Ordered := by
  obtain ⟨-, -, -, -, hlevel, hlt⟩ := hm.move
  unfold grantOne
  split
  · exact moveComplete_tellGrant_ordered h hm.running (suspends_eq_false_of_level_lt h fun x hx => hlevel ▸ hlt x hx)
  · exact (tellGrant_lensKept ..).ordered (start_ordered h hm)

/-- The order without one source's request. -/
theorem Lds.Ordered.slot_none {l : Lds} (h : l.Ordered) (src : Source) :
    ({ l with slots := l.slots.set src none } : Lds).Ordered :=
  h.within { params := rfl, pending := fun _ _ hr => ⟨slots_of_set_none hr, id⟩, running := fun n hn => ⟨n, hn, rfl, id, id⟩,
             stack := .refl _, valid := fun _ _ => id, reference := id } h.position

/-- The order without the top of the stack. -/
theorem Lds.Ordered.stack_tail {l : Lds} (h : l.Ordered) {x : Suspended} {rest : List Suspended} (hx : l.stack = x :: rest) :
    ({ l with stack := rest } : Lds).Ordered :=
  h.within { params := rfl, pending := fun _ _ hr => ⟨hr, id⟩, running := fun n hn => ⟨n, hn, rfl, id, id⟩,
             stack := hx ▸ List.sublist_cons_self x rest, valid := fun _ _ => id, reference := id } h.position

/-- A level better than the top of the stack is better than all of it. -/
theorem Lds.Ordered.lt_of_head {l : Lds} (h : l.Ordered) {n : Nat} (hlt : ∀ y ∈ l.stack.head?, n < y.level) :
    ∀ x ∈ l.stack, n < x.level := by
  obtain ⟨-, -, -, hmoves⟩ := ordered_iff.1 h
  have hlevels := hmoves.levels
  intro x hx
  cases hs : l.stack with
  | nil => rw [hs] at hx; cases hx
  | cons y rest =>
    rw [hs] at hx hlevels hlt
    have hy := hlt y rfl
    rcases List.mem_cons.1 hx with rfl | hrest
    · exact hy
    · exact hy.trans ((List.pairwise_cons.1 hlevels).1 x hrest)

theorem grantLoop_ordered (k : Nat) {s : State} (h : s.lds.Ordered) : (grantLoop k s).lds.Ordered := by
  induction k generalizing s with
  | zero => exact h
  | succ k ih =>
    unfold grantLoop
    by_cases hidle : s.lds.idle = true
    · rw [if_pos hidle]
      cases hc : choose s.lds with
      | nothing => exact h
      | request src r =>
        obtain ⟨⟨hr, -⟩, hhead⟩ := choose_eq_request.1 hc
        have hone := grantOne_ordered (s := s.setLds _) (h.slot_none src)
          (mayStart_moveOf h hidle hr (h.lt_of_head hhead))
        dsimp only
        split
        · exact ih hone
        · exact hone
      | suspended x rest =>
        obtain ⟨hx, -⟩ := choose_eq_suspended.1 hc
        have hone := grantOne_ordered (s := s.setLds _) (h.stack_tail hx) (mayStart_resumed h hidle hx)
        dsimp only
        split
        · exact ih hone
        · exact hone
    · rw [if_neg hidle]
      exact h

theorem State.grant_lensKept (s : State) : s.grant.LensKept s := s.grant_controls.lensKept (grantLoop_ordered _)

/-! ### A step boundary (R66 to R71) -/

theorem Lds.Ordered.release {l : Lds} (h : l.Ordered) : l.release.Ordered :=
  h.within (within_of_not_running (Lds.motor_congr rfl rfl rfl) rfl (fun _ _ => id) rfl (.refl _) id) h.position

theorem endStopped_ordered {s : State} (h : s.lds.Ordered) (m : Move) : (endStopped s m).lds.Ordered := by
  refine (State.grant_lensKept _).ordered ?_
  split
  · exact h.release
  · exact (moveStopped_lensKept (s.setLds s.lds.release) m.source).ordered h.release

theorem endComplete_ordered {s : State} {m : Move} (h : s.lds.Ordered) (hs : s.lds.suspends m.source = false) :
    (endComplete s m).lds.Ordered :=
  (State.grant_lensKept _).ordered ((moveComplete_lensKept (s := s.setLds s.lds.release) fun hsrc => ⟨rfl, hsrc ▸ hs⟩).ordered h.release)

/-- The drive as a preempted move leaves it: on the stack, with the request of src taken (R67). -/
def Lds.preempted (l : Lds) (m : Move) (src : Source) : Lds :=
  { l with stack := suspend m (l.motor m.motor).pos :: l.stack, slots := l.slots.set src none, running := none, timer := none }

theorem preempt_eq (s : State) (m : Move) (src : Source) (r : Request) :
    preempt s m src r =
      let g := grantOne (s.setLds (s.lds.preempted m src)) (moveOf s.lds src r)
      if g.1 then g.2.grant else g.2 := rfl

/-- A request of better level than the running move suspends it in order. -/
theorem preempted_ordered {l : Lds} {m : Move} {src : Source} (h : l.Ordered) (hm : l.running = some m)
    (hstop : m.stop = false) (hlt : l.level src < m.level) : (l.preempted m src).Ordered := by
  obtain ⟨-, -, -, hmoves⟩ := ordered_iff.1 h
  obtain ⟨hs, hv, ht, hdest, hlevel, hless⟩ := h.running hm
  refine h.of_moves (Lds.motor_congr rfl rfl rfl) rfl ⟨fun x q hq => ?_, nofun, fun y hy => ?_,
    List.pairwise_cons.2 ⟨hless, hmoves.levels⟩, fun href => ?_⟩
  · have hq' := slots_of_set_none hq
    obtain ⟨hsq, hvq, htq, hstack, hmarked⟩ := h.pending hq'
    refine ⟨hsq, hvq, htq, ?_, nofun⟩
    rw [suspends_eq_false] at hstack ⊢
    intro y hy
    rcases List.mem_cons.1 hy with rfl | hrest
    · intro hsrc
      rw [hmarked m hm hsrc] at hstop
      cases hstop
    · exact hstack y hrest
  · rcases List.mem_cons.1 hy with rfl | hrest
    · exact ⟨hs, hv, ht, hdest, hlevel, Nat.one_le_of_lt hlt⟩
    · exact h.suspended hrest
  · have hnone : l.reference = none := h.reference_eq_none hm
    have href' : l.reference.isSome = true := href
    rw [hnone] at href'
    cases href'

theorem preempt_ordered {s : State} {m : Move} {src : Source} {r : Request} (h : s.lds.Ordered)
    (hm : s.lds.running = some m) (hstop : m.stop = false) (hr : s.lds.slots.get src = some r)
    (hlt : s.lds.level src < m.level) : (preempt s m src r).lds.Ordered := by
  obtain ⟨hs, hv, ht, -, -⟩ := h.pending hr
  obtain ⟨-, -, -, -, -, hless⟩ := h.running hm
  have hstart : (s.lds.preempted m src).MayStart (moveOf s.lds src r) := by
    refine ⟨rfl, h.reference_eq_none hm, ⟨hs, hv, ht, mainDest_le ht, rfl, fun x hx => ?_⟩, (Slots.get_set ..).trans (if_pos rfl)⟩
    rcases List.mem_cons.1 hx with rfl | hrest
    · exact hlt
    · exact hlt.trans (hless x hrest)
  have hone := grantOne_ordered (s := s.setLds _) (preempted_ordered h hm hstop hlt) hstart
  rw [preempt_eq]
  dsimp only
  split
  · exact (State.grant_lensKept _).ordered hone
  · exact hone

@[simp] theorem signalStep_lds (s : State) (m : Motor) : (signalStep s m).lds = s.lds := by cases m <;> rfl

theorem get_foldl_set_none (ks : List Source) (sl : Slots) (x : Source) :
    (ks.foldl (fun sl src => sl.set src none) sl).get x = if x ∈ ks then none else sl.get x := by
  induction ks generalizing sl with
  | nil => simp
  | cons k ks ih =>
    rw [List.foldl_cons, ih, Slots.get_set]
    by_cases hx : x ∈ ks
    · rw [if_pos hx, if_pos (List.mem_cons_of_mem _ hx)]
    · rw [if_neg hx]
      simp only [List.mem_cons, hx, or_false]

theorem mem_pendingFor {l : Lds} {m : Motor} {src : Source} :
    src ∈ pendingFor l m ↔ ∃ r, l.slots.get src = some r ∧ r.motor = m := by
  unfold pendingFor
  rw [List.mem_filter]
  cases l.slots.get src <;> simp [mem_sourceOrder]

/-- What is left of the slots when a motor is lost: the requests for other motors. -/
theorem get_lose {l : Lds} {m : Motor} {x : Source} {r : Request} :
    (l.lose m).slots.get x = some r ↔ l.slots.get x = some r ∧ r.motor ≠ m := by
  change ((pendingFor l m).foldl (fun sl src => sl.set src none) l.slots).get x = some r ↔ _
  rw [get_foldl_set_none]
  by_cases hx : x ∈ pendingFor l m
  · obtain ⟨q, hq, hm⟩ := mem_pendingFor.1 hx
    rw [if_pos hx, hq]
    refine ⟨nofun, fun ⟨heq, hne⟩ => ?_⟩
    cases heq
    exact absurd hm hne
  · rw [if_neg hx]
    exact ⟨fun heq => ⟨heq, fun hm => hx (mem_pendingFor.2 ⟨r, heq, hm⟩)⟩, And.left⟩

theorem lose_motor (l : Lds) (m n : Motor) : (l.lose m).motor n = if n = m then ⟨(l.motor m).pos, false⟩ else l.motor n := by
  rw [show (l.lose m).motor n = (l.setMotor m ⟨(l.motor m).pos, false⟩).motor n from Lds.motor_congr rfl rfl rfl n,
    Lds.setMotor_motor]

/-- A lost motor keeps no move, and the moves of the others stay (R71). -/
theorem lose_ordered {l : Lds} (h : l.Ordered) (hr : l.running = none) (m : Motor) : (l.lose m).Ordered := by
  have hmotor {n : Motor} (hn : n ≠ m) : (l.lose m).motor n = l.motor n := (lose_motor l m n).trans (if_neg hn)
  refine h.within { params := ?_, pending := fun x r hx => ?_, running := fun n hn => ?_, stack := List.filter_sublist,
                    valid := fun x hx hv => ?_, reference := fun href => ?_ } fun n => ?_
  · exact Lds.setMotor_params ..
  · obtain ⟨hx', hne⟩ := get_lose.1 hx
    exact ⟨hx', fun hv => hmotor hne ▸ hv⟩
  · have hn' : (l.setMotor m ⟨(l.motor m).pos, false⟩).running = some n := hn
    rw [Lds.setMotor_running, hr] at hn'
    cases hn'
  · have hne : x.motor ≠ m := by simpa using (List.mem_filter.1 hx).2
    exact hmotor hne ▸ hv
  · have href' : (l.setMotor m ⟨(l.motor m).pos, false⟩).reference.isSome = true := href
    rwa [Lds.setMotor_reference] at href'
  · rw [lose_motor]
    split
    · next heq => exact heq ▸ h.position m
    · exact h.position n

theorem foldl_moveLost_lensKept (ks : List Source) (s : State) : (ks.foldl moveLost s).LensKept s := by
  induction ks generalizing s with
  | nil => exact .refl s
  | cons k ks ih => exact (ih _).trans (moveLost_lensKept s k)

/-- What follows the loss of a motor's position keeps the drive as the loss has left it (R71). -/
theorem losePosition_lensKept (s : State) (m : Move) :
    (losePosition s m).LensKept (s.setLds (s.lds.release.lose m.motor)) := by
  have hlost (ks : List Source) : (ks.foldl moveLost ((s.setLds (s.lds.release.lose m.motor)).raise condLensLost)).LensKept
      (s.setLds (s.lds.release.lose m.motor)) := (foldl_moveLost_lensKept _ _).trans (.of_eq rfl)
  exact (State.grant_lensKept _).trans (State.lensKept_ite ((afcFocusInvalid_lensKept _).trans (hlost _)) (hlost _))

theorem losePosition_ordered {s : State} (h : s.lds.Ordered) (m : Move) : (losePosition s m).lds.Ordered :=
  (losePosition_lensKept s m).ordered (lose_ordered h.release rfl m.motor)

/-- The drive after one step of a motor to position b, before its outcome (R59, R60). -/
def Lds.stepped (l : Lds) (m : Motor) (b : Nat) (sample : LensSample) : Lds :=
  { l.setMotor m ⟨b, (l.motor m).valid⟩ with latched := latchSensors m l.latched sample }

theorem stepped_motor (l : Lds) (m n : Motor) (b : Nat) (sample : LensSample) :
    (l.stepped m b sample).motor n = if n = m then ⟨b, (l.motor m).valid⟩ else l.motor n := by
  rw [show (l.stepped m b sample).motor n = (l.setMotor m ⟨b, (l.motor m).valid⟩).motor n from Lds.motor_congr rfl rfl rfl n,
    Lds.setMotor_motor]

theorem stepped_valid (l : Lds) (m n : Motor) (b : Nat) (sample : LensSample) :
    ((l.stepped m b sample).motor n).valid = (l.motor n).valid := by
  rw [stepped_motor]
  split
  · next h => rw [h]
  · rfl

theorem stepped_ordered {l : Lds} (h : l.Ordered) {m : Motor} {b : Nat} (hb : b ≤ motorTop m) (sample : LensSample) :
    (l.stepped m b sample).Ordered := by
  refine h.within (within_of_moves_eq (Lds.setMotor_params ..) (Lds.setMotor_slots ..) (Lds.setMotor_running ..)
    (Lds.setMotor_stack ..) (fun n hv => ?_) fun href => ?_) fun n => ?_
  · rw [stepped_valid]
    exact hv
  · exact (Lds.setMotor_reference l m _ : (l.stepped m b sample).reference = l.reference) ▸ href
  · rw [stepped_motor]
    split
    · next heq => exact heq ▸ hb
    · exact h.position n

theorem stepToward_le {p dest top : Nat} (hp : p ≤ top) (hdest : dest ≤ top) : stepToward p dest ≤ top := by
  unfold stepToward
  split <;> omega

/-- A step by its outcome: the position lost, the move complete, or the move going on (R66, R71). -/
theorem takeStep_eq (s : State) (m : Move) (sample : LensSample) :
    takeStep s m sample =
      let a := (s.lds.motor m.motor).pos
      let b := stepToward a m.dest
      let u := signalStep (s.setLds (s.lds.stepped m.motor b sample)) m.motor
      if !stepOk s.lds m.motor a b sample then losePosition u m
      else if b = m.dest ∧ b = m.target then endComplete u m
      else u.setLds (u.lds.start (moveAfterStep m b)) := rfl

theorem stepCompletes_eq_true {l : Lds} {m : Move} : stepCompletes l m = true ↔
    stepToward (l.motor m.motor).pos m.dest = m.dest ∧ stepToward (l.motor m.motor).pos m.dest = m.target := by
  unfold stepCompletes
  exact decide_eq_true_iff

/-- A step of a move in order, whose source has no request pending where the move goes on. -/
theorem takeStep_ordered {s : State} {m : Move} (h : s.lds.Ordered) (hm : RunningOk s.lds m) (href : s.lds.reference = none)
    (hfree : s.lds.slots.get m.source = none ∨ stepCompletes s.lds m = true) (sample : LensSample) :
    (takeStep s m sample).lds.Ordered := by
  obtain ⟨hs, hv, ht, hdest, hlevel, hlt⟩ := hm
  rw [takeStep_eq]
  dsimp only
  have hstepped := stepped_ordered h (stepToward_le (h.position m.motor) hdest) sample
  have hlds := signalStep_lds (s.setLds (s.lds.stepped m.motor (stepToward (s.lds.motor m.motor).pos m.dest) sample)) m.motor
  rw [State.setLds_lds] at hlds
  generalize signalStep _ m.motor = u at hlds ⊢
  rw [← hlds] at hstepped
  have hstack : u.lds.stack = s.lds.stack := hlds ▸ Lds.setMotor_stack ..
  split
  · exact losePosition_ordered hstepped m
  · split
    · have hsuspends : s.lds.suspends m.source = false := suspends_eq_false_of_level_lt h fun x hx => hlevel ▸ hlt x hx
      refine endComplete_ordered hstepped ?_
      rw [suspends_eq_false] at hsuspends ⊢
      rwa [hstack]
    · next hgoes =>
      have hslots : u.lds.slots = s.lds.slots := hlds ▸ Lds.setMotor_slots ..
      have hreference : u.lds.reference = s.lds.reference := hlds ▸ Lds.setMotor_reference ..
      have hparams : u.lds.params = s.lds.params := hlds ▸ Lds.setMotor_params ..
      have hlevels : u.lds.level m.source = s.lds.level m.source := by unfold Lds.level; rw [hparams]
      have hvalid : (u.lds.motor m.motor).valid = true := by rw [hlds, stepped_valid]; exact hv
      have hfree' : s.lds.slots.get m.source = none := hfree.resolve_right fun hc => hgoes (stepCompletes_eq_true.1 hc)
      have hafter (b : Nat) : u.lds.release.MayStart (moveAfterStep m b) := by
        refine ⟨rfl, hreference.trans href, ?_, ?_⟩
        · unfold moveAfterStep
          split
          · exact ⟨hs, hvalid, ht, ht, hlevel.trans hlevels.symm, hstack ▸ hlt⟩
          · exact ⟨hs, hvalid, ht, hdest, hlevel.trans hlevels.symm, hstack ▸ hlt⟩
        · have hsource : (moveAfterStep m b).source = m.source := by unfold moveAfterStep; split <;> rfl
          rw [hsource]
          exact (congrArg (·.get m.source) hslots).trans hfree'
      exact start_ordered (l := u.lds.release) hstepped.release (hafter _)

/-- A move that takes its new target stays in order (R66 step 3). -/
theorem retargeted_ok {l : Lds} {m : Move} (h : RunningOk l m) : RunningOk l (retargeted l m) := by
  obtain ⟨hs, hv, ht, -, hlevel, hlt⟩ := h
  exact ⟨hs, hv, ht, mainDest_le ht, hlevel, hlt⟩

theorem preemptor_eq_some {l : Lds} {m : Move} {src : Source} {r : Request} :
    preemptor l m = some (src, r) ↔ l.MostUrgent src r ∧ l.level src < m.level := by
  rw [← bestPending_eq_some]
  unfold preemptor
  cases bestPending l with
  | none => simp
  | some b =>
    dsimp only
    split
    · next hlt =>
      refine ⟨fun h => ?_, fun ⟨h, _⟩ => h⟩
      cases h
      exact ⟨rfl, hlt⟩
    · next hge =>
      refine ⟨nofun, fun ⟨h, hlt⟩ => ?_⟩
      cases h
      exact absurd hlt hge

/-- Steps 2 to 4 of a boundary: of the running move, not marked for stop, or of one that completes here (R66, R70). -/
theorem boundaryOn_ordered {s : State} {n m : Move} (h : s.lds.Ordered) (hn : s.lds.running = some n) (hm : RunningOk s.lds m)
    (hcase : (n = m ∧ m.stop = false) ∨ completesHere s.lds m = true) (sample : LensSample) :
    (boundaryOn s m sample).lds.Ordered := by
  have hsuspends : s.lds.suspends m.source = false := by
    obtain ⟨-, -, -, -, hlevel, hlt⟩ := hm
    exact suspends_eq_false_of_level_lt h fun x hx => hlevel ▸ hlt x hx
  have hfree (hno : completesHere s.lds m ≠ true) : s.lds.slots.get m.source = none := by
    obtain ⟨rfl, hstop⟩ | hc := hcase
    · exact h.pending_running hn hstop
    · exact absurd hc hno
  unfold boundaryOn
  cases hp : preemptor s.lds m with
  | some b =>
    obtain ⟨src, r⟩ := b
    obtain ⟨⟨hr, -⟩, hless⟩ := preemptor_eq_some.1 hp
    obtain ⟨rfl, hstop⟩ | hc := hcase
    · exact preempt_ordered h hn hstop hr hless
    · unfold completesHere at hc
      rw [hp] at hc
      cases hc
  | none =>
    dsimp only
    split
    · next hretarget =>
      split
      · exact endComplete_ordered h hsuspends
      · next hrest =>
        refine takeStep_ordered h (retargeted_ok hm) (h.reference_eq_none hn) ?_ sample
        by_cases hc : completesHere s.lds m = true
        · unfold completesHere at hc
          rw [hp, if_pos hretarget] at hc
          exact .inr ((Bool.or_eq_true_iff.1 hc).resolve_left hrest)
        · exact .inl (hfree hc)
    · next hretarget =>
      refine takeStep_ordered h hm (h.reference_eq_none hn) ?_ sample
      by_cases hc : completesHere s.lds m = true
      · unfold completesHere at hc
        rw [hp, if_neg hretarget] at hc
        exact .inr (by simpa using hc)
      · exact .inl (hfree hc)

theorem stepBoundary_ordered {s : State} (h : s.lds.Ordered) (sample : LensSample) (b : Bool) :
    (stepBoundary s sample b).lds.Ordered := by
  unfold stepBoundary
  cases hm : s.lds.running with
  | none => exact h
  | some m =>
    have hok := h.running hm
    dsimp only
    split
    · split
      · next hstop hc =>
        have hcompletes : completesHere s.lds m = true := by simp only [Bool.and_eq_true] at hc; exact hc.2
        exact boundaryOn_ordered h hm (m := { m with stop := false }) hok (.inr hcompletes) sample
      · exact endStopped_ordered h m
    · next hstop => exact boundaryOn_ordered h hm hok (.inl ⟨rfl, by simpa using hstop⟩) sample

/-! ### The reference (R75 to R77) -/

theorem Lds.Ordered.endReference {l : Lds} (h : l.Ordered) : l.endReference.Ordered :=
  h.within (within_of_moves_eq rfl rfl rfl rfl (fun _ hv => hv) nofun) h.position

/-- A phase begins while a reference is in progress. -/
theorem Lds.Ordered.beginPhase {l : Lds} (h : l.Ordered) (href : l.reference.isSome = true) (m : Motor) : (l.beginPhase m).Ordered :=
  h.within (within_of_moves_eq rfl rfl rfl rfl (fun _ hv => hv) fun _ => href) h.position

theorem nextPhase_ordered {s : State} (h : s.lds.Ordered) (href : s.lds.reference.isSome = true) (m : Motor) :
    (nextPhase s m).lds.Ordered := by
  cases m with
  | iris | focus => exact h.beginPhase href _
  | zoom => exact (State.grant_lensKept _).ordered h.endReference

theorem referencePoint_le {p : LensParams} (h : p.homePos ≤ motorTop .focus) (m : Motor) : referencePoint p m ≤ motorTop m := by
  cases m with
  | zoom => exact show 8 ≤ 2048 by decide
  | focus => exact h
  | iris => exact Nat.zero_le _

/-- A reference step by its outcome (R76, R77). -/
theorem referenceStep_eq {s : State} {r : Reference} (hr : s.lds.reference = some r) (sample : LensSample) :
    referenceStep s sample =
      if r.stop then (s.setLds s.lds.endReference).grant
      else
        let u := signalStep (s.setLds { s.lds with latched := latchSensors r.motor s.lds.latched sample }) r.motor
        if phaseFound r sample then
          nextPhase (u.setLds (u.lds.setMotor r.motor ⟨referencePoint u.lds.params r.motor, true⟩)) r.motor
        else if phaseLimit r.motor ≤ r.steps + 1 then nextPhase (u.raise condLensFault) r.motor
        else u.setLds { u.lds with
          reference := some ⟨r.motor, r.steps + 1, r.seeking || !phaseLevel sample r.motor, false⟩
          timer := some (referencePeriod u.lds r.motor) } := by
  unfold referenceStep
  rw [hr]

theorem referenceStep_ordered {s : State} (h : s.lds.Ordered) (sample : LensSample) : (referenceStep s sample).lds.Ordered := by
  cases hr : s.lds.reference with
  | none =>
    unfold referenceStep
    rw [hr]
    exact h
  | some r =>
    rw [referenceStep_eq hr]
    split
    · exact (State.grant_lensKept _).ordered h.endReference
    · have hlds := signalStep_lds (s.setLds { s.lds with latched := latchSensors r.motor s.lds.latched sample }) r.motor
      rw [State.setLds_lds] at hlds
      dsimp only
      generalize signalStep _ r.motor = u at hlds ⊢
      have hu : u.lds.Ordered := by
        rw [hlds]
        exact h.within (within_of_moves_eq rfl rfl rfl rfl (fun _ hv => hv) id) h.position
      have href : u.lds.reference.isSome = true := by rw [hlds]; exact congrArg Option.isSome hr
      split
      · obtain ⟨-, hhome, -, -⟩ := ordered_iff.1 hu
        refine nextPhase_ordered (hu.within (within_of_moves_eq (Lds.setMotor_params ..) (Lds.setMotor_slots ..)
          (Lds.setMotor_running ..) (Lds.setMotor_stack ..) (fun n hv => ?_) ?_) fun n => ?_) ?_ r.motor
        · rw [State.setLds_lds, Lds.setMotor_motor]
          split
          · rfl
          · exact hv
        · rw [State.setLds_lds, Lds.setMotor_reference]
          exact id
        · rw [State.setLds_lds, Lds.setMotor_motor]
          split
          · next heq => exact heq ▸ referencePoint_le hhome r.motor
          · exact hu.position n
        · rw [State.setLds_lds, Lds.setMotor_reference]
          exact href
      · split
        · exact nextPhase_ordered (s := u.raise condLensFault) hu href r.motor
        · exact hu.within (within_of_moves_eq rfl rfl rfl rfl (fun _ hv => hv) fun _ => href) hu.position

end Sys2Proof.Machine
end

section
/-! SUPPORT. The order of the lens drive's moves and its motors through every command and event: all but a step boundary, a
reference step and power-on reset keep each motor at its position (R58, R60). -/

namespace Sys2Proof.Machine

/-! ### The exposure controller (chapter 3) -/

theorem aecJudgeRecords_lensKept (s : State) : (aecJudgeRecords s).LensKept s := .of_eq (aecJudgeRecords_afc_lds s).2

theorem requestIris_lensKept (s : State) (target : Nat) : (requestIris s target).LensKept s :=
  State.lensKept_ite ((State.grant_lensKept _).trans (s.lensKept_place rfl)) (.refl s)

theorem captureCopy_lensKept (s : State) : (captureCopy s).LensKept s := by
  unfold captureCopy
  refine State.lensKept_ite ?_ (.refl s)
  split
  · exact aecJudgeRecords_lensKept (s.setAec _)
  · exact .refl s

theorem issueOff_lensKept (s : State) : (issueOff s).LensKept s := by
  unfold issueOff
  split
  · exact State.lensKept_ite (State.lensKept_ite (.refl s)
      ((requestIris_lensKept ..).trans (aecJudgeRecords_lensKept (s.setAec _)))) (.of_eq rfl)
  · exact captureCopy_lensKept s

theorem issueDecision_lensKept (s : State) (p : Plan) (w : Bool) : (issueDecision s p w).LensKept s :=
  State.lensKept_ite (State.lensKept_ite (requestIris_lensKept (s.setAec _) _) (.of_eq rfl)) (.refl s)

theorem reportStages_lensKept (s : State) (c : Computed) : (reportStages s c).LensKept s :=
  State.lensKept_ite (.of_eq rfl) (.of_eq rfl)

theorem settleFrame_lensKept (s : State) (c : Computed) (p : Plan) (w : Bool) : (settleFrame s c p w).LensKept s :=
  State.lensKept_ite (t := s.raise condAeLimitHigh) (.of_eq rfl) (.refl s)

theorem measuredFrame_lensKept (s : State) (z : ZoneSet) : (measuredFrame s z).1.LensKept s := by
  have hset (p : Plan) (w : Bool) : (settleFrame (reportStages s (computeStages s z)) (computeStages s z) p w).LensKept s :=
    (settleFrame_lensKept ..).trans (reportStages_lensKept ..)
  unfold measuredFrame
  dsimp only
  split
  · exact hset ..
  · exact (issueDecision_lensKept ..).trans (hset ..)

theorem aecEof_lensKept (s : State) (z : Option ZoneSet) : (aecEof s z).1.LensKept s := by
  unfold aecEof
  dsimp only
  repeat' split
  iterate 2 exact .refl s
  · exact issueOff_lensKept s
  · exact captureCopy_lensKept s
  · exact (captureCopy_lensKept _).trans (reportStages_lensKept ..)
  · exact captureCopy_lensKept s
  · exact .of_eq rfl
  · exact measuredFrame_lensKept s _
  · exact .of_eq rfl

theorem aecSof_lensKept (s : State) (subject : List Nat) : (aecSof s subject).LensKept s := by
  obtain ⟨a, c, h⟩ := aecSof_eq_set s subject
  rw [h]
  exact .of_eq rfl

theorem itemAcknowledged_lensKept (s : State) : (itemAcknowledged s).LensKept s := by
  unfold itemAcknowledged
  dsimp only
  repeat' split
  · exact .refl s
  · exact aecJudgeRecords_lensKept (s.setAec _)
  all_goals exact .of_eq rfl

theorem itemNotAcknowledged_lensKept (s : State) : (itemNotAcknowledged s).LensKept s := by
  unfold itemNotAcknowledged
  dsimp only
  repeat' split
  · exact .refl s
  · exact State.lensKept_ite (.of_eq rfl) (aecJudgeRecords_lensKept ((s.setAec _).setAec _))
  all_goals exact .of_eq rfl

/-! ### The Capture Store (chapter 8) -/

theorem setSlot_lensKept (s : State) (i : Nat) (f : Slot → Slot) : (setSlot s i f).LensKept s := .of_eq rfl

theorem freeSlotAt_lensKept (s : State) (i : Nat) : (freeSlotAt s i).LensKept s := setSlot_lensKept ..

theorem autoRelease_lensKept (s : State) (i : Nat) : (autoRelease s i).LensKept s := by
  unfold autoRelease
  split
  · exact State.lensKept_ite (freeSlotAt_lensKept ..) (.refl s)
  · exact .refl s

theorem slotReturns_lensKept (s : State) (i : Nat) : (slotReturns s i).LensKept s := by
  unfold slotReturns
  split
  · exact State.lensKept_ite ((autoRelease_lensKept ..).trans (setSlot_lensKept ..)) (.refl s)
  · exact .refl s

/-- Any number of such operations, one slot after another. -/
theorem foldl_lensKept {f : State → Nat → State} (h : ∀ s i, (f s i).LensKept s) (ks : List Nat) (s : State) :
    (ks.foldl f s).LensKept s := by
  induction ks generalizing s with
  | nil => exact .refl s
  | cons k ks ih => exact (ih _).trans (h s k)

theorem freeFilling_lensKept (s : State) : (freeFilling s).LensKept s := foldl_lensKept freeSlotAt_lensKept _ s

theorem passWithheld_lensKept (s : State) : (passWithheld s).LensKept s := by
  unfold passWithheld
  exact State.lensKept_ite
    (State.lensKept_ite (.of_eq rfl) ((afcS1Release_lensKept _).trans (.of_eq rfl))) (.refl s)

theorem tellCaptureEnd_lensKept (s : State) : (tellCaptureEnd s).LensKept s :=
  State.lensKept_ite (.of_eq rfl) (.refl s)

theorem captureEnds_lensKept (s : State) (st : CaptureState) : (captureEnds s st).LensKept s :=
  (passWithheld_lensKept _).trans (tellCaptureEnd_lensKept s)

theorem storeStop_lensKept (s : State) : (storeStop s).LensKept s :=
  State.lensKept_ite (.refl s) ((captureEnds_lensKept ..).trans (freeFilling_lensKept s))

theorem checkCaptureDone_lensKept (s : State) : (checkCaptureDone s).LensKept s :=
  State.lensKept_ite ((captureEnds_lensKept ..).trans (.of_eq rfl)) (.refl s)

theorem takeTrigger_lensKept (s : State) : (takeTrigger s).LensKept s := .of_eq rfl

theorem gateExpires_lensKept (s : State) : (gateExpires s).LensKept s := by
  unfold gateExpires
  split
  · exact .of_eq rfl
  · exact (captureEnds_lensKept ..).trans (.of_eq rfl)

theorem gateSof_lensKept (s : State) : (gateSof s).LensKept s :=
  State.lensKept_ite (State.lensKept_ite (.of_eq rfl)
    (State.lensKept_ite (gateExpires_lensKept s) (.of_eq rfl))) (.refl s)

theorem missFrame_lensKept (s : State) (part : Part) : (missFrame s part).LensKept s :=
  (checkCaptureDone_lensKept _).trans (.of_eq rfl)

theorem openSlot_lensKept (s : State) (i : Nat) (part : Part) (fm : FrameFacts) (n : Nat) :
    (openSlot s i part fm n).LensKept s :=
  (setSlot_lensKept ..).trans (.of_eq rfl)

theorem storeFrame_lensKept (s : State) (part : Part) (fm : FrameFacts) (n : Nat) : (storeFrame s part fm n).LensKept s := by
  unfold storeFrame
  split
  · exact openSlot_lensKept ..
  · split
    · exact (openSlot_lensKept ..).trans (freeSlotAt_lensKept ..)
    · exact missFrame_lensKept ..

theorem storePre_lensKept (s : State) (fm : FrameFacts) : (storePre s fm).LensKept s := by
  unfold storePre
  refine State.lensKept_ite ?_ (storeFrame_lensKept ..)
  split
  · exact (storeFrame_lensKept ..).trans (freeSlotAt_lensKept ..)
  · exact missFrame_lensKept ..

theorem storeFiltered_lensKept (s : State) (part : Part) (fm : FrameFacts) : (storeFiltered s part fm).LensKept s :=
  State.lensKept_ite (.of_eq rfl) ((storeFrame_lensKept ..).trans (.of_eq rfl))

theorem cstSof_lensKept (s : State) (fm : FrameFacts) : (cstSof s fm).LensKept s := by
  refine .trans ?_ (gateSof_lensKept s)
  unfold cstSof
  dsimp only
  split
  · exact .refl _
  · exact storePre_lensKept ..
  · exact storeFiltered_lensKept ..

theorem noticeFiled_lensKept (s : State) (held : Bool) : (noticeFiled s held).LensKept s := by
  unfold noticeFiled
  split
  · exact .refl s
  · exact .of_eq rfl
  · exact State.lensKept_ite (.of_eq rfl) (.refl s)
  · exact .of_eq rfl
  · exact .refl s

theorem cstEof_lensKept (s : State) (b : Bool) : (cstEof s b).LensKept s := by
  unfold cstEof
  split
  · split
    · split
      · exact (checkCaptureDone_lensKept _).trans ((noticeFiled_lensKept ..).trans (.of_eq rfl))
      · exact .refl s
    · exact .refl s
  · exact .refl s

theorem s1Assertion_lensKept (s : State) : (s1Assertion s).LensKept s := by
  unfold s1Assertion
  exact State.lensKept_ite
    ((State.grant_lensKept _).trans ((afcS1Assert_lensKept _).trans (.of_eq rfl))) (.of_eq rfl)

theorem s1Release_lensKept (s : State) : (s1Release s).LensKept s :=
  State.lensKept_ite (.of_eq rfl) ((State.grant_lensKept _).trans (afcS1Release_lensKept s))

theorem s2Assertion_lensKept (s : State) : (s2Assertion s).LensKept s := by
  unfold s2Assertion
  split
  · exact takeTrigger_lensKept s
  · exact .refl s

theorem shutterActs_lensKept (s : State) (w : ShutterLine) (b : Bool) : (shutterActs s w b).LensKept s := by
  unfold shutterActs
  refine State.lensKept_ite ?_ (.refl s)
  split
  · exact s1Assertion_lensKept s
  · exact s1Release_lensKept s
  · exact s2Assertion_lensKept s
  · exact .refl s

theorem debounceTakes_lensKept (s : State) (w : ShutterLine) : (debounceTakes s w).LensKept s := by
  unfold debounceTakes
  exact State.lensKept_ite (.of_eq rfl) ((shutterActs_lensKept ..).trans (.of_eq rfl))

theorem rawChanges_lensKept (s : State) (w : ShutterLine) (b : Bool) : (rawChanges s w b).LensKept s := by
  unfold rawChanges
  exact State.lensKept_ite (.refl s)
    (State.lensKept_ite ((debounceTakes_lensKept ..).trans (.of_eq rfl)) (.of_eq rfl))

theorem debounceExpires_lensKept (s : State) (w : ShutterLine) : (debounceExpires s w).LensKept s :=
  State.lensKept_ite (debounceTakes_lensKept s w) (.refl s)

/-! ### Motion, tables and link -/

theorem shiftLimitSample_lensKept (s : State) : (shiftLimitSample s).LensKept s :=
  State.lensKept_ite (.of_eq rfl) (.refl s)

theorem rateSample_lensKept (s : State) (seq : Nat) (yaw pitch : Int) : (rateSample s seq yaw pitch).LensKept s := by
  have hgap (b : Prop) [Decidable b] : (if b then s else s.raise condMotionGap).LensKept s :=
    State.lensKept_ite (.refl s) (.of_eq rfl)
  unfold rateSample
  dsimp only
  split
  · exact hgap _
  · exact (shiftLimitSample_lensKept _).trans (hgap _)

theorem takeReadback_lensKept (s : State) (r : AxisPair) : (takeReadback s r).LensKept s := by
  unfold takeReadback
  dsimp only
  repeat' split
  all_goals exact .of_eq rfl

theorem State.CommitsOnly.lensKept {s t : State} (h : t.CommitsOnly s) : t.LensKept s := .of_eq h.lds

theorem commitTable_lensKept (id : Nat) (s : State) : (commitTable id s).1.LensKept s := by
  unfold commitTable
  repeat' split
  iterate 3 exact .refl s
  exact (applyIfStopped_commitsOnly _).lensKept.trans (.of_eq rfl)

theorem takeFetch_lensKept (s : State) (i : Nat) (f : Fetch) : (takeFetch s i f).LensKept s := by
  unfold takeFetch
  exact State.lensKept_ite (.of_eq rfl) (.of_eq rfl)

theorem fetchCommand_lensKept (tag : Tag) (a : FetchArgs) (s : State) : (fetchCommand tag a s).1.LensKept s := by
  unfold fetchCommand
  repeat' split
  iterate 3 exact .refl s
  · dsimp only
    split
    · exact .refl s
    · exact takeFetch_lensKept ..
  · exact .refl s

theorem abortFetch_lensKept (s : State) : (abortFetch s).LensKept s := by
  unfold abortFetch
  split
  · exact .refl s
  · exact State.lensKept_ite (.refl s)
      (State.lensKept_ite ((slotReturns_lensKept ..).trans (.of_eq rfl)) (.of_eq rfl))

theorem recordSent_lensKept (s : State) (i order : Nat) : (recordSent s i order).LensKept s := by
  have hmark : (match s.cst.slots[i]? with
      | some x => if holdsFrame x order then autoRelease (setSlot s i fun y => { y with recordSent := true }) i else s
      | none => s).LensKept s := by
    split
    · exact State.lensKept_ite ((autoRelease_lensKept ..).trans (setSlot_lensKept ..)) (.refl s)
    · exact .refl s
  unfold recordSent
  dsimp only
  split
  · exact State.lensKept_ite hmark hmark
  · exact hmark

theorem packetEnds_lensKept (s : State) : (packetEnds s).LensKept s := by
  have himage (u : State) : (imageSent u).LensKept u := by
    unfold imageSent
    split
    · exact (slotReturns_lensKept ..).trans (.of_eq rfl)
    · exact .refl u
  have habort (u : State) : (abortSent u).LensKept u := by
    unfold abortSent
    split
    · exact State.lensKept_ite (.of_eq rfl) (.of_eq rfl)
    · exact .refl u
  unfold packetEnds
  split
  · exact .refl s
  · dsimp only
    split
    · exact .of_eq rfl
    · exact (recordSent_lensKept ..).trans (.of_eq rfl)
    · exact State.lensKept_ite ((himage _).trans (.of_eq rfl)) (.of_eq rfl)
    · exact (habort _).trans (.of_eq rfl)

theorem sendNext_lensKept (s : State) : (sendNext s).LensKept s := by
  unfold sendNext
  split
  iterate 3 exact .of_eq rfl
  · cases s.offer <;> exact .of_eq rfl
  · exact .of_eq rfl
  · exact .refl s

theorem execPacketBoundary_lensKept {s t : State} (h : execPacketBoundary s = .next t) : t.LensKept s := by
  unfold execPacketBoundary at h
  dsimp only at h
  split at h
  · cases h
  · cases h
    exact (sendNext_lensKept _).trans (packetEnds_lensKept s)

theorem execLine_lensKept {pixels : List Nat} {s t : State} (h : execLine pixels s = .next t) : t.LensKept s := by
  have hwrite (u : State) (y : Nat) (line : List Nat) : (writeLine u y line).LensKept u := by
    unfold writeLine
    split
    · exact .of_eq rfl
    · exact .refl u
  have htake : (takeLine s pixels).LensKept s := by
    have hpass (u : State) (y : Nat) (line : List Nat) : (passLine u y line).LensKept u :=
      (hwrite ..).trans (.of_eq rfl)
    unfold takeLine
    exact State.lensKept_ite ((hpass ..).trans (.of_eq rfl))
      ((hpass ..).trans (.of_eq rfl))
  unfold execLine at h
  split at h
  · cases h; exact .refl s
  · split at h
    · cases h; exact .of_eq rfl
    · split at h
      · cases h
      · cases h; exact htake

/-! ### Host commands (R176) -/

theorem takeCommand_lensKept {i : Instr} {s : State} {tag : Tag} {code : Byte} {block : State → State × Answer}
    (h : ∀ u, (block u).1.LensKept u) : (takeCommand i tag code block s).LensKept s :=
  State.lensKept_ite ((h _).trans (.of_eq rfl)) (.refl s)

theorem hostCommand_lensKept {α : Type} {i : Instr} {s : State} {tag : Tag} {code : Byte} {p : Payload α}
    {block : α → State → State × Answer} (h : ∀ a u, (block a u).1.LensKept u) :
    (hostCommand i tag code p block s).LensKept s :=
  takeCommand_lensKept fun u => by
    cases p with
    | args a => exact h a u
    | wrongLength => exact .refl u

/-! ### Frames (R5 to R10) -/

theorem sofWork_lensKept (s : State) : (sofWork s).LensKept s := by
  have hmou (u : State) : (mouSof u).1.LensKept u := .of_eq (by rw [mouSof_fst]; rfl)
  have hstats (u : State) : (statsSof (pxpSof u)).LensKept u := .of_eq rfl
  have hcommits := (applyCommits_commitsOnly s).lensKept
  unfold sofWork
  dsimp only
  generalize applyCommits s = u at hcommits ⊢
  have htimed : (timedSof u).LensKept u := .of_eq (State.setCnd_lds ..)
  have haec := (aecSof_lensKept (timedSof u) (timedSof u).afc.subjectMask).trans (htimed.trans hcommits)
  generalize aecSof (timedSof u) (timedSof u).afc.subjectMask = v at haec ⊢
  have hmotion := (hmou v).trans haec
  generalize mouSof v = m at hmotion ⊢
  exact (State.grant_lensKept _).trans ((afcSof_lensKept ..).trans ((cstSof_lensKept ..).trans ((hstats _).trans hmotion)))

theorem truncatedWork_lensKept (s : State) : (truncatedWork s).LensKept s := by
  have hcut : (cutShort s).LensKept s := .of_eq rfl
  rw [truncatedWork_eq rfl]
  exact (aecEof_lensKept _ none).trans hcut

theorem truncateFrame_lensKept (s : State) (c : TruncationCause) : (truncateFrame s c).LensKept s := by
  have hwork : (truncatedWork (s.setIntake { s.intake with mode := .waiting })).LensKept s := truncatedWork_lensKept (s.setIntake _)
  exact State.lensKept_ite hwork hwork

theorem focusEof_lensKept (s : State) (rs : List WindowRecord) (b : Bool) : (focusEof s rs b).LensKept s := by
  have hfigures (u : State) (fn : Nat) : (afcFigures u fn rs).grant.LensKept u :=
    (State.grant_lensKept _).trans (afcFigures_lensKept ..)
  have hdisturbed (u : State) : (afcDisturbance u).grant.LensKept u :=
    (State.grant_lensKept _).trans (afcDisturbance_lensKept u)
  unfold focusEof
  exact State.lensKept_ite
    (State.lensKept_ite
      (State.lensKept_ite ((hdisturbed _).trans (hfigures (s.setChoices _) _)) ((hfigures ..).trans (hdisturbed (s.setChoices _))))
      ((hfigures ..).trans (hdisturbed s)))
    (hfigures ..)

theorem eofWork_lensKept (s : State) (m : Measurement) : (eofWork s m).LensKept s :=
  (cstEof_lensKept ..).trans ((focusEof_lensKept ..).trans (aecEof_lensKept ((s.setMou _).setStats _) _))

theorem frameStartPacket_lensKept (s : State) : (frameStartPacket s).LensKept s := by
  have hopens (u : State) : (frameOpens u).LensKept u := sofWork_lensKept (u.setIntake _)
  unfold frameStartPacket
  split
  · exact .refl s
  · exact hopens s
  · exact (hopens _).trans (truncateFrame_lensKept ..)

theorem frameEndPacket_lensKept (s : State) : (frameEndPacket s).LensKept s := by
  unfold frameEndPacket
  split
  · refine State.lensKept_ite (truncateFrame_lensKept ..) ?_
    unfold completeFrame
    dsimp only
    split
    · exact eofWork_lensKept (s.setIntake _) _
    · exact truncatedWork_lensKept (s.setIntake _)
  · exact .refl s

theorem timeoutExpires_lensKept (s : State) : (timeoutExpires s).LensKept s :=
  State.lensKept_ite (State.lensKept_ite (p := (s.raise condSensorStall).intake.mode = .inFrame)
    (truncateFrame_lensKept (s.raise condSensorStall) _) (.of_eq rfl)) (.refl s)

theorem pathStop_lensKept (s : State) : (pathStop s).1.LensKept s := by
  have hcut : (if s.intake.mode = .inFrame then truncateFrame s .stopped else s).LensKept s :=
    State.lensKept_ite (truncateFrame_lensKept ..) (.refl s)
  have hrest (u : State) : (applyCommits (afcPathStop (abortFetch (storeStop u)))).LensKept u :=
    (applyCommits_commitsOnly _).lensKept.trans ((afcPathStop_lensKept _).trans
      ((abortFetch_lensKept _).trans (storeStop_lensKept u)))
  have hstop (u : State) : (u.setIntake { u.intake with mode := .stopped, timer := none }).LensKept u := .of_eq rfl
  exact State.lensKept_ite (.refl s) ((hrest _).trans ((hstop _).trans hcut))

/-! ### The lens drive's commands (R72 to R78) -/

theorem perSource_levels_le {a : LensSetupArgs} (h : lensStructural a = true) (src : Source) : perSource a.levels src ≤ 3 := by
  obtain ⟨hlevels, -⟩ := Bool.and_eq_true_iff.1 h
  exact of_decide_eq_true (List.all_eq_true.1 hlevels src (mem_sourceOrder src))

/-- New parameters on a drive without moves (R72). -/
theorem setParams_ordered {l : Lds} {p : LensParams} (h : l.Ordered) (hn : l.noMoves = true) (hhome : p.homePos ≤ motorTop .focus)
    (hlevel : ∀ src, perSource p.levels src ≤ 3) (b : Bool) :
    ({ l with params := p, focus := ⟨l.focus.pos, b⟩ } : Lds).Ordered := by
  refine ordered_of_noMoves (fun m => ?_) hhome hlevel hn
  cases m with
  | zoom => exact h.position .zoom
  | focus => exact h.position .focus
  | iris => exact h.position .iris

theorem lensSetup_lensKept (a : LensSetupArgs) (s : State) : (lensSetup a s).1.LensKept s := by
  unfold lensSetup
  by_cases hbusy : (s.lds.idle && s.lds.noMoves) = true
  · rw [if_neg (by simp [hbusy])]
    by_cases hs : lensStructural a = true
    · rw [if_neg (by simp [hs])]
      obtain ⟨-, hn⟩ := Bool.and_eq_true_iff.1 hbusy
      have hhome : (lensParamsOf a).homePos ≤ motorTop .focus := by
        simp only [lensParamsOf, clampNat_zero]
        exact Nat.min_le_left ..
      have hset (b : Bool) (hb : b = true → s.lds.focus.valid = true) :
          (s.setLds { s.lds with params := lensParamsOf a, focus := ⟨s.lds.focus.pos, b⟩ }).LensKept s := by
        refine ⟨fun ho => setParams_ordered ho hn hhome (perSource_levels_le hs) b, fun m => by cases m <;> rfl, fun m hv => ?_⟩
        cases m with
        | zoom | iris => exact hv
        | focus => exact hb hv
      unfold lensSetupTaken
      refine State.lensKept_ite (State.lensKept_ite ((afcFocusInvalid_lensKept _).trans (hset false nofun)) (hset false nofun)) ?_
      exact hset s.lds.focus.valid id
    · rw [if_pos (by simp [hs])]
      exact .refl s
  · rw [if_pos (by simp [hbusy])]
    exact .refl s

theorem focusMove_lensKept (a : MoveArgs) (s : State) : (focusMove a s).1.LensKept s := by
  unfold focusMove
  repeat' split
  iterate 3 exact .refl s
  exact (State.grant_lensKept _).trans (s.lensKept_place rfl)

theorem lensStop_lensKept (s : State) : (lensStop s).LensKept s := by
  have hcancel : ((s.cancelMove .park).cancelMove .manual).LensKept s :=
    (State.lensKept_cancelMove ..).trans (s.lensKept_cancelMove _)
  have hmark (u : State) (p : Option Park) : (u.setLds { u.lds with
      park := p, reference := u.lds.reference.map fun r => { r with stop := true } }).LensKept u := by
    refine Lds.Kept.of_motors (fun h => h.within (within_of_moves_eq rfl rfl rfl rfl (fun _ hv => hv) fun href => ?_) h.position)
      (Lds.motor_congr rfl rfl rfl)
    exact (Option.isSome_map ..).symm.trans href
  exact State.lensKept_ite ((parkEnded_lensKept _).trans ((hmark ..).trans hcancel)) ((hmark ..).trans hcancel)

theorem lensFree_noMoves {s : State} (h : lensFree s = true) : s.lds.noMoves = true := (Bool.and_eq_true_iff.1 h).2

/-- A reference begins on a drive without moves (R75). -/
theorem beginReference_lensKept {s : State} (hn : s.lds.noMoves = true) : (s.setLds s.lds.beginReference).LensKept s := by
  have hpos (m : Motor) : (s.lds.beginReference.motor m).pos = (s.lds.motor m).pos := by cases m <;> rfl
  refine ⟨fun h => ?_, hpos, fun m hv => by cases m <;> cases hv⟩
  obtain ⟨-, hhome, hlevel, -⟩ := ordered_iff.1 h
  exact ordered_of_noMoves (l := s.lds.beginReference) (fun m => hpos m ▸ h.position m) hhome hlevel hn

theorem lensReference_lensKept (s : State) : (lensReference s).1.LensKept s := by
  unfold lensReference
  by_cases hfree : lensFree s = true
  · split
    · exact .refl s
    · rw [if_neg (by simp [hfree])]
      exact beginReference_lensKept (lensFree_noMoves hfree)
  · rw [if_pos (c := (!lensFree s) = true) (by simp [hfree])]
    split <;> exact .refl s

theorem lensPark_lensKept (s : State) : (lensPark s).1.LensKept s := by
  unfold lensPark
  by_cases hfree : lensFree s = true
  · split
    · exact .refl s
    · rw [if_neg (by simp [hfree])]
      split
      · exact .refl s
      · obtain ⟨hrunning, hstack, -⟩ := noMoves_eq_true.1 (lensFree_noMoves hfree)
        exact (State.grant_lensKept _).trans (parkRequest_lensKept hrunning (by simp [Lds.suspends, hstack]) .iris)
  · rw [if_pos (c := (!lensFree s) = true) (by simp [hfree])]
    split <;> exact .refl s

/-! ### The commands of the other blocks -/

theorem aeMode_lensKept (n : Nat) (s : State) : (aeMode n s).1.LensKept s := by
  have hchanges (st : AeState) : (aeModeChanges s st).LensKept s :=
    State.lensKept_ite (s.lensKept_cancelMove .iris) (.of_eq rfl)
  unfold aeMode
  repeat' split
  · exact .refl s
  · exact .refl s
  · exact State.lensKept_ite (.refl s) (hchanges _)

theorem aeSetup_lensKept (a : AeSetupArgs) (s : State) : (aeSetup a s).1.LensKept s := by
  unfold aeSetup
  split <;> exact .of_eq rfl

theorem aeManual_lensKept (a : AeManualArgs) (s : State) : (aeManual a s).1.LensKept s := by
  unfold aeManual
  repeat' split
  all_goals exact .of_eq rfl

theorem afSetup_lensKept (a : AfSetupArgs) (s : State) : (afSetup a s).1.LensKept s := by
  have htaken (c : AfChoice) : (afSetupTaken s c a).LensKept s :=
    State.lensKept_ite (State.lensKept_ite (afcEnter_lensKept (by rfl) .idle) (.of_eq rfl)) (.of_eq rfl)
  unfold afSetup
  repeat' split
  iterate 2 exact .refl s
  exact htaken _

theorem afStart_lensKept (s : State) : (afStart s).1.LensKept s := by
  unfold afStart
  split
  · exact .refl s
  · exact (State.grant_lensKept _).trans (afcScanStart_lensKept s)

theorem zoomSetup_lensKept (n : Nat) (s : State) : (zoomSetup n s).1.LensKept s := by
  unfold zoomSetup
  split <;> exact .of_eq rfl

theorem zoomTo_lensKept (a : MoveArgs) (s : State) : (zoomTo a s).1.LensKept s := by
  unfold zoomTo
  split
  · exact .refl s
  · exact (State.grant_lensKept _).trans (zmcCommand_lensKept ..)

theorem zoomBy_lensKept (a : ZoomByArgs) (s : State) : (zoomBy a s).1.LensKept s := by
  unfold zoomBy
  split
  · exact .refl s
  · exact (State.grant_lensKept _).trans (zmcCommand_lensKept ..)

theorem storeSetup_lensKept (a : StoreSetupArgs) (s : State) : (storeSetup a s).1.LensKept s := by
  unfold storeSetup
  repeat' split
  iterate 4 exact .refl s
  exact (foldl_lensKept autoRelease_lensKept ..).trans (.of_eq rfl)

theorem storeStart_lensKept (s : State) : (storeStart s).1.LensKept s := by
  unfold storeStart
  split
  · exact .refl s
  · dsimp only
    split
    · exact .refl s
    · exact .of_eq rfl

theorem triggerCommand_lensKept (s : State) : (triggerCommand s).1.LensKept s := by
  unfold triggerCommand
  split
  · exact .refl s
  · exact takeTrigger_lensKept s

theorem slotCommand_lensKept {need : SlotState} {effect : State → Nat → State} (h : ∀ s n, (effect s n).LensKept s) (n : Nat)
    (s : State) : (slotCommand need effect n s).1.LensKept s := by
  unfold slotCommand
  repeat' split
  · exact .refl s
  · exact h s n
  · exact .refl s

end Sys2Proof.Machine
end

section
/-! PROOF of the statements on the order of the lens drive's moves (R58, R62 to R67) and on where a position changes (R58, R60,
R66, R68, R75 to R77): the resets, every command and event, and what a step boundary and a reference step do to the motors. -/

namespace Sys2Proof.Machine

/-! ### The resets (R80, R81, R184) -/

/-- The reset levels of the sources are 0 to 3 (R72). -/
theorem resetLensParams_levels_le (src : Source) : perSource resetLensParams.levels src ≤ 3 := by cases src <;> decide

/-- After RESET FULL no move is in hand, and the motors stand where they are (R80). -/
theorem ldsFull_kept (l : Lds) : (ldsFull l).Kept l := by
  have hpos (m : Motor) : ((ldsFull l).motor m).pos = (l.motor m).pos := by cases m <;> rfl
  refine ⟨fun h => ordered_of_noMoves (fun m => hpos m ▸ h.position m) (show 256 ≤ 4095 by decide)
    resetLensParams_levels_le (noMoves_eq_true.2 ⟨rfl, rfl, fun src => by cases src <;> rfl⟩), hpos, fun m hv => ?_⟩
  rw [ldsFull_motor, motorFull_valid] at hv
  exact hv.1

/-- After RESET PIPELINE the running move alone is left, marked for stop (R81). -/
theorem ldsPipeline_kept (l : Lds) : (ldsPipeline l).Kept l := by
  have hmotor : ∀ m, (ldsPipeline l).motor m = l.motor m := Lds.motor_congr rfl rfl rfl
  refine .of_motors (fun h => h.within { params := rfl, pending := fun src _ hr => ?_, running := fun n hn => ?_,
                                         stack := List.nil_sublist _, valid := nofun, reference := fun href => ?_ }
    fun m => hmotor m ▸ h.position m) hmotor
  · cases src <;> cases hr
  · obtain ⟨m, hm, rfl⟩ := Option.map_eq_some_iff.1 hn
    exact ⟨m, hm, rfl, fun _ => rfl, fun hv => hmotor m.motor ▸ hv⟩
  · exact (Option.isSome_map ..).symm.trans href

theorem resetScope_lensKept (full : Bool) (s : State) : (resetScope full s).LensKept s := by
  have habort := abortFetch_lensKept s
  cases full with
  | true => exact State.LensKept.trans (t := abortFetch s) (ldsFull_kept (abortFetch s).lds) habort
  | false =>
    have hhalted : (pipelineHalted s).LensKept (abortFetch s) := ldsPipeline_kept (abortFetch s).lds
    exact (applyIfStopped_commitsOnly _).lensKept.trans (hhalted.trans habort)

theorem resetCommand_lensKept (i : Instr) (tag : Tag) (p : Payload Nat) (s : State) :
    (resetCommand i tag p s).LensKept s := by
  unfold resetCommand
  dsimp only
  repeat' split
  · next full _ =>
    have hscope := resetScope_lensKept full (s.setLnk (lnkTake s.lnk tag))
    exact State.lensKept_ite hscope hscope
  all_goals exact .of_eq rfl

/-- Power-on reset leaves the drive without moves at positions 0 (R58, R80). -/
theorem resetLds_ordered (lens : LensSample) : (resetLds lens).Ordered :=
  ordered_of_noMoves (fun m => by cases m <;> exact Nat.zero_le _) (show 256 ≤ 4095 by decide)
    resetLensParams_levels_le (noMoves_eq_true.2 ⟨rfl, rfl, fun src => by cases src <;> rfl⟩)

/-! ### Every command and event -/

/-- The events that may change a motor's position: power-on reset, a step boundary and a reference step (R58). -/
def movesMotors : Instr → Bool
  | .powerOnReset _ | .stepBoundary _ _ | .referenceStep _ => true
  | _ => false

/-- Any other command or event keeps the drive in order and its motors where they are. -/
theorem exec_lensKept {i : Instr} (hi : movesMotors i = false) {s t : State} (h : exec i s = .next t) : t.LensKept s := by
  cases i with
  | powerOnReset | stepBoundary | referenceStep => cases hi
  | frameStart => cases h; exact frameStartPacket_lensKept s
  | frameEnd => cases h; exact frameEndPacket_lensKept s
  | frameTimeout => cases h; exact timeoutExpires_lensKept s
  | pathStop => cases h; exact hostCommand_lensKept fun _ => pathStop_lensKept
  | reset => cases h; exact resetCommand_lensKept ..
  | writeItemAcknowledged => cases h; exact itemAcknowledged_lensKept s
  | writeItemNotAcknowledged => cases h; exact itemNotAcknowledged_lensKept s
  | line => exact execLine_lensKept h
  | packetBoundary => exact execPacketBoundary_lensKept h
  | upstreamPacket => cases h; exact .of_eq rfl
  | unknownCommand => cases h; exact takeCommand_lensKept fun u => .refl u
  | pathSetup =>
    cases h
    refine hostCommand_lensKept fun a u => ?_
    unfold pathSetup
    dsimp only
    repeat' split
    all_goals exact .of_eq rfl
  | pathStart =>
    cases h
    refine hostCommand_lensKept fun _ u => ?_
    unfold pathStart
    split
    · exact .of_eq rfl
    · exact .refl u
  | statsSetup => cases h; exact hostCommand_lensKept fun _ _ => .of_eq rfl
  | aeMode => cases h; exact hostCommand_lensKept aeMode_lensKept
  | aeSetup => cases h; exact hostCommand_lensKept aeSetup_lensKept
  | aeManual => cases h; exact hostCommand_lensKept aeManual_lensKept
  | lensSetup => cases h; exact hostCommand_lensKept lensSetup_lensKept
  | focusMove => cases h; exact hostCommand_lensKept focusMove_lensKept
  | lensStop => cases h; exact hostCommand_lensKept fun _ => lensStop_lensKept
  | lensReference => cases h; exact hostCommand_lensKept fun _ => lensReference_lensKept
  | lensPark => cases h; exact hostCommand_lensKept fun _ => lensPark_lensKept
  | afSetup => cases h; exact hostCommand_lensKept afSetup_lensKept
  | afStart => cases h; exact hostCommand_lensKept fun _ => afStart_lensKept
  | afCancel => cases h; exact hostCommand_lensKept fun _ => afcCancel_lensKept
  | afHistory => cases h; exact hostCommand_lensKept fun _ u => .refl u
  | zoomSetup => cases h; exact hostCommand_lensKept zoomSetup_lensKept
  | zoomTo => cases h; exact hostCommand_lensKept zoomTo_lensKept
  | zoomBy => cases h; exact hostCommand_lensKept zoomBy_lensKept
  | zoomStop =>
    cases h
    exact hostCommand_lensKept fun _ u => (State.grant_lensKept _).trans (zmcStop_lensKept u)
  | stabMode =>
    cases h
    refine hostCommand_lensKept fun _ _ => ?_
    unfold stabModeCommand
    repeat' split
    all_goals exact .of_eq rfl
  | stabCenter => cases h; exact hostCommand_lensKept fun _ _ => .of_eq rfl
  | stabSetup =>
    cases h
    refine hostCommand_lensKept fun _ _ => ?_
    unfold stabSetup
    split <;> exact .of_eq rfl
  | storeSetup => cases h; exact hostCommand_lensKept storeSetup_lensKept
  | storeStart => cases h; exact hostCommand_lensKept fun _ => storeStart_lensKept
  | storeStop => cases h; exact hostCommand_lensKept fun _ => storeStop_lensKept
  | trigger => cases h; exact hostCommand_lensKept fun _ => triggerCommand_lensKept
  | accept =>
    cases h
    exact hostCommand_lensKept (slotCommand_lensKept fun u n => (autoRelease_lensKept ..).trans (setSlot_lensKept ..))
  | discard => cases h; exact hostCommand_lensKept (slotCommand_lensKept freeSlotAt_lensKept)
  | release => cases h; exact hostCommand_lensKept (slotCommand_lensKept freeSlotAt_lensKept)
  | fetch tag => cases h; exact hostCommand_lensKept (fetchCommand_lensKept tag)
  | sendAbort => cases h; exact hostCommand_lensKept fun _ => abortFetch_lensKept
  | noticeArm => cases h; exact hostCommand_lensKept fun _ u => .of_eq rfl
  | shutterSetup =>
    cases h
    refine hostCommand_lensKept fun _ _ => ?_
    unfold shutterSetup
    split <;> exact .of_eq rfl
  | conditionsSetup =>
    cases h
    refine hostCommand_lensKept fun _ _ => ?_
    unfold conditionsSetup
    split <;> exact .of_eq rfl
  | conditionsClear =>
    cases h
    refine hostCommand_lensKept fun _ _ => ?_
    unfold conditionsClear
    split <;> exact .of_eq rfl
  | tableLoad =>
    cases h
    refine hostCommand_lensKept fun _ _ => ?_
    unfold loadTable
    repeat' split
    all_goals exact .of_eq rfl
  | tableCommit => cases h; exact hostCommand_lensKept commitTable_lensKept
  | tableRead =>
    cases h
    refine hostCommand_lensKept fun _ _ => ?_
    unfold readTable
    repeat' split
    all_goals exact .refl _
  | statusQuery => cases h; exact hostCommand_lensKept fun _ u => .refl u
  | resetCompletion =>
    cases h
    unfold resetCompletes
    split
    · exact State.lensKept_ite (.of_eq rfl) (.refl s)
    · exact .refl s
  | rateSample => cases h; exact rateSample_lensKept ..
  | readback => cases h; exact takeReadback_lensKept ..
  | strobeRise => cases h; exact State.lensKept_ite (.refl s) (.of_eq rfl)
  | strobeFall => cases h; exact State.lensKept_ite (.of_eq rfl) (.refl s)
  | shutterLevelChange => cases h; exact rawChanges_lensKept ..
  | debounceExpiry => cases h; exact debounceExpires_lensKept ..
  | gateExpiry => cases h; exact State.lensKept_ite (gateExpires_lensKept s) (.refl s)
  | settleTimeout =>
    cases h
    exact State.lensKept_ite ((State.grant_lensKept _).trans (afcSettleSof_lensKept ..)) (.refl s)
  | timedLatchExpiry => cases h; exact State.lensKept_ite (.refl s) (.of_eq rfl)

/-- Every command and event keeps the drive in order. -/
theorem exec_ordered {i : Instr} {s t : State} (hs : s.lds.Ordered) (h : exec i s = .next t) : t.lds.Ordered := by
  by_cases hi : movesMotors i = false
  · exact (exec_lensKept hi h).ordered hs
  · cases i with
    | powerOnReset lines => cases h; exact resetLds_ordered lines.lens
    | stepBoundary sample b => cases h; exact stepBoundary_ordered hs sample b
    | referenceStep sample => cases h; exact referenceStep_ordered hs sample
    | _ => exact (hi rfl).elim

/-! ### What the order says of the stack (R67) -/

/-- Levels from 1 to 3 that rise strictly are at most three. -/
theorem length_le_three {xs : List Nat} (hp : xs.Pairwise (· < ·)) (hlow : ∀ x ∈ xs, 1 ≤ x) (hhigh : ∀ x ∈ xs, x ≤ 3) :
    xs.length ≤ 3 := by
  have hnodup : xs.Nodup := hp.imp fun h => Nat.ne_of_lt h
  have hsub : xs ⊆ [1, 2, 3] := fun x hx => by
    have := hlow x hx
    have := hhigh x hx
    simp only [List.mem_cons, List.not_mem_nil, or_false]
    omega
  exact (hnodup.subperm hsub).length_le

theorem stack_of_ordered {l : Lds} (h : l.Ordered) :
    l.stack.length ≤ 3 ∧ (l.stack.map (·.level)).Pairwise (· < ·) ∧ (l.stack.map (·.source)).Nodup := by
  obtain ⟨-, -, hlevel, hmoves⟩ := ordered_iff.1 h
  have hlevels : (l.stack.map (·.level)).Pairwise (· < ·) := List.pairwise_map.2 hmoves.levels
  have hof {x : Suspended} (hx : x ∈ l.stack) : x.level = l.level x.source ∧ 1 ≤ x.level := by
    obtain ⟨-, -, -, -, hlev, hone⟩ := h.suspended hx
    exact ⟨hlev, hone⟩
  refine ⟨?_, hlevels, ?_⟩
  · rw [← List.length_map (f := fun x : Suspended => x.level)]
    refine length_le_three hlevels (fun n hn => ?_) fun n hn => ?_
    · obtain ⟨x, hx, rfl⟩ := List.mem_map.1 hn
      exact (hof hx).2
    · obtain ⟨x, hx, rfl⟩ := List.mem_map.1 hn
      exact (hof hx).1 ▸ hlevel x.source
  · refine List.pairwise_map.2 (hmoves.levels.imp_of_mem fun {x y} hx hy hlt hsrc => ?_)
    rw [(hof hx).1, (hof hy).1, hsrc] at hlt
    exact Nat.lt_irrefl _ hlt

/-- Settles O6: each operation of the drive keeps the order (ldsPlace_ordered, grantLoop_ordered, stepBoundary_ordered), and
the other blocks reach the drive through requests and cancels alone. -/
theorem lensOrderKept : Obligations.LensOrderKept := by
  refine ⟨fun s t hs h => ?_, fun l hl => stack_of_ordered hl⟩
  unfold step at h
  split at h
  · cases h; exact hs
  · next i rest _ => exact exec_ordered (s := s.setPending rest) hs h

/-! ### Where a position changes (R58, R60, R66) -/

/-- Motor m has moved to position b, and no other; none has become valid. -/
structure Lds.SteppedTo (l' l : Lds) (m : Motor) (b : Nat) : Prop where
  pos : (l'.motor m).pos = b
  other : ∀ n, n ≠ m → (l'.motor n).pos = (l.motor n).pos
  valid : ∀ n, (l'.motor n).valid = true → (l.motor n).valid = true

/-- A step moves the motor of its move by one toward the destination, whatever its outcome (R60, R71). -/
theorem takeStep_steppedTo (s : State) (m : Move) (sample : LensSample) :
    (takeStep s m sample).lds.SteppedTo s.lds m.motor (stepToward (s.lds.motor m.motor).pos m.dest) := by
  rw [takeStep_eq]
  dsimp only
  generalize stepToward (s.lds.motor m.motor).pos m.dest = b
  have hlds := signalStep_lds (s.setLds (s.lds.stepped m.motor b sample)) m.motor
  rw [State.setLds_lds] at hlds
  generalize signalStep _ m.motor = u at hlds ⊢
  have hstep {t : State} (hpos : ∀ n, (t.lds.motor n).pos = (u.lds.motor n).pos)
      (hvalid : ∀ n, (t.lds.motor n).valid = true → (u.lds.motor n).valid = true) : t.lds.SteppedTo s.lds m.motor b := by
    refine ⟨?_, fun n hn => ?_, fun n hv => ?_⟩
    · rw [hpos, hlds, stepped_motor, if_pos rfl]
    · rw [hpos, hlds, stepped_motor, if_neg hn]
    · have := hvalid n hv
      rwa [hlds, stepped_valid] at this
  split
  · have hlost := losePosition_lensKept u m
    have hmotor (n : Motor) : (u.lds.release.lose m.motor).motor n =
        if n = m.motor then ⟨(u.lds.motor m.motor).pos, false⟩ else u.lds.motor n := lose_motor u.lds.release m.motor n
    refine hstep (fun n => (hlost.pos n).trans ?_) fun n hv => ?_
    · rw [State.setLds_lds, hmotor]
      split
      · next h => rw [h]
      · rfl
    · have hv' := hlost.valid n hv
      rw [State.setLds_lds, hmotor] at hv'
      split at hv'
      · cases hv'
      · exact hv'
  · split
    · have hmotor := (endComplete_controls u m).motor
      exact hstep (fun n => congrArg MotorState.pos (hmotor n)) fun n hv => hmotor n ▸ hv
    · exact hstep (fun n => congrArg MotorState.pos (Lds.motor_congr (l := u.lds) rfl rfl rfl n)) fun n hv =>
        (Lds.motor_congr (l := u.lds) (l' := u.lds.start _) rfl rfl rfl n) ▸ hv

/-- The destination of the step that a running move takes at a boundary: that of its new target where one is due (R61, R66). -/
def Lds.goal (l : Lds) (m : Move) : Nat :=
  if m.retarget then mainDest (l.motor m.motor).pos m.target (l.params.backlash m.motor) else m.dest

theorem boundaryOn_motors (s : State) (m : Move) (sample : LensSample) :
    (∀ n, (boundaryOn s m sample).lds.motor n = s.lds.motor n) ∨
    (boundaryOn s m sample).lds.SteppedTo s.lds m.motor (stepToward (s.lds.motor m.motor).pos (s.lds.goal m)) := by
  unfold boundaryOn Lds.goal
  cases preemptor s.lds m with
  | some b => exact .inl (preempt_controls ..).motor
  | none =>
    dsimp only
    split
    · split
      · exact .inl (endComplete_controls ..).motor
      · exact .inr (takeStep_steppedTo s (retargeted s.lds m) sample)
    · exact .inr (takeStep_steppedTo s m sample)

/-- A step boundary moves no motor, or that of the running move by one step (R66). -/
theorem stepBoundary_motors (s : State) (sample : LensSample) (b : Bool) :
    (∀ n, (stepBoundary s sample b).lds.motor n = s.lds.motor n) ∨
    ∃ x, s.lds.running = some x ∧ (stepBoundary s sample b).lds.SteppedTo s.lds x.motor
      (stepToward (s.lds.motor x.motor).pos (s.lds.goal x)) := by
  unfold stepBoundary
  cases s.lds.running with
  | none => exact .inl fun _ => rfl
  | some x =>
    dsimp only
    split
    · split
      · exact (boundaryOn_motors s { x with stop := false } sample).imp_right fun h => ⟨x, rfl, h⟩
      · exact .inl (endStopped_controls ..).motor
    · exact (boundaryOn_motors s x sample).imp_right fun h => ⟨x, rfl, h⟩

theorem nextPhase_motor (s : State) (m n : Motor) : (nextPhase s m).lds.motor n = s.lds.motor n := by
  cases m with
  | iris | focus => exact Lds.motor_congr rfl rfl rfl n
  | zoom => exact ((State.grant_controls _).motor n).trans (Lds.motor_congr rfl rfl rfl n)

/-- A reference step moves no motor, or finds the position of one, which becomes valid (R75 to R77). -/
theorem referenceStep_motors (s : State) (sample : LensSample) :
    (∀ n, (referenceStep s sample).lds.motor n = s.lds.motor n) ∨
    ∃ m, ∀ n, (referenceStep s sample).lds.motor n = if n = m then ⟨referencePoint s.lds.params m, true⟩ else s.lds.motor n := by
  cases hr : s.lds.reference with
  | none =>
    unfold referenceStep
    rw [hr]
    exact .inl fun _ => rfl
  | some r =>
    rw [referenceStep_eq hr]
    split
    · exact .inl fun n => ((State.grant_controls _).motor n).trans (Lds.motor_congr rfl rfl rfl n)
    · have hlds := signalStep_lds (s.setLds { s.lds with latched := latchSensors r.motor s.lds.latched sample }) r.motor
      rw [State.setLds_lds] at hlds
      dsimp only
      generalize signalStep _ r.motor = u at hlds ⊢
      have hmotor (n : Motor) : u.lds.motor n = s.lds.motor n := by
        rw [hlds]
        exact Lds.motor_congr rfl rfl rfl n
      split
      · refine .inr ⟨r.motor, fun n => ?_⟩
        rw [nextPhase_motor, State.setLds_lds, Lds.setMotor_motor, hmotor, hlds]
      · split
        · exact .inl fun n => (nextPhase_motor ..).trans (hmotor n)
        · exact .inl fun n => (Lds.motor_congr rfl rfl rfl n).trans (hmotor n)

/-- Settles O16: beside power-on reset a motor moves only in the one step of a boundary (stepBoundary_motors) or where a
reference finds it (referenceStep_motors). -/
theorem lensMovesOnlyInSteps : Obligations.LensMovesOnlyInSteps := by
  refine ⟨fun i s t m h hne => ?_, fun i s t m h hinvalid hvalid => ?_⟩
  · by_cases hi : movesMotors i = false
    · exact absurd ((exec_lensKept hi h).pos m) hne
    cases i with
    | powerOnReset lines => exact .inr (.inr ⟨lines, rfl⟩)
    | stepBoundary sample b =>
      cases h
      obtain hsame | ⟨x, hx, hstep⟩ := stepBoundary_motors s sample b
      · exact absurd (congrArg MotorState.pos (hsame m)) hne
      · have hm : m = x.motor := by_contra fun hm => hne (hstep.other m hm)
        subst hm
        refine .inl ⟨sample, b, x, rfl, hx, rfl, ?_, hstep.other⟩
        have hgoal : s.lds.goal x = if ¬ x.retarget = true then x.dest else
            mainDest (s.lds.motor x.motor).pos x.target (s.lds.params.backlash x.motor) := by
          unfold Lds.goal
          rw [ite_not]
        refine hstep.pos.trans ?_
        rw [hgoal]
        rfl
    | referenceStep sample =>
      cases h
      obtain hsame | ⟨n, hfound⟩ := referenceStep_motors s sample
      · exact absurd (congrArg MotorState.pos (hsame m)) hne
      · have hm : m = n := by_contra fun hm => hne (congrArg MotorState.pos ((hfound m).trans (if_neg hm)))
        subst hm
        have hat := (hfound m).trans (if_pos rfl)
        exact .inr (.inl ⟨sample, rfl, congrArg MotorState.pos hat, congrArg MotorState.valid hat,
          fun n hn => (hfound n).trans (if_neg hn)⟩)
    | _ => exact (hi rfl).elim
  · by_contra hnone
    have hfell : (t.lds.motor m).valid = true → (s.lds.motor m).valid = true := by
      by_cases hi : movesMotors i = false
      · exact (exec_lensKept hi h).valid m
      cases i with
      | powerOnReset lines =>
        cases h
        intro hv
        cases m <;> cases hv
      | stepBoundary sample b =>
        cases h
        obtain hsame | ⟨x, -, hstep⟩ := stepBoundary_motors s sample b
        · exact fun hv => hsame m ▸ hv
        · exact hstep.valid m
      | referenceStep sample => exact (hnone ⟨sample, rfl⟩).elim
      | _ => exact (hi rfl).elim
    rw [hfell hvalid] at hinvalid
    cases hinvalid

end Sys2Proof.Machine
end

section
/-! PROOF of the statement on LENS_SETUP (R72, R102), and two rules its fellows share: a command whose operation does not look
at the command buffer, and the drive with no move in hand. -/

namespace Sys2Proof.Machine

/-! ### A command whose operation does not look at the command buffer (R176, R177) -/

/-- Such a command does at its turn what the operation does, and is replied to. -/
theorem hostCommand_ignoring {α : Type} {i : Instr} {s : State} {tag : Tag} {code : Byte} {a : α}
    {block : α → State → State × Answer} {x : Answer} {f : State → State} (h : s.turnOf i) (hf : IgnoresBuffer f)
    (hlnk : (f s).lnk = s.lnk) (hb : block a (s.setLnk (lnkTake s.lnk tag)) = (f (s.setLnk (lnkTake s.lnk tag)), x)) :
    hostCommand i tag code (.args a) block s = (f s).replied tag code x := by
  refine hostCommand_replied h hlnk (hb.trans (congrArg (·, x) ((hf s (takePlace tag s.lnk.buffer)).trans ?_)))
  unfold State.withBuffer
  rw [hlnk]
  rfl

/-! ### The drive with no move in hand -/

theorem idle_of_noMoves {l : Lds} (h : l.noMoves = true) (href : l.reference = none) : l.idle = true := by
  simp [Lds.idle, (noMoves_eq_true.1 h).1, href]

/-- A cancel finds nothing where no move is in hand (R70). -/
theorem ldsCancel_of_noMoves {l : Lds} (h : l.noMoves = true) (src : Source) : ldsCancel l src = l := by
  obtain ⟨hrunning, hstack, hslots⟩ := noMoves_eq_true.1 h
  have hset : l.slots.set src none = l.slots := by
    rw [← hslots src]
    cases src <;> rfl
  unfold ldsCancel
  rw [hset, hrunning, hstack]
  change ({ l with running := none, stack := [] } : Lds) = l
  rw [← hrunning, ← hstack]

/-! ### AFC loses the focus (R82, R102) -/

theorem afcFail_ignores (r : FailReason) : IgnoresBuffer (afcFail · r) := fun s =>
  afcEnter_ignores .failed (((s.cancelMove .af).setAfc { s.afc.unlocked with failure := some r, scan := none }).raise condAfFailed)

theorem afcFocusInvalid_ignores : IgnoresBuffer afcFocusInvalid := fun s b =>
  ite_withBuffer Iff.rfl (afcFail_ignores .lost s b) rfl

/-- AFC scans or holds a lock in every state but IDLE and FAILED. -/
theorem afState_focusing_iff (x : AfState) : (x.inScan || x.lockedOn) = true ↔ x ≠ .idle ∧ x ≠ .failed := by
  cases x <;> decide

/-- AFC fails: beside it only AEC, AF's own move and the conditions change, and AF_FAILED is latched. -/
theorem afcFail_eq (s : State) (r : FailReason) : ∃ a c, afcFail s r =
      (((s.cancelMove .af).setAfc { s.afc.unlocked with failure := some r, scan := none, state := .failed }).setAec a).setCnd c ∧
    (condAfFailed < s.cnd.conditions.length → (c.condition condAfFailed).latch = true) := by
  obtain ⟨a, c, henter, hagree⟩ := afcEnter_eq
    (((s.cancelMove .af).setAfc { s.afc.unlocked with failure := some r, scan := none }).raise condAfFailed) .failed
  refine ⟨a, c, henter, fun hlen => ?_⟩
  rw [(hagree condAfFailed (by decide)).1]
  exact cndRaise_latch hlen

/-- LDS, AFC, AEC and the conditions changed and put back: the REPLY is left. -/
theorem replied_undone (s : State) (l : Lds) (f : Afc) (e : Aec) (c : Cnd) (tag : Tag) (code : Byte) (x : Answer) :
    ((((((((s.setLds l).setAfc f).setAec e).setCnd c).replied tag code x).setLds s.lds).setAfc s.afc).setAec s.aec).setCnd
      s.cnd = s.replied tag code x := by
  cases s
  rfl

/-! ### LENS_SETUP -/

section
variable {s : State} {tag : Tag} {a : LensSetupArgs}

theorem lensStructural_eq_true : lensStructural a = true ↔
    (∀ src, perSource a.levels src ≤ 3) ∧ a.parkClass ≤ 3 ∧ a.trackClass ≤ 3 ∧ a.afClass ≤ 3 := by
  unfold lensStructural
  rw [Bool.and_eq_true, decide_eq_true_eq, List.all_eq_true]
  exact and_congr_left' ⟨fun h src => of_decide_eq_true (h src (mem_sourceOrder src)), fun h src _ => decide_eq_true (h src)⟩

theorem lensParamsOf_eq (a : LensSetupArgs) : lensParamsOf a = ⟨a.levels, a.parkClass, a.trackClass, a.afClass,
    min 31 a.zoomBacklash, min 31 a.focusBacklash, min 4095 a.homePos, min 15 a.homeTol⟩ := by
  simp only [lensParamsOf, clampNat_zero]

theorem lensClamped_eq_true : lensClamped a = true ↔
    ¬ (a.zoomBacklash ≤ 31 ∧ a.focusBacklash ≤ 31 ∧ a.homePos ≤ 4095 ∧ a.homeTol ≤ 15) := by
  unfold lensClamped
  simp only [Bool.or_eq_true, clampArg_changed_eq_true, clampNat_zero]
  omega

theorem lensSetupTaken_ignores (p : LensParams) : IgnoresBuffer (lensSetupTaken · p) := by
  intro s b
  refine ite_withBuffer Iff.rfl (ite_withBuffer Iff.rfl ?_ rfl) rfl
  exact afcFocusInvalid_ignores (s.setLds _) b

theorem lensSetupTaken_lnk (s : State) (p : LensParams) : (lensSetupTaken s p).lnk = s.lnk := by
  unfold lensSetupTaken
  dsimp only
  split
  · split
    · exact (afcFocusInvalid_controls _).lnk
    · rfl
  · rfl

theorem exec_lensSetup_busy (h : s.turnOf (.lensSetup tag (.args a)))
    (hbusy : s.lds.noMoves = false ∨ s.lds.reference.isSome = true) :
    exec (.lensSetup tag (.args a)) s = .next (s.replied tag 8 (answer .refusedBusy)) := by
  refine congrArg Host.Outcome.next (hostCommand_unchanged h (if_pos ?_))
  change (!(s.lds.idle && s.lds.noMoves)) = true
  rcases hbusy with hmoves | href
  · simp [hmoves]
  · simp [Lds.idle, href]

theorem exec_lensSetup_arg (h : s.turnOf (.lensSetup tag (.args a))) (hmoves : s.lds.noMoves = true)
    (href : s.lds.reference = none) (harg : lensStructural a = false) :
    exec (.lensSetup tag (.args a)) s = .next (s.replied tag 8 (answer .refusedArg)) := by
  refine congrArg Host.Outcome.next (hostCommand_unchanged h ((if_neg ?_).trans (if_pos ?_)))
  · change ¬ (!(s.lds.idle && s.lds.noMoves)) = true
    simp [idle_of_noMoves hmoves href, hmoves]
  · rw [harg]
    rfl

theorem exec_lensSetup_taken (h : s.turnOf (.lensSetup tag (.args a))) (hmoves : s.lds.noMoves = true)
    (href : s.lds.reference = none) (harg : lensStructural a = true) :
    exec (.lensSetup tag (.args a)) s = .next ((lensSetupTaken s (lensParamsOf a)).replied tag 8
      (answer (clampedStatus (lensClamped a) .done))) := by
  refine congrArg Host.Outcome.next
    (hostCommand_ignoring (f := (lensSetupTaken · (lensParamsOf a))) h (lensSetupTaken_ignores _) (lensSetupTaken_lnk s _)
      ((if_neg ?_).trans (if_neg ?_)))
  · change ¬ (!(s.lds.idle && s.lds.noMoves)) = true
    simp [idle_of_noMoves hmoves href, hmoves]
  · rw [harg]
    exact Bool.false_ne_true

end

theorem lensSetupTaken_of_same {s : State} {p : LensParams} (h : p.homePos = s.lds.params.homePos) :
    lensSetupTaken s p = s.setLds { s.lds with params := p } := if_neg (by simp [h])

theorem lensSetupTaken_of_moved {s : State} {p : LensParams} (h : p.homePos ≠ s.lds.params.homePos) :
    lensSetupTaken s p = if s.lds.focus.valid
      then afcFocusInvalid (s.setLds { s.lds with params := p, focus := ⟨s.lds.focus.pos, false⟩ })
      else s.setLds { s.lds with params := p, focus := ⟨s.lds.focus.pos, false⟩ } := if_pos (decide_eq_true h)

/-- A moved home position without a focus to lose for AFC. -/
theorem lensSetupTaken_of_not_lost {s : State} {p : LensParams} (h : p.homePos ≠ s.lds.params.homePos)
    (hkept : ¬ (s.lds.focus.valid = true ∧ (s.afc.state.inScan || s.afc.state.lockedOn) = true)) :
    lensSetupTaken s p = s.setLds { s.lds with params := p, focus := ⟨s.lds.focus.pos, false⟩ } := by
  rw [lensSetupTaken_of_moved h]
  by_cases hvalid : s.lds.focus.valid = true
  · rw [if_pos hvalid]
    exact if_neg fun hstate => hkept ⟨hvalid, hstate⟩
  · rw [if_neg hvalid]

/-- A moved home position that AFC loses its focus by. -/
theorem lensSetupTaken_of_lost {s : State} {p : LensParams} (h : p.homePos ≠ s.lds.params.homePos)
    (hvalid : s.lds.focus.valid = true) (hstate : (s.afc.state.inScan || s.afc.state.lockedOn) = true) :
    lensSetupTaken s p =
      afcFail (s.setLds { s.lds with params := p, focus := ⟨s.lds.focus.pos, false⟩ }) .lost := by
  rw [lensSetupTaken_of_moved h, if_pos hvalid]
  exact if_pos hstate

/-- Settles O35, by the order of the checks and by whether the home position moves and AFC has a focus to lose. -/
theorem lensSetupWritesParameters : Obligations.LensSetupWritesParameters := by
  intro s tag a h
  refine ⟨exec_lensSetup_busy h, fun hmoves href harg => exec_lensSetup_arg h hmoves href ?_,
    fun hmoves href hlevels hpark htrack haf => ?_⟩
  · rw [Bool.eq_false_iff, ne_eq, lensStructural_eq_true]
    rintro ⟨hlevels, hpark, htrack, haf⟩
    rcases harg with ⟨src, hsrc⟩ | harg
    · exact absurd (hlevels src) (Nat.not_le.2 hsrc)
    · omega
  intro p status lost
  have htaken := exec_lensSetup_taken h hmoves href (lensStructural_eq_true.2 ⟨hlevels, hpark, htrack, haf⟩)
  rw [lensParamsOf_eq, clampedStatus_eq lensClamped_eq_true] at htaken
  change _ = Host.Outcome.next ((lensSetupTaken s p).replied tag 8 (answer status)) at htaken
  rw [htaken]
  refine ⟨fun hsame => by rw [lensSetupTaken_of_same hsame], fun hmoved hlost => ?_, ?_⟩
  · rw [lensSetupTaken_of_not_lost hmoved fun ⟨hvalid, hstate⟩ => hlost ⟨hmoved, hvalid, (afState_focusing_iff _).1 hstate⟩]
  · rintro ⟨hmoved, hvalid, hstate⟩ hlen
    rw [lensSetupTaken_of_lost hmoved hvalid ((afState_focusing_iff _).2 hstate)]
    obtain ⟨b, c, hfail, hlatch⟩ :=
      afcFail_eq (s.setLds { s.lds with params := p, focus := ⟨s.lds.focus.pos, false⟩ }) .lost
    have hlt : condAfFailed < s.cnd.conditions.length := by
      rw [hlen]
      decide
    rw [hfail]
    exact ⟨_, rfl, ldsCancel_of_noMoves (l := { s.lds with params := p, focus := ⟨s.lds.focus.pos, false⟩ }) hmoves .af,
      rfl, rfl, rfl, rfl, hlatch hlt,
      replied_undone s _ _ b c tag 8 (answer status)⟩

end Sys2Proof.Machine
end

section
/-! PROOF of the statement on FOCUS_MOVE (R60, R61, R63 to R65, R69, R73), with the rules of one grant (R65): of a granted move,
and of a request placed on a drive with no move in hand. -/

namespace Sys2Proof.Machine

/-! ### A granted move (R61, R65) -/

/-- A granted request has no travel where its motor stands at the target (R61). -/
theorem atRest_moveOf {l : Lds} {src : Source} {r : Request} :
    (moveOf l src r).atRest (l.motor r.motor).pos = true ↔ (l.motor r.motor).pos = r.target := by
  unfold Move.atRest moveOf mainDest
  rw [decide_eq_true_eq]
  split <;> dsimp only <;> omega

/-- A granted request with travel starts (R65). -/
theorem grantOne_of_travel {s : State} {l : Lds} {src : Source} {r : Request} (hmotor : l.motor r.motor = s.lds.motor r.motor)
    (h : (s.lds.motor r.motor).pos ≠ r.target) :
    grantOne s (moveOf l src r) = (false, tellGrant (s.setLds (s.lds.start (moveOf l src r))) src) := by
  refine if_neg fun hrest => h ?_
  rw [← hmotor]
  exact atRest_moveOf.1 (hmotor ▸ hrest)

/-- A granted request whose motor stands at the target completes at once (R65). -/
theorem grantOne_of_rest {s : State} {l : Lds} {src : Source} {r : Request} (hmotor : l.motor r.motor = s.lds.motor r.motor)
    (h : (s.lds.motor r.motor).pos = r.target) :
    grantOne s (moveOf l src r) = (true, moveComplete (tellGrant s src) src) := by
  refine if_pos ?_
  rw [← hmotor] at h
  have hrest := (atRest_moveOf (src := src)).2 h
  rw [hmotor] at hrest
  exact hrest

/-- AFC is told of ZOOM's moves only (R65). -/
theorem tellGrant_of_ne (s : State) {src : Source} (h : src ≠ .zoom) : tellGrant s src = s := if_neg h

/-! ### A request placed on a drive with no move in hand (R63, R65) -/

/-- A busy drive grants nothing. -/
theorem grantLoop_of_not_idle {s : State} (h : s.lds.idle = false) (k : Nat) : grantLoop k s = s := by
  cases k with
  | zero => rfl
  | succ k =>
    unfold grantLoop
    rw [h]
    rfl

theorem Request.clamped_of_le {r : Request} (h : r.target ≤ motorTop r.motor) : r.clamped = r := by
  unfold Request.clamped
  rw [Nat.min_eq_right h]

/-- A request of a source without a running or suspended move waits in its slot (R63). -/
theorem ldsPlace_of_free {l : Lds} {src : Source} {r : Request} (hrunning : ∀ m, l.running = some m → m.source ≠ src)
    (hsuspends : l.suspends src = false) (hvalid : (l.motor r.motor).valid = true) (htop : r.target ≤ motorTop r.motor) :
    ldsPlace l src r = { l with slots := l.slots.set src (some r) } := by
  rcases ldsPlace_cases l src r with ⟨hinvalid, -⟩ | ⟨-, ⟨m, hm, hsrc, -⟩ | ⟨-, hs, -⟩ | ⟨-, -, hplace⟩⟩
  · exact absurd hvalid (by simp [hinvalid])
  · exact absurd hsrc (hrunning m hm)
  · exact absurd hs (by simp [hsuspends])
  · rw [hplace, Request.clamped_of_le htop]

theorem ldsPlace_of_noMoves {l : Lds} {src : Source} {r : Request} (hidle : l.noMoves = true)
    (hvalid : (l.motor r.motor).valid = true) (htop : r.target ≤ motorTop r.motor) :
    ldsPlace l src r = { l with slots := l.slots.set src (some r) } := by
  obtain ⟨hrunning, hstack, -⟩ := noMoves_eq_true.1 hidle
  exact ldsPlace_of_free (by simp [hrunning]) (by simp [Lds.suspends, hstack]) hvalid htop

/-- The grant takes the one request that is pending. -/
theorem grantLoop_place {v : State} {src : Source} {r : Request} (hidle : v.lds.noMoves = true) (href : v.lds.reference = none)
    (hvalid : (v.lds.motor r.motor).valid = true) (htop : r.target ≤ motorTop r.motor) (k : Nat) :
    grantLoop (k + 1) (v.place src r) =
      let g := grantOne v (moveOf v.lds src r)
      if g.1 then grantLoop k g.2 else g.2 := by
  have hdrive : ({ v.lds with slots := v.lds.slots.set src (some r) } : Lds).idle = true :=
    idle_of_noMoves (l := v.lds) hidle href
  unfold State.place
  rw [ldsPlace_of_noMoves hidle hvalid htop, grantLoop, State.setLds_lds, if_pos hdrive, choose_of_noMoves hidle]
  dsimp only
  rw [State.setLds_setLds, slots_set_none_of_noMoves hidle]
  rfl

/-- It starts where it has travel. -/
theorem grantLoop_place_starts {v : State} {src : Source} {r : Request} (hidle : v.lds.noMoves = true)
    (href : v.lds.reference = none) (hvalid : (v.lds.motor r.motor).valid = true) (htop : r.target ≤ motorTop r.motor)
    (hsrc : src ≠ .zoom) (k : Nat) (h : (v.lds.motor r.motor).pos ≠ r.target) :
    grantLoop (k + 1) (v.place src r) = v.setLds (v.lds.start (moveOf v.lds src r)) := by
  rw [grantLoop_place hidle href hvalid htop, grantOne_of_travel rfl h]
  exact tellGrant_of_ne _ hsrc

/-- It completes at once where its motor stands at the target, and the next grant follows. -/
theorem grantLoop_place_completes {v : State} {src : Source} {r : Request} (hidle : v.lds.noMoves = true)
    (href : v.lds.reference = none) (hvalid : (v.lds.motor r.motor).valid = true) (htop : r.target ≤ motorTop r.motor)
    (hsrc : src ≠ .zoom) (k : Nat) (h : (v.lds.motor r.motor).pos = r.target) :
    grantLoop (k + 1) (v.place src r) = grantLoop k (moveComplete v src) := by
  rw [grantLoop_place hidle href hvalid htop, grantOne_of_rest rfl h, tellGrant_of_ne _ hsrc]
  rfl

/-! ### FOCUS_MOVE -/

section
variable {s : State} {tag : Tag} {a : MoveArgs}

theorem place_ignores (src : Source) (r : Request) : IgnoresBuffer (State.place · src r) := fun _ _ => rfl

theorem exec_focusMove_arg (h : s.turnOf (.focusMove tag (.args a))) (hspeed : 3 < a.speed) :
    exec (.focusMove tag (.args a)) s = .next (s.replied tag 9 (answer .refusedArg)) :=
  congrArg Host.Outcome.next (hostCommand_unchanged h (if_pos hspeed))

theorem exec_focusMove_mode (h : s.turnOf (.focusMove tag (.args a))) (hspeed : a.speed ≤ 3) (hmode : s.afc.mode ≠ .manual) :
    exec (.focusMove tag (.args a)) s = .next (s.replied tag 9 (answer .refusedState)) :=
  congrArg Host.Outcome.next (hostCommand_unchanged h ((if_neg (Nat.not_lt.2 hspeed)).trans (if_pos hmode)))

theorem exec_focusMove_unreferenced (h : s.turnOf (.focusMove tag (.args a))) (hspeed : a.speed ≤ 3)
    (hmode : s.afc.mode = .manual) (hvalid : s.lds.focus.valid = false) :
    exec (.focusMove tag (.args a)) s = .next (s.replied tag 9 (answer .refusedUnreferenced)) := by
  refine congrArg Host.Outcome.next (hostCommand_unchanged h
    ((if_neg (Nat.not_lt.2 hspeed)).trans ((if_neg (not_not.2 hmode)).trans (if_pos ?_))))
  change (!s.lds.focus.valid) = true
  rw [hvalid]
  rfl

/-- FOCUS_MOVE is taken: MANUAL's request is placed, and the grant runs (R73). -/
theorem exec_focusMove_taken (h : s.turnOf (.focusMove tag (.args a))) (hspeed : a.speed ≤ 3) (hmode : s.afc.mode = .manual)
    (hvalid : s.lds.focus.valid = true) :
    exec (.focusMove tag (.args a)) s = .next ((s.place .manual ⟨.focus, min 4095 a.target, a.speed⟩).grant.replied tag 9
      (answer (if a.target ≤ 4095 then .accepted else .doneClamped))) := by
  have hstatus : clampedStatus (clampArg 0 4095 a.target).changed .accepted =
      if a.target ≤ 4095 then .accepted else .doneClamped :=
    clampedStatus_eq (by rw [clampArg_changed_eq_true, clampNat_zero]; omega) _
  rw [← hstatus, ← clampNat_zero]
  refine congrArg Host.Outcome.next (hostCommand_ignoring
    (f := fun u => (u.place .manual ⟨.focus, clampNat 0 4095 a.target, a.speed⟩).grant) h
    (fun u b => (congrArg State.grant (place_ignores _ _ u b)).trans (grant_ignores _ b)) (State.grant_lnk _)
    ((if_neg (Nat.not_lt.2 hspeed)).trans ((if_neg (not_not.2 hmode)).trans (if_neg ?_))))
  change ¬ (!s.lds.focus.valid) = true
  rw [hvalid]
  exact Bool.false_ne_true

end

/-- The step periods of the three motors (R60). -/
theorem stepPeriod_eq {c : Nat} (h : c < 4) : stepPeriod .zoom c = [2000, 1000, 625, 500].getD c 0 ∧
    stepPeriod .focus c = [1000, 500, 333, 250].getD c 0 ∧ stepPeriod .iris c = 1500 := by
  interval_cases c <;> decide

/-- Settles O36: with the drive free the request is the one that the grant takes; behind another source's move it waits. -/
theorem focusMoveRequestsManualMove : Obligations.FocusMoveRequestsManualMove := by
  refine ⟨fun c => stepPeriod_eq, fun s tag a h => ?_⟩
  intro target accepted
  have htop : target ≤ motorTop .focus := Nat.min_le_left ..
  refine ⟨exec_focusMove_arg h, exec_focusMove_mode h, exec_focusMove_unreferenced h,
    fun hspeed hmode hvalid hidle href hpos => ?_, fun hspeed hmode hvalid hidle href hpos => ?_,
    fun m hspeed hmode hvalid hrunning hm hstack => ?_⟩ <;> rw [exec_focusMove_taken h hspeed hmode hvalid]
  · have hstart := grantLoop_place_starts (src := .manual) (r := ⟨.focus, target, a.speed⟩) hidle href hvalid htop nofun 63 hpos
    exact congrArg (fun u : State => Host.Outcome.next (u.replied tag 9 accepted)) hstart
  · have hrest := grantLoop_place_completes (src := .manual) (r := ⟨.focus, target, a.speed⟩) hidle href hvalid htop nofun 63 hpos
    have hdone : (s.place .manual ⟨.focus, target, a.speed⟩).grant = s.raise condMoveDone :=
      hrest.trans (grantLoop_of_noMoves (s := s.raise condMoveDone) hidle 63)
    exact congrArg (fun u : State => Host.Outcome.next (u.replied tag 9 accepted)) hdone
  · have hother (n : Move) (hn : s.lds.running = some n) : n.source ≠ .manual := Option.some.inj (hrunning.symm.trans hn) ▸ hm
    have hplace : s.place .manual ⟨.focus, target, a.speed⟩ =
        s.setLds { s.lds with slots := { s.lds.slots with manual := some ⟨.focus, target, a.speed⟩ } } :=
      congrArg s.setLds (ldsPlace_of_free hother (suspends_eq_false.2 hstack) hvalid htop)
    have hbusy : (s.place .manual ⟨.focus, target, a.speed⟩).lds.idle = false := by
      rw [hplace]
      change (s.lds.running.isNone && _) = false
      rw [hrunning]
      rfl
    have hgrant : (s.place .manual ⟨.focus, target, a.speed⟩).grant =
        s.setLds { s.lds with slots := { s.lds.slots with manual := some ⟨.focus, target, a.speed⟩ } } :=
      (grantLoop_of_not_idle hbusy 64).trans hplace
    exact congrArg (fun u : State => Host.Outcome.next (u.replied tag 9 accepted)) hgrant

end Sys2Proof.Machine
end

section
/-! PROOF of the statement on LENS_REFERENCE and its phases (R65, R75 to R77). -/

namespace Sys2Proof.Machine

/-! ### The checks of R75, which LENS_PARK has too (R78) -/

theorem taken_eq_true {l : Lds} : l.taken = true ↔ l.reference.isSome = true ∨ l.park.isSome = true := Bool.or_eq_true_iff

theorem taken_eq_false {l : Lds} (href : l.reference = none) (hpark : l.park = none) : l.taken = false := by
  simp [Lds.taken, href, hpark]

theorem lensFree_eq_true {s : State} : lensFree s = true ↔
    s.aec.state = .off ∧ (s.afc.state = .idle ∨ s.afc.mode = .manual) ∧ s.zmc.mode = .idle ∧ s.lds.noMoves = true := by
  simp only [lensFree, Bool.and_eq_true, decide_eq_true_eq, and_assoc]

theorem lensFree_eq_false {s : State} (h : s.aec.state ≠ .off ∨ (s.afc.state ≠ .idle ∧ s.afc.mode ≠ .manual) ∨
    s.zmc.mode ≠ .idle ∨ s.lds.noMoves = false) : lensFree s = false := by
  rw [Bool.eq_false_iff, ne_eq, lensFree_eq_true]
  rintro ⟨haec, hafc, hzmc, hmoves⟩
  rcases h with h | ⟨hstate, hmode⟩ | h | h
  · exact h haec
  · exact hafc.elim hstate hmode
  · exact h hzmc
  · exact absurd hmoves (by simp [h])

/-! ### LENS_REFERENCE -/

section
variable {s : State} {tag : Tag}

theorem exec_lensReference_busy (h : s.turnOf (.lensReference tag (.args ()))) (htaken : s.lds.taken = true) :
    exec (.lensReference tag (.args ())) s = .next (s.replied tag 11 (answer .refusedBusy)) :=
  congrArg Host.Outcome.next (hostCommand_unchanged h (if_pos htaken))

theorem exec_lensReference_state (h : s.turnOf (.lensReference tag (.args ()))) (htaken : s.lds.taken = false)
    (hfree : lensFree s = false) :
    exec (.lensReference tag (.args ())) s = .next (s.replied tag 11 (answer .refusedState)) :=
  congrArg Host.Outcome.next (hostCommand_unchanged h
    ((if_neg (ne_true_of_eq_false htaken)).trans (if_pos (congrArg (!·) hfree))))

theorem exec_lensReference_taken (h : s.turnOf (.lensReference tag (.args ()))) (htaken : s.lds.taken = false)
    (hfree : lensFree s = true) :
    exec (.lensReference tag (.args ())) s = .next ((s.setLds s.lds.beginReference).replied tag 11 (answer .accepted)) :=
  congrArg Host.Outcome.next (hostCommand_replied (t := s.setLds s.lds.beginReference) h rfl
    ((if_neg (ne_true_of_eq_false htaken)).trans (if_neg (ne_true_of_eq_false (congrArg (!·) hfree)))))

end

/-! ### A step of a phase (R76, R77) -/

/-- The state with the step signalled and the sensors latched. -/
def State.sensed (s : State) (m : Motor) (sample : LensSample) : State :=
  signalStep (s.setLds { s.lds with latched := latchSensors m s.lds.latched sample }) m

@[simp] theorem State.sensed_lds (s : State) (m : Motor) (sample : LensSample) :
    (s.sensed m sample).lds = { s.lds with latched := latchSensors m s.lds.latched sample } := signalStep_lds _ m

section
variable {s : State} {r : Reference} {sample : LensSample}

/-- A reference marked for stop ends (R77). -/
theorem referenceStep_of_stop (hr : s.lds.reference = some r) (h : r.stop = true) :
    referenceStep s sample = (s.setLds s.lds.endReference).grant := by
  rw [referenceStep_eq hr, if_pos h]

/-- A phase finds its reference point. -/
theorem referenceStep_of_found (hr : s.lds.reference = some r) (h : r.stop = false) (hfound : phaseFound r sample = true) :
    referenceStep s sample = nextPhase ((s.sensed r.motor sample).setLds
      ((s.sensed r.motor sample).lds.setMotor r.motor ⟨referencePoint s.lds.params r.motor, true⟩)) r.motor := by
  rw [referenceStep_eq hr, if_neg (ne_true_of_eq_false h)]
  refine (if_pos hfound).trans ?_
  change nextPhase ((s.sensed r.motor sample).setLds ((s.sensed r.motor sample).lds.setMotor r.motor
    ⟨referencePoint (s.sensed r.motor sample).lds.params r.motor, true⟩)) r.motor = _
  rw [State.sensed_lds]

/-- A phase's steps run out. -/
theorem referenceStep_of_spent (hr : s.lds.reference = some r) (h : r.stop = false) (hfound : phaseFound r sample = false)
    (hspent : phaseLimit r.motor ≤ r.steps + 1) :
    referenceStep s sample = nextPhase ((s.sensed r.motor sample).raise condLensFault) r.motor := by
  rw [referenceStep_eq hr, if_neg (ne_true_of_eq_false h)]
  exact (if_neg (ne_true_of_eq_false hfound)).trans (if_pos hspent)

/-- A phase goes on. -/
theorem referenceStep_of_seeking (hr : s.lds.reference = some r) (h : r.stop = false) (hfound : phaseFound r sample = false)
    (hspent : r.steps + 1 < phaseLimit r.motor) :
    referenceStep s sample = (s.sensed r.motor sample).setLds { s.lds with
      latched := latchSensors r.motor s.lds.latched sample
      reference := some ⟨r.motor, r.steps + 1, r.seeking || !phaseLevel sample r.motor, false⟩
      timer := some (referencePeriod s.lds r.motor) } := by
  rw [referenceStep_eq hr, if_neg (ne_true_of_eq_false h)]
  refine (if_neg (ne_true_of_eq_false hfound)).trans ((if_neg (Nat.not_le.2 hspent)).trans ?_)
  change (s.sensed r.motor sample).setLds { (s.sensed r.motor sample).lds with
    reference := some ⟨r.motor, r.steps + 1, r.seeking || !phaseLevel sample r.motor, false⟩
    timer := some (referencePeriod (s.sensed r.motor sample).lds r.motor) } = _
  rw [State.sensed_lds]
  rfl

/-! ### The three phases -/

/-- An operation that makes no moves leaves the grant with nothing to do. -/
theorem grant_of_noMoves_eq {t u : State} (h : t.lds.noMoves = u.lds.noMoves) (hidle : u.lds.noMoves = true) : t.grant = t :=
  grantLoop_of_noMoves (h.trans hidle) 64

/-- AEC, LDS and the store put back: an iris step changes nothing else (R38, R142). -/
theorem iris_undone (s : State) (sample : LensSample) (l : Lds) :
    ((((s.sensed .iris sample).setLds l).setAec s.aec).setLds s.lds).setCst s.cst = s := by
  cases s
  rfl

/-- The iris phase: its reference point is its 60th step (R76). -/
theorem irisPhase {n : Nat} {k : Bool} (hr : s.lds.reference = some ⟨.iris, n, k, false⟩) :
    ∃ t, exec (.referenceStep sample) s = .next t ∧ t.aec = { s.aec with irisMoved := true } ∧
      (n + 1 < 60 → t.lds = { s.lds with
        reference := some ⟨.iris, n + 1, true, false⟩, timer := some 1500, latched := s.lds.latched }) ∧
      (60 ≤ n + 1 → t.lds = { s.lds with
        iris := ⟨0, true⟩, reference := some ⟨.focus, 0, !s.lds.latched.home, false⟩
        timer := some (stepPeriod .focus s.lds.params.parkClass) }) ∧
      ((t.setAec s.aec).setLds s.lds).setCst s.cst = s := by
  rcases Nat.lt_or_ge (n + 1) 60 with hlt | hge
  · have hstep := referenceStep_of_seeking (sample := sample) hr rfl (decide_eq_false (Nat.not_le.2 hlt)) hlt
    rw [show (k || !phaseLevel sample .iris) = true from Bool.or_true k] at hstep
    exact ⟨_, congrArg Host.Outcome.next hstep, rfl, fun _ => rfl, fun h => absurd h (Nat.not_le.2 hlt), iris_undone s sample _⟩
  · have hstep := referenceStep_of_found (sample := sample) hr rfl (decide_eq_true hge)
    exact ⟨_, congrArg Host.Outcome.next hstep, rfl, fun h => absurd h (Nat.not_lt.2 hge), fun _ => rfl, iris_undone s sample _⟩

/-- The focus phase: its reference point is an edge of the home sensor reached while seeking (R76, R77). -/
theorem focusPhase {n : Nat} {k : Bool} (hr : s.lds.reference = some ⟨.focus, n, k, false⟩) :
    let l := { s.lds with latched := { s.lds.latched with home := sample.home } }
    ∃ t, exec (.referenceStep sample) s = .next t ∧ t.aec = s.aec ∧
      (k = true → sample.home = true → t.cnd = s.cnd ∧ t.lds = { l with
        focus := ⟨s.lds.params.homePos, true⟩, reference := some ⟨.zoom, 0, !s.lds.latched.wide, false⟩
        timer := some (stepPeriod .zoom s.lds.params.parkClass) }) ∧
      (¬ (k = true ∧ sample.home = true) → n + 1 < 4200 → t.cnd = s.cnd ∧ t.lds = { l with
        reference := some ⟨.focus, n + 1, k || !sample.home, false⟩
        timer := some (stepPeriod .focus s.lds.params.parkClass) }) ∧
      (¬ (k = true ∧ sample.home = true) → 4200 ≤ n + 1 → t.cnd = cndRaise s.cnd condLensFault ∧ t.lds = { l with
        reference := some ⟨.zoom, 0, !s.lds.latched.wide, false⟩
        timer := some (stepPeriod .zoom s.lds.params.parkClass) }) := by
  intro l
  by_cases hfound : k = true ∧ sample.home = true
  · have hstep := referenceStep_of_found (sample := sample) hr rfl (Bool.and_eq_true_iff.2 hfound)
    exact ⟨_, congrArg Host.Outcome.next hstep, rfl, fun _ _ => ⟨rfl, rfl⟩, fun h => absurd hfound h, fun h => absurd hfound h⟩
  · have hnot : phaseFound ⟨.focus, n, k, false⟩ sample = false := Bool.eq_false_iff.2 (hfound ∘ Bool.and_eq_true_iff.1)
    rcases Nat.lt_or_ge (n + 1) 4200 with hlt | hge
    · have hstep := referenceStep_of_seeking (sample := sample) hr rfl hnot hlt
      exact ⟨_, congrArg Host.Outcome.next hstep, rfl, fun hk hhome => absurd ⟨hk, hhome⟩ hfound, fun _ _ => ⟨rfl, rfl⟩,
        fun _ h => absurd h (Nat.not_le.2 hlt)⟩
    · have hstep := referenceStep_of_spent (sample := sample) hr rfl hnot hge
      exact ⟨_, congrArg Host.Outcome.next hstep, rfl, fun hk hhome => absurd ⟨hk, hhome⟩ hfound,
        fun _ h => absurd h (Nat.not_lt.2 hge), fun _ _ => ⟨rfl, rfl⟩⟩

/-- The zoom phase: its reference point is an edge of the wide sensor reached while seeking, and the reference ends (R77). -/
theorem zoomPhase {n : Nat} {k : Bool} (hr : s.lds.reference = some ⟨.zoom, n, k, false⟩) :
    let l := { s.lds with latched := { s.lds.latched with wide := sample.wide, tele := sample.tele } }
    ∃ t, exec (.referenceStep sample) s = .next (if t.lds.reference = none then t.grant else t) ∧ t.aec = s.aec ∧
      (s.lds.noMoves = true → t.grant = t) ∧
      (k = true → sample.wide = true → t.cnd = cndRaise s.cnd condMoveDone ∧
        t.lds = { l with zoom := ⟨8, true⟩, reference := none, timer := none }) ∧
      (¬ (k = true ∧ sample.wide = true) → n + 1 < 2200 → t.cnd = s.cnd ∧ t.lds = { l with
        reference := some ⟨.zoom, n + 1, k || !sample.wide, false⟩
        timer := some (stepPeriod .zoom s.lds.params.parkClass) }) ∧
      (¬ (k = true ∧ sample.wide = true) → 2200 ≤ n + 1 →
        t.cnd = cndRaise (cndRaise s.cnd condLensFault) condMoveDone ∧
        t.lds = { l with reference := none, timer := none }) := by
  intro l
  by_cases hfound : k = true ∧ sample.wide = true
  · have hstep := referenceStep_of_found (sample := sample) hr rfl (Bool.and_eq_true_iff.2 hfound)
    exact ⟨(((s.sensed .zoom sample).setLds ((s.sensed .zoom sample).lds.setMotor .zoom ⟨8, true⟩).endReference).raise condMoveDone),
      congrArg Host.Outcome.next hstep, rfl, fun hidle => grant_of_noMoves_eq rfl hidle, fun _ _ => ⟨rfl, rfl⟩,
      fun h => absurd hfound h, fun h => absurd hfound h⟩
  · have hnot : phaseFound ⟨.zoom, n, k, false⟩ sample = false := Bool.eq_false_iff.2 (hfound ∘ Bool.and_eq_true_iff.1)
    rcases Nat.lt_or_ge (n + 1) 2200 with hlt | hge
    · have hstep := referenceStep_of_seeking (sample := sample) hr rfl hnot hlt
      exact ⟨_, congrArg Host.Outcome.next (hstep.trans (if_neg nofun).symm), rfl, fun hidle => grant_of_noMoves_eq rfl hidle,
        fun hk hwide => absurd ⟨hk, hwide⟩ hfound, fun _ _ => ⟨rfl, rfl⟩, fun _ h => absurd h (Nat.not_le.2 hlt)⟩
    · have hstep := referenceStep_of_spent (sample := sample) hr rfl hnot hge
      exact ⟨((((s.sensed .zoom sample).raise condLensFault).setLds (s.sensed .zoom sample).lds.endReference).raise condMoveDone),
        congrArg Host.Outcome.next hstep, rfl, fun hidle => grant_of_noMoves_eq rfl hidle,
        fun hk hwide => absurd ⟨hk, hwide⟩ hfound, fun _ h => absurd h (Nat.not_lt.2 hge), fun _ _ => ⟨rfl, rfl⟩⟩

end

/-- Settles O37, phase by phase. -/
theorem referenceFindsPositions : Obligations.ReferenceFindsPositions := by
  refine ⟨fun s tag h href hpark haec hafc hzmc hmoves => exec_lensReference_taken h (taken_eq_false href hpark)
      (lensFree_eq_true.2 ⟨haec, hafc, hzmc, hmoves⟩),
    fun s tag h => ⟨fun hbusy => exec_lensReference_busy h (taken_eq_true.2 hbusy),
      fun href hpark hstate => exec_lensReference_state h (taken_eq_false href hpark) (lensFree_eq_false hstate)⟩,
    fun s sample href => ?_, fun s sample r hr hstop => ?_, fun s sample n k => irisPhase, fun s sample n k => focusPhase,
    fun s sample n k => zoomPhase⟩
  · change Host.Outcome.next (referenceStep s sample) = _
    unfold referenceStep
    rw [href]
  · have hstep : exec (.referenceStep sample) s = .next (s.setLds s.lds.endReference).grant :=
      congrArg Host.Outcome.next (referenceStep_of_stop hr hstop)
    exact ⟨hstep, fun hidle => hstep.trans (congrArg Host.Outcome.next
      (grantLoop_of_noMoves (s := s.setLds s.lds.endReference) hidle 64))⟩

end Sys2Proof.Machine
end

section
/-! PROOF of the statement on LENS_PARK and LENS_STOP (R61, R63 to R65, R70, R74, R77 to R79). -/

namespace Sys2Proof.Machine

/-! ### LENS_STOP (R74) -/

/-- The drive after LENS_STOP: PARK and MANUAL cancelled, a park and a reference with them (R70, R74, R77, R79). -/
def Lds.stopped (l : Lds) : Lds := { l with
  slots := { l.slots with park := none, manual := none }
  stack := l.stack.filter fun x => decide (x.source ≠ .park ∧ x.source ≠ .manual)
  running := l.running.map fun m => if m.source = .park ∨ m.source = .manual then { m with stop := true } else m
  reference := l.reference.map fun r => { r with stop := true }
  park := if l.slots.park.isSome || l.stack.any fun x => decide (x.source = .park) then none
    else l.park.map fun p => { p with cancelled := true } }

/-- The cancels of PARK and of MANUAL, one after the other. -/
theorem ldsCancel_park_manual (l : Lds) : ldsCancel (ldsCancel l .park) .manual = { l with
    slots := { l.slots with park := none, manual := none }
    stack := l.stack.filter fun x => decide (x.source ≠ .park ∧ x.source ≠ .manual)
    running := l.running.map fun m => if m.source = .park ∨ m.source = .manual then { m with stop := true } else m } := by
  have hstack : (l.stack.filter fun x => decide (x.source ≠ .park)).filter (fun x => decide (x.source ≠ .manual)) =
      l.stack.filter fun x => decide (x.source ≠ .park ∧ x.source ≠ .manual) := by
    simp only [List.filter_filter, Bool.decide_and, Bool.and_comm]
  have hmark (m : Move) : (fun n : Move => if n.source = .manual then { n with stop := true } else n)
      (if m.source = .park then { m with stop := true } else m) =
      if m.source = .park ∨ m.source = .manual then { m with stop := true } else m := by
    cases hm : m.source <;> simp [hm]
  have hrunning : (l.running.map fun m => if m.source = .park then { m with stop := true } else m).map
      (fun n : Move => if n.source = .manual then { n with stop := true } else n) =
      l.running.map fun m => if m.source = .park ∨ m.source = .manual then { m with stop := true } else m := by
    rw [Option.map_map]
    exact congrArg (Option.map · l.running) (funext hmark)
  unfold ldsCancel
  dsimp only
  rw [hstack, hrunning]
  rfl

theorem lensStop_eq (s : State) : lensStop s = s.setLds s.lds.stopped := by
  unfold lensStop State.cancelMove Lds.stopped
  dsimp only [State.setLds_lds]
  rw [ldsCancel_park_manual]
  cases hwaits : s.lds.cancelStopsNow .park with
  | true =>
    rw [if_pos (show (s.lds.slots.park.isSome || s.lds.stack.any fun x => decide (x.source = .park)) = true from hwaits)]
    rfl
  | false =>
    rw [if_neg (ne_true_of_eq_false
      (show (s.lds.slots.park.isSome || s.lds.stack.any fun x => decide (x.source = .park)) = false from hwaits))]
    rfl

theorem exec_lensStop {s : State} {tag : Tag} (h : s.turnOf (.lensStop tag (.args ()))) :
    exec (.lensStop tag (.args ())) s = .next ((s.setLds s.lds.stopped).replied tag 10 (answer .done)) :=
  congrArg Host.Outcome.next (hostCommand_replied (t := s.setLds s.lds.stopped) h rfl
    (congrArg (·, answer .done) (lensStop_eq (s.setLnk (lnkTake s.lnk tag)))))

/-! ### A part of the park on a drive with no move in hand (R78) -/

section
variable {s : State} {m : Motor}

/-- A park is in hand at the part of a motor. -/
def State.parking (s : State) (m : Motor) : State := s.setLds { s.lds with park := some ⟨m, false⟩ }

/-- The request of a part. -/
def parkPart (p : LensParams) (m : Motor) : Request := ⟨m, parkTarget p m, p.parkClass⟩

theorem parkRequest_of_valid (h : (s.lds.motor m).valid = true) :
    parkRequest s m = (s.parking m).place .park (parkPart s.lds.params m) := if_pos h

theorem parkTarget_le {p : LensParams} (h : p.homePos ≤ 4095) (m : Motor) : parkTarget p m ≤ motorTop m := by
  cases m with
  | focus => exact h
  | zoom | iris => exact Nat.zero_le _

/-- A part with travel starts. -/
theorem grantLoop_parkRequest_starts (hidle : s.lds.noMoves = true) (href : s.lds.reference = none)
    (hvalid : (s.lds.motor m).valid = true) (hhome : s.lds.params.homePos ≤ 4095) (k : Nat)
    (h : (s.lds.motor m).pos ≠ parkTarget s.lds.params m) :
    grantLoop (k + 1) (parkRequest s m) =
      (s.parking m).setLds ((s.parking m).lds.start (moveOf s.lds .park (parkPart s.lds.params m))) := by
  rw [parkRequest_of_valid hvalid]
  exact grantLoop_place_starts (v := s.parking m) (src := .park) (r := parkPart s.lds.params m) hidle href hvalid
    (parkTarget_le hhome m) nofun k h

/-- A part already there completes at once. -/
theorem grantLoop_parkRequest_completes (hidle : s.lds.noMoves = true) (href : s.lds.reference = none)
    (hvalid : (s.lds.motor m).valid = true) (hhome : s.lds.params.homePos ≤ 4095) (k : Nat)
    (h : (s.lds.motor m).pos = parkTarget s.lds.params m) :
    grantLoop (k + 1) (parkRequest s m) = grantLoop k (parkComplete (s.parking m)) := by
  rw [parkRequest_of_valid hvalid]
  exact grantLoop_place_completes (v := s.parking m) (src := .park) (r := parkPart s.lds.params m) hidle href hvalid
    (parkTarget_le hhome m) nofun k h

theorem mainDest_zero (p b : Nat) : mainDest p 0 b = 0 := by
  unfold mainDest
  split <;> simp

/-- The move of a part that goes down to position 0: the backlash rule adds nothing (R61, R78). -/
theorem moveOf_parkPart_zero {l : Lds} {m : Motor} (h : parkTarget l.params m = 0) :
    moveOf l .park (parkPart l.params m) =
      { source := .park, motor := m, level := l.params.levels.park, target := 0, speed := l.params.parkClass, phase := .main
        dest := 0, stop := false, mute := false, retarget := false } := by
  unfold moveOf parkPart
  dsimp only
  rw [h, mainDest_zero]
  rfl

/-- The park is over with its zoom part (R78). -/
theorem parkComplete_parking_zoom {s u : State} (h : u.parking .zoom = s.parking .zoom) (hpark : s.lds.park = none) :
    parkComplete (u.parking .zoom) = s.raise condMoveDone := by
  have hended : parkEnded (s.parking .zoom) = s := by
    change s.setLds { s.lds with park := none } = s
    rw [← hpark]
    rfl
  rw [h]
  exact congrArg (State.raise · condMoveDone) hended

theorem parkComplete_parking_iris (s : State) : parkComplete (s.parking .iris) = parkRequest (s.parking .iris) .focus := rfl

theorem parkComplete_parking_focus (s : State) : parkComplete (s.parking .focus) = parkRequest (s.parking .focus) .zoom := rfl

end

/-! ### LENS_PARK (R78) -/

section
variable {s : State} {tag : Tag}

theorem exec_lensPark_busy (h : s.turnOf (.lensPark tag (.args ()))) (htaken : s.lds.taken = true) :
    exec (.lensPark tag (.args ())) s = .next (s.replied tag 12 (answer .refusedBusy)) :=
  congrArg Host.Outcome.next (hostCommand_unchanged h (if_pos htaken))

theorem exec_lensPark_state (h : s.turnOf (.lensPark tag (.args ()))) (htaken : s.lds.taken = false)
    (hfree : lensFree s = false) :
    exec (.lensPark tag (.args ())) s = .next (s.replied tag 12 (answer .refusedState)) :=
  congrArg Host.Outcome.next (hostCommand_unchanged h
    ((if_neg (ne_true_of_eq_false htaken)).trans (if_pos (congrArg (!·) hfree))))

theorem exec_lensPark_unreferenced (h : s.turnOf (.lensPark tag (.args ()))) (htaken : s.lds.taken = false)
    (hfree : lensFree s = true) (hvalid : (s.lds.zoom.valid && s.lds.focus.valid && s.lds.iris.valid) = false) :
    exec (.lensPark tag (.args ())) s = .next (s.replied tag 12 (answer .refusedUnreferenced)) :=
  congrArg Host.Outcome.next (hostCommand_unchanged h
    ((if_neg (ne_true_of_eq_false htaken)).trans
      ((if_neg (ne_true_of_eq_false (congrArg (!·) hfree))).trans (if_pos (congrArg (!·) hvalid)))))

/-- LENS_PARK is taken: the iris part is requested, and the grant runs. -/
theorem exec_lensPark_taken (h : s.turnOf (.lensPark tag (.args ()))) (htaken : s.lds.taken = false)
    (hfree : lensFree s = true) (hvalid : (s.lds.zoom.valid && s.lds.focus.valid && s.lds.iris.valid) = true) :
    exec (.lensPark tag (.args ())) s = .next ((parkRequest s .iris).grant.replied tag 12 (answer .accepted)) := by
  have hlnk : (parkRequest s .iris).grant.lnk = s.lnk := (State.grant_lnk _).trans (parkRequest_controls s .iris).lnk
  exact congrArg Host.Outcome.next (hostCommand_ignoring (f := fun u => (parkRequest u .iris).grant) h
    (fun u b => (congrArg State.grant (parkRequest_ignores .iris u b)).trans (grant_ignores _ b)) hlnk
    ((if_neg (ne_true_of_eq_false htaken)).trans ((if_neg (ne_true_of_eq_false (congrArg (!·) hfree))).trans
      (if_neg (ne_true_of_eq_false (congrArg (!·) hvalid))))))

end

/-- The iris part is there: the focus part follows. -/
theorem park_grant_of_iris {s : State} (hidle : s.lds.noMoves = true) (href : s.lds.reference = none)
    (hvalid : s.lds.iris.valid = true) (hhome : s.lds.params.homePos ≤ 4095) (h : s.lds.iris.pos = 0) :
    (parkRequest s .iris).grant = grantLoop 63 (parkRequest (s.parking .iris) .focus) := by
  rw [← parkComplete_parking_iris]
  exact grantLoop_parkRequest_completes (m := .iris) hidle href hvalid hhome 63 h

/-- The iris and the focus part are there: the zoom part follows. -/
theorem park_grant_of_focus {s : State} (hidle : s.lds.noMoves = true) (href : s.lds.reference = none)
    (hiris : s.lds.iris.valid = true) (hfocus : s.lds.focus.valid = true) (hhome : s.lds.params.homePos ≤ 4095)
    (h : s.lds.iris.pos = 0) (hpos : s.lds.focus.pos = s.lds.params.homePos) :
    (parkRequest s .iris).grant = grantLoop 62 (parkRequest ((s.parking .iris).parking .focus) .zoom) := by
  rw [park_grant_of_iris hidle href hiris hhome h, ← parkComplete_parking_focus]
  exact grantLoop_parkRequest_completes (s := s.parking .iris) (m := .focus) hidle href hfocus hhome 62 hpos

/-- Settles O38: LENS_STOP is one update of the drive; of a park, each part already there hands the grant to the next. -/
theorem parkRunsAndStops : Obligations.ParkRunsAndStops := by
  refine ⟨fun s tag h => exec_lensStop h, fun s tag h => ⟨fun hbusy => exec_lensPark_busy h (taken_eq_true.2 hbusy),
    fun href hpark hstate => exec_lensPark_state h (taken_eq_false href hpark) (lensFree_eq_false hstate)⟩,
    fun s tag h href hpark haec hafc hzmc hidle hhome => ?_⟩
  have htaken := taken_eq_false href hpark
  have hfree := lensFree_eq_true.2 ⟨haec, hafc, hzmc, hidle⟩
  refine ⟨fun hinvalid => exec_lensPark_unreferenced h htaken hfree ?_, fun hzoom hfocus hiris => ?_⟩
  · rcases hinvalid with hm | hm | hm <;> simp [hm]
  rw [exec_lensPark_taken h htaken hfree (by simp [hzoom, hfocus, hiris])]
  have hanswer {u : State} (hu : (parkRequest s .iris).grant = u) :
      Host.Outcome.next ((parkRequest s .iris).grant.replied tag 12 (answer .accepted)) =
        (.next (u.replied tag 12 (answer .accepted)) : Host.Outcome State Fault Refusal) := by rw [hu]
  refine ⟨fun hpos => hanswer ?_, fun hi hpos => hanswer ?_, fun hi hf hpos => hanswer ?_, fun hi hf hz => hanswer ?_⟩
  · have hstart := grantLoop_parkRequest_starts (m := .iris) hidle href hiris hhome 63 hpos
    rw [moveOf_parkPart_zero rfl] at hstart
    exact hstart
  · rw [park_grant_of_iris hidle href hiris hhome hi]
    exact grantLoop_parkRequest_starts (s := s.parking .iris) (m := .focus) hidle href hfocus hhome 62 hpos
  · rw [park_grant_of_focus hidle href hiris hfocus hhome hi hf]
    have hstart := grantLoop_parkRequest_starts (s := (s.parking .iris).parking .focus) (m := .zoom) hidle href hzoom hhome 61 hpos
    rw [moveOf_parkPart_zero rfl] at hstart
    exact hstart
  · rw [park_grant_of_focus hidle href hiris hfocus hhome hi hf,
      grantLoop_parkRequest_completes (s := (s.parking .iris).parking .focus) (m := .zoom) hidle href hzoom hhome 61 hz,
      parkComplete_parking_zoom (s := s) (u := (s.parking .iris).parking .focus) rfl hpark]
    exact grantLoop_of_noMoves (s := s.raise condMoveDone) hidle 61

end Sys2Proof.Machine
end

section
/-! SUPPORT. The grant by what it chooses (R65, R68), and a step boundary by its cases (R66, R70): what each leaves. -/

namespace Sys2Proof.Machine

/-! ### The grant (R65, R68) -/

section
variable {u : State}

/-- With no move and no reference in progress the grant takes what it chooses. -/
theorem grant_of_request {src : Source} {r : Request} (hrunning : u.lds.running = none) (href : u.lds.reference = none)
    (hurgent : u.lds.MostUrgent src r) (hstack : ∀ y ∈ u.lds.stack.head?, u.lds.level src < y.level) :
    u.grant =
      let g := grantOne (u.setLds { u.lds with slots := u.lds.slots.set src none }) (moveOf u.lds src r)
      if g.1 then grantLoop 63 g.2 else g.2 := by
  have hidle : u.lds.idle = true := by simp [Lds.idle, hrunning, href]
  change grantLoop (63 + 1) u = _
  rw [grantLoop, if_pos hidle, choose_eq_request.2 ⟨hurgent, hstack⟩]

theorem grant_of_suspended {y : Suspended} {rest : List Suspended} (hrunning : u.lds.running = none)
    (href : u.lds.reference = none) (hstack : u.lds.stack = y :: rest)
    (hslots : ∀ n q, u.lds.slots.get n = some q → y.level ≤ u.lds.level n) :
    u.grant =
      let g := grantOne (u.setLds { u.lds with stack := rest }) (resumed u.lds y)
      if g.1 then grantLoop 63 g.2 else g.2 := by
  have hidle : u.lds.idle = true := by simp [Lds.idle, hrunning, href]
  change grantLoop (63 + 1) u = _
  rw [grantLoop, if_pos hidle, choose_eq_suspended.2 ⟨hstack, hslots⟩]

/-- The most urgent request starts, or completes at once (R61, R65). -/
theorem grant_of_request_cases {src : Source} {r : Request} (hrunning : u.lds.running = none) (href : u.lds.reference = none)
    (hurgent : u.lds.MostUrgent src r) (hstack : ∀ y ∈ u.lds.stack.head?, u.lds.level src < y.level) :
    let l := { u.lds with slots := u.lds.slots.set src none }
    ((u.lds.motor r.motor).pos ≠ r.target → u.grant = tellGrant (u.setLds (l.start (moveOf u.lds src r))) src) ∧
    ((u.lds.motor r.motor).pos = r.target → u.grant = grantLoop 63 (moveComplete (tellGrant (u.setLds l) src) src)) := by
  intro l
  have hmotor : u.lds.motor r.motor = (u.setLds l).lds.motor r.motor := (Lds.motor_congr rfl rfl rfl r.motor).symm
  rw [grant_of_request hrunning href hurgent hstack]
  refine ⟨fun h => ?_, fun h => ?_⟩
  · rw [grantOne_of_travel hmotor (hmotor ▸ h)]
    rfl
  · rw [grantOne_of_rest hmotor (hmotor ▸ h)]
    rfl

/-- The top suspended move goes on, or completes at once (R61, R68). -/
theorem grant_of_suspended_cases {y : Suspended} {rest : List Suspended} (hrunning : u.lds.running = none)
    (href : u.lds.reference = none) (hstack : u.lds.stack = y :: rest)
    (hslots : ∀ n q, u.lds.slots.get n = some q → y.level ≤ u.lds.level n) :
    let l := { u.lds with stack := rest }
    ((resumed u.lds y).atRest (u.lds.motor y.motor).pos = false →
      u.grant = tellGrant (u.setLds (l.start (resumed u.lds y))) y.source) ∧
    ((resumed u.lds y).atRest (u.lds.motor y.motor).pos = true →
      u.grant = grantLoop 63 (moveComplete (tellGrant (u.setLds l) y.source) y.source)) := by
  intro l
  have hmotor : u.lds.motor y.motor = (u.setLds l).lds.motor (resumed u.lds y).motor :=
    (Lds.motor_congr rfl rfl rfl y.motor).symm
  rw [grant_of_suspended hrunning href hstack hslots, hmotor]
  refine ⟨fun h => ?_, fun h => ?_⟩
  · have hone : grantOne (u.setLds l) (resumed u.lds y) = (false, tellGrant (u.setLds (l.start (resumed u.lds y))) y.source) :=
      if_neg (ne_true_of_eq_false h)
    rw [hone]
    rfl
  · have hone : grantOne (u.setLds l) (resumed u.lds y) = (true, moveComplete (tellGrant (u.setLds l) y.source) y.source) :=
      if_pos h
    rw [hone]
    rfl

end

theorem atRest_eq_true {m : Move} {p : Nat} : m.atRest p = true ↔ p = m.target ∧ p = m.dest := decide_eq_true_iff

/-! ### What preempts a move, and what completes it (R66, R70) -/

theorem preemptor_eq_none {l : Lds} {m : Move} :
    preemptor l m = none ↔ ¬ ∃ src r, l.slots.get src = some r ∧ l.level src < m.level := by
  constructor
  · rintro h ⟨src, r, hr, hlt⟩
    cases hbest : bestPending l with
    | none => rw [bestPending_eq_none.1 hbest src] at hr; cases hr
    | some b =>
      obtain ⟨n, q⟩ := b
      have hurgent := bestPending_eq_some.1 hbest
      have hsome := preemptor_eq_some.2 ⟨hurgent, (hurgent.level_le hr).trans_lt hlt⟩
      rw [h] at hsome
      cases hsome
  · intro h
    rw [Option.eq_none_iff_forall_ne_some]
    rintro ⟨src, r⟩ hsome
    obtain ⟨⟨hr, -⟩, hlt⟩ := preemptor_eq_some.1 hsome
    exact h ⟨src, r, hr, hlt⟩

theorem mainDest_self (p b : Nat) : mainDest p p b = p := if_neg (Nat.lt_irrefl p)

/-- A retarget-due move is at rest where its motor stands at the new target (R61). -/
theorem atRest_retargeted {l : Lds} {m : Move} :
    (retargeted l m).atRest (l.motor m.motor).pos = true ↔ (l.motor m.motor).pos = m.target := by
  rw [atRest_eq_true]
  refine and_iff_left_of_imp fun h => ?_
  change (l.motor m.motor).pos = mainDest (l.motor m.motor).pos m.target _
  change (l.motor m.motor).pos = m.target at h
  rw [← h, mainDest_self]

/-- A move completes at a boundary where nothing outranks it and its new target or its step ends it. -/
theorem completesHere_iff {l : Lds} {m : Move} : completesHere l m = true ↔ preemptor l m = none ∧
    ((m.retarget = true ∧ (l.motor m.motor).pos = m.target) ∨
      (stepToward (l.motor m.motor).pos (l.goal m) = l.goal m ∧ stepToward (l.motor m.motor).pos (l.goal m) = m.target)) := by
  unfold completesHere Lds.goal
  rw [Bool.and_eq_true, Option.isNone_iff_eq_none]
  refine and_congr_right fun _ => ?_
  cases hretarget : m.retarget with
  | true =>
    rw [if_pos rfl, if_pos rfl, Bool.or_eq_true, atRest_retargeted, stepCompletes_eq_true]
    simp only [true_and]
    rfl
  | false =>
    rw [if_neg Bool.false_ne_true, if_neg Bool.false_ne_true, stepCompletes_eq_true]
    simp only [Bool.false_eq_true, false_and, false_or]

/-! ### Steps 2 to 4 of a boundary (R66) -/

section
variable {s : State} {m : Move} {x : LensSample}

theorem boundaryOn_of_preemptor {src : Source} {r : Request} (h : preemptor s.lds m = some (src, r)) :
    boundaryOn s m x = preempt s m src r := by
  unfold boundaryOn
  rw [h]

theorem boundaryOn_of_rest (h : preemptor s.lds m = none) (hretarget : m.retarget = true)
    (hpos : (s.lds.motor m.motor).pos = m.target) : boundaryOn s m x = endComplete s m := by
  unfold boundaryOn
  rw [h]
  exact (if_pos hretarget).trans (if_pos (atRest_retargeted.2 hpos))

theorem boundaryOn_of_retarget (h : preemptor s.lds m = none) (hretarget : m.retarget = true)
    (hpos : (s.lds.motor m.motor).pos ≠ m.target) : boundaryOn s m x = takeStep s (retargeted s.lds m) x := by
  unfold boundaryOn
  rw [h]
  exact (if_pos hretarget).trans (if_neg (mt atRest_retargeted.1 hpos))

theorem boundaryOn_of_step (h : preemptor s.lds m = none) (hretarget : m.retarget = false) :
    boundaryOn s m x = takeStep s m x := by
  unfold boundaryOn
  rw [h]
  exact if_neg (ne_true_of_eq_false hretarget)

/-- A preempting request starts, or completes at once (R66, R67). -/
theorem preempt_cases (s : State) (m : Move) (src : Source) (r : Request) :
    ((s.lds.motor r.motor).pos ≠ r.target →
      preempt s m src r = tellGrant (s.setLds ((s.lds.preempted m src).start (moveOf s.lds src r))) src) ∧
    ((s.lds.motor r.motor).pos = r.target →
      preempt s m src r = (moveComplete (tellGrant (s.setLds (s.lds.preempted m src)) src) src).grant) := by
  have hmotor : s.lds.motor r.motor = (s.setLds (s.lds.preempted m src)).lds.motor r.motor :=
    (Lds.motor_congr rfl rfl rfl r.motor).symm
  rw [preempt_eq]
  refine ⟨fun h => ?_, fun h => ?_⟩
  · rw [grantOne_of_travel hmotor (hmotor ▸ h)]
    rfl
  · rw [grantOne_of_rest hmotor (hmotor ▸ h)]
    rfl

end

/-! ### The boundary does not look at the running move of the state: it is given the move (R66) -/

/-- The state with another running move. -/
def State.withRunning (s : State) (y : Option Move) : State := s.setLds { s.lds with running := y }

theorem losePosition_withRunning (s : State) (y : Option Move) (m : Move) :
    losePosition (s.withRunning y) m = losePosition s m := by
  have hlose : (s.withRunning y).lds.release.lose m.motor = s.lds.release.lose m.motor := rfl
  unfold losePosition
  rw [hlose]
  rfl

theorem signalStep_withRunning (s : State) (y : Option Move) (m : Motor) :
    signalStep (s.withRunning y) m = (signalStep s m).withRunning y := by
  cases m <;> rfl

theorem takeStep_withRunning (s : State) (y : Option Move) (m : Move) (x : LensSample) :
    takeStep (s.withRunning y) m x = takeStep s m x := by
  have hmotor : (s.withRunning y).lds.motor m.motor = s.lds.motor m.motor := Lds.motor_congr rfl rfl rfl m.motor
  have hstepped (b : Nat) : (s.withRunning y).setLds ((s.withRunning y).lds.stepped m.motor b x) =
      (s.setLds (s.lds.stepped m.motor b x)).withRunning y := by
    cases m.motor <;> rfl
  have hok (a b : Nat) : stepOk (s.withRunning y).lds m.motor a b x = stepOk s.lds m.motor a b x := by
    cases m.motor <;> rfl
  rw [takeStep_eq, takeStep_eq]
  dsimp only
  rw [hmotor, hok, hstepped, signalStep_withRunning, losePosition_withRunning]
  rfl

theorem boundaryOn_withRunning (s : State) (y : Option Move) (m : Move) (x : LensSample) :
    boundaryOn (s.withRunning y) m x = boundaryOn s m x := by
  have hmotor : (s.withRunning y).lds.motor m.motor = s.lds.motor m.motor := Lds.motor_congr rfl rfl rfl m.motor
  have hretargeted : retargeted (s.withRunning y).lds m = retargeted s.lds m := by
    unfold retargeted
    rw [hmotor]
    rfl
  cases hp : preemptor s.lds m with
  | some b =>
    rw [boundaryOn_of_preemptor (s := s.withRunning y) hp, boundaryOn_of_preemptor hp]
    rfl
  | none =>
    cases hretarget : m.retarget with
    | false => rw [boundaryOn_of_step (s := s.withRunning y) hp hretarget, boundaryOn_of_step hp hretarget, takeStep_withRunning]
    | true =>
      by_cases hpos : (s.lds.motor m.motor).pos = m.target
      · rw [boundaryOn_of_rest (s := s.withRunning y) hp hretarget (hmotor ▸ hpos), boundaryOn_of_rest hp hretarget hpos]
        rfl
      · rw [boundaryOn_of_retarget (s := s.withRunning y) hp hretarget (hmotor ▸ hpos), boundaryOn_of_retarget hp hretarget hpos,
          hretargeted, takeStep_withRunning]

/-! ### The whole boundary (R66, R70) -/

section
variable {s : State} {m : Move} {x : LensSample} {b : Bool}

theorem exec_stepBoundary_idle (h : s.lds.running = none) : exec (.stepBoundary x b) s = .next s := by
  change Host.Outcome.next (stepBoundary s x b) = _
  unfold stepBoundary
  rw [h]

/-- A move not marked for stop takes the boundary. -/
theorem exec_stepBoundary_goes (hm : s.lds.running = some m) (hstop : m.stop = false) :
    exec (.stepBoundary x b) s = .next (boundaryOn s m x) := by
  change Host.Outcome.next (stepBoundary s x b) = _
  unfold stepBoundary
  rw [hm]
  exact congrArg Host.Outcome.next (if_neg (ne_true_of_eq_false hstop))

/-- A move marked for stop ends. -/
theorem exec_stepBoundary_stops (hm : s.lds.running = some m) (hstop : m.stop = true)
    (h : ¬ (b = true ∧ m.mute = false ∧ completesHere s.lds m = true)) :
    exec (.stepBoundary x b) s = .next (endStopped s m) := by
  change Host.Outcome.next (stepBoundary s x b) = _
  unfold stepBoundary
  rw [hm]
  refine congrArg Host.Outcome.next ((if_pos hstop).trans (if_neg fun hc => h ?_))
  simpa only [Bool.and_eq_true, Bool.not_eq_true', and_assoc] using hc

/-- A cancel that comes with the boundary at which the move would end leaves the move its boundary (log entries 7, 56). -/
theorem exec_stepBoundary_cancelled (hm : s.lds.running = some m) (hstop : m.stop = true) (hb : b = true)
    (hmute : m.mute = false) (h : completesHere s.lds m = true) :
    exec (.stepBoundary x b) s = .next (boundaryOn s { m with stop := false } x) := by
  change Host.Outcome.next (stepBoundary s x b) = _
  unfold stepBoundary
  rw [hm]
  refine congrArg Host.Outcome.next ((if_pos hstop).trans (if_pos ?_))
  simp only [hb, hmute, h, Bool.not_false, Bool.and_true]

/-- The boundary of a state in which another move runs. -/
theorem exec_stepBoundary_withRunning (hstop : m.stop = false) :
    exec (.stepBoundary x b) (s.withRunning (some m)) = .next (boundaryOn s m x) :=
  (exec_stepBoundary_goes (s := s.withRunning (some m)) rfl hstop).trans (congrArg Host.Outcome.next (boundaryOn_withRunning ..))

end

end Sys2Proof.Machine
end

section
/-! PROOF of the statement on STEP_BOUNDARY (R59 to R61, R65 to R71, R79, R97, R114). -/

namespace Sys2Proof.Machine

/-! ### The outcomes of the moves of PARK and TRACK (R69 to R71, R78, R79, R97) -/

/-- TRACK's move over: a lock held lets its reference frame be taken anew (R97). -/
theorem afcTrackEnded_eq (u : State) : afcTrackEnded u = if u.afc.state = .locked ∨ u.afc.state = .monitor
    then u.setAfc { u.afc with lock := u.afc.lock.map fun k => { k with taken := false }, monitorCount := 0, frame := none }
    else u := by
  simp only [afcTrackEnded, lockedOn_iff]

/-! ### A suspended move as it resumes (R68) -/

theorem resumed_eq (l : Lds) (y : Suspended) : resumed l y =
    { source := y.source, motor := y.motor, level := y.level, target := y.target, speed := y.speed
      phase := if y.retarget = true ∨ (l.motor y.motor).pos ≠ y.posAt then .main else y.phase
      dest := if y.retarget = true ∨ (l.motor y.motor).pos ≠ y.posAt
        then mainDest (l.motor y.motor).pos y.target (l.params.backlash y.motor) else y.dest
      stop := false, mute := false, retarget := false } := by
  simp only [resumed, Bool.or_eq_true, decide_eq_true_eq]

/-! ### What a step signals and checks (R38, R59, R71, R95, R142) -/

/-- A step is signalled to AEC, to AFC and to the store. -/
theorem signalStep_eq (s : State) (m : Motor) : signalStep s m =
    ((s.setAec { s.aec with irisMoved := s.aec.irisMoved || decide (m = .iris) }).setAfc
      { s.afc with frame := if m = .focus then s.afc.frame.map fun f => { f with stepped := true } else s.afc.frame }).setCst
        { s.cst with slots := s.cst.slots.map fun y => if y.state = .filling
          then { y with record := y.record.map fun r => { r with moving := r.moving.with m } } else y } := by
  cases m with
  | iris => simp only [signalStep, decide_true, Bool.or_true]; rfl
  | zoom | focus => simp only [signalStep, reduceCtorEq, decide_false, Bool.or_false]; rfl

theorem stepOk_eq_true {l : Lds} {m : Motor} {a b : Nat} {x : LensSample} : stepOk l m a b x = true ↔
    match m with
    | .zoom => (x.wide = l.latched.wide ∨ distance (max a b) 9 ≤ l.params.homeTol) ∧
        (x.tele = l.latched.tele ∨ distance (max a b) 2040 ≤ l.params.homeTol)
    | .focus => x.home = l.latched.home ∨ distance (max a b) l.params.homePos ≤ l.params.homeTol
    | .iris => True := by
  cases m <;> simp [stepOk, edgeOk]

/-- A step by its outcome, u being the state with the step taken: the move goes on, completes, or loses its position. -/
theorem takeStep_cases {s u : State} {m : Move} {b : Nat} {x : LensSample}
    (hb : stepToward (s.lds.motor m.motor).pos m.dest = b)
    (hu : signalStep (s.setLds (s.lds.stepped m.motor b x)) m.motor = u) :
    (stepOk s.lds m.motor (s.lds.motor m.motor).pos b x = true → ¬ (b = m.dest ∧ b = m.target) →
      takeStep s m x = u.setLds (u.lds.start (moveAfterStep m b))) ∧
    (stepOk s.lds m.motor (s.lds.motor m.motor).pos b x = true → b = m.dest ∧ b = m.target →
      takeStep s m x = endComplete u m) ∧
    (stepOk s.lds m.motor (s.lds.motor m.motor).pos b x = false → takeStep s m x = losePosition u m) := by
  rw [takeStep_eq]
  dsimp only
  rw [hb, hu]
  refine ⟨fun hok hgoes => ?_, fun hok hends => ?_, fun hok => ?_⟩
  · exact (if_neg (ne_true_of_eq_false (congrArg (!·) hok))).trans (if_neg hgoes)
  · exact (if_neg (ne_true_of_eq_false (congrArg (!·) hok))).trans (if_pos hends)
  · exact if_pos (congrArg (!·) hok)

/-! ### A lost motor (R71) -/

/-- The pending requests left when a motor is lost: those for the other motors. -/
theorem lose_slots (l : Lds) (m : Motor) : (l.lose m).slots =
    let kept := fun r : Option Request => r.filter fun y => decide (y.motor ≠ m)
    ⟨kept l.slots.park, kept l.slots.track, kept l.slots.zoom, kept l.slots.iris, kept l.slots.af, kept l.slots.manual⟩ := by
  have hget (x : Source) : (l.lose m).slots.get x = (l.slots.get x).filter fun y => decide (y.motor ≠ m) := by
    ext r
    rw [get_lose, Option.filter_eq_some_iff, decide_eq_true_eq]
  obtain ⟨hpark, htrack, hzoom, hiris, haf, hmanual⟩ : _ ∧ _ ∧ _ ∧ _ ∧ _ ∧ _ :=
    ⟨hget .park, hget .track, hget .zoom, hget .iris, hget .af, hget .manual⟩
  change (⟨(l.lose m).slots.get .park, (l.lose m).slots.get .track, (l.lose m).slots.get .zoom, (l.lose m).slots.get .iris,
    (l.lose m).slots.get .af, (l.lose m).slots.get .manual⟩ : Slots) = _
  rw [hpark, htrack, hzoom, hiris, haf, hmanual]
  rfl

theorem pendingFor_eq (l : Lds) (m : Motor) :
    pendingFor l m = sourceOrder.filter fun src => (l.slots.get src).any fun r => decide (r.motor = m) := by
  unfold pendingFor
  refine List.filter_congr fun src _ => ?_
  cases l.slots.get src <;> rfl

/-- The drive after a step that lost its motor's position. -/
theorem lose_release_stepped (l : Lds) (m : Motor) (b : Nat) (x : LensSample) :
    let kept := fun r : Option Request => r.filter fun y => decide (y.motor ≠ m)
    (l.stepped m b x).release.lose m =
      { (l.stepped m b x).setMotor m ⟨b, false⟩ with
        running := none, timer := none, stack := l.stack.filter fun y => decide (y.motor ≠ m)
        slots := ⟨kept l.slots.park, kept l.slots.track, kept l.slots.zoom, kept l.slots.iris, kept l.slots.af,
          kept l.slots.manual⟩ } := by
  intro kept
  have hslots := congrArg (fun sl => ({ (l.stepped m b x).release.lose m with slots := sl } : Lds))
    (lose_slots (l.stepped m b x).release m)
  cases m <;> exact hslots

/-- Lost position at a step: what is left of the moves, who is told, and the grant (R71, R102). -/
theorem losePosition_stepped {s u : State} {m : Move} {b : Nat} {x : LensSample} (hu : u.lds = s.lds.stepped m.motor b x) :
    let kept := fun r : Option Request => r.filter fun y => decide (y.motor ≠ m.motor)
    let lost := { (s.lds.stepped m.motor b x).setMotor m.motor ⟨b, false⟩ with
      running := none, timer := none, stack := s.lds.stack.filter fun y => decide (y.motor ≠ m.motor)
      slots := ⟨kept s.lds.slots.park, kept s.lds.slots.track, kept s.lds.slots.zoom, kept s.lds.slots.iris,
        kept s.lds.slots.af, kept s.lds.slots.manual⟩ }
    let losers := m.source :: (sourceOrder.filter fun src => (s.lds.slots.get src).any fun r => decide (r.motor = m.motor)) ++
      (s.lds.stack.filter fun y => decide (y.motor = m.motor)).map (·.source)
    let informed := losers.foldl moveLost ((u.setLds lost).raise condLensLost)
    losePosition u m = (if m.motor = .focus then afcFocusInvalid informed else informed).grant := by
  intro kept lost losers informed
  have hpending : pendingFor u.lds m.motor =
      sourceOrder.filter fun src => (s.lds.slots.get src).any fun r => decide (r.motor = m.motor) := by
    rw [pendingFor_eq, hu, show (s.lds.stepped m.motor b x).slots = s.lds.slots from Lds.setMotor_slots ..]
  have hsuspended : suspendedFor u.lds m.motor = (s.lds.stack.filter fun y => decide (y.motor = m.motor)).map (·.source) := by
    unfold suspendedFor
    rw [hu, show (s.lds.stepped m.motor b x).stack = s.lds.stack from Lds.setMotor_stack ..]
  unfold losePosition
  rw [hpending, hsuspended, hu, lose_release_stepped]
  rfl

/-! ### STEP_BOUNDARY -/

/-- Settles O39, from the grant by what it chooses, the boundary by its cases and the step by its outcome. -/
theorem stepBoundaryRunsTheMove : Obligations.StepBoundaryRunsTheMove := by
  unfold Obligations.StepBoundaryRunsTheMove
  intro mainDest granted starts mostUrgent told parkEnds parkGoes trackEnds
  have htrack (u : State) : afcTrackEnded u = trackEnds u := afcTrackEnded_eq u
  refine ⟨fun u => ⟨rfl, rfl, htrack u, htrack u, rfl, rfl, rfl, rfl, rfl, rfl, rfl, rfl, rfl, ?_⟩, fun u hbusy => ?_,
    fun u src r hrunning href hurgent hstack => ?_, fun u y rest hrunning href hstack hslots => ?_,
    fun s x b => exec_stepBoundary_idle, fun s x b m hm => ?_⟩
  · change parkComplete u = _
    unfold parkComplete
    rcases u.lds.park with _ | ⟨_ | _ | _, _ | _⟩ <;> rfl
  · rcases hbusy with hrunning | href | hidle
    · exact grantLoop_of_not_idle (by simp [Lds.idle, Option.isNone_eq_false_iff.2 hrunning]) 64
    · exact grantLoop_of_not_idle (by simp [Lds.idle, Option.isNone_eq_false_iff.2 href]) 64
    · exact grantLoop_of_noMoves hidle 64
  · exact grant_of_request_cases hrunning href hurgent hstack
  · intro l fresh dest mv rests
    have hresumed : resumed u.lds y = mv := resumed_eq u.lds y
    have hrests : (resumed u.lds y).atRest (u.lds.motor y.motor).pos = true ↔ rests := by
      rw [atRest_eq_true, hresumed]
      exact and_congr_right fun hpos => by rw [hpos]
    obtain ⟨hgoes, hends⟩ := grant_of_suspended_cases hrunning href hstack hslots
    refine ⟨fun h => ?_, fun h => hends (hrests.2 h)⟩
    rw [hgoes (Bool.eq_false_iff.2 (mt hrests.1 h)), hresumed]
    rfl
  · intro p released due goal next outranked completes
    have hnone : preemptor s.lds m = none ↔ ¬ outranked := preemptor_eq_none
    have hcompletes : completesHere s.lds m = true ↔ completes := completesHere_iff.trans (and_congr_left' hnone)
    refine ⟨fun hstop h => ?_, fun hstop hb hmute h => ?_, fun src r hstop hurgent hlt => ?_,
      fun hstop hout hretarget => ?_, fun hstop hout hretarget => ?_⟩
    · exact exec_stepBoundary_stops hm hstop fun ⟨hb, hmute, h'⟩ => h ⟨hb, hmute, hcompletes.1 h'⟩
    · exact (exec_stepBoundary_cancelled hm hstop hb hmute (hcompletes.2 h)).trans
        (exec_stepBoundary_withRunning (s := s) (m := { m with stop := false }) rfl).symm
    · have hstep : exec (.stepBoundary x b) s = .next (preempt s m src r) :=
        (exec_stepBoundary_goes hm hstop).trans
          (congrArg Host.Outcome.next (boundaryOn_of_preemptor (preemptor_eq_some.2 ⟨hurgent, hlt⟩)))
      obtain ⟨hgoes, hends⟩ := preempt_cases s m src r
      exact ⟨fun h => hstep.trans (congrArg Host.Outcome.next (hgoes h)),
        fun h => hstep.trans (congrArg Host.Outcome.next (hends h))⟩
    · have hstep := exec_stepBoundary_goes (x := x) (b := b) hm hstop
      refine ⟨fun h => hstep.trans (congrArg Host.Outcome.next (boundaryOn_of_rest (hnone.2 hout) hretarget h)), fun h => ?_⟩
      have hdue : boundaryOn s due x = takeStep s due x := boundaryOn_of_step (hnone.2 hout) rfl
      rw [hstep, boundaryOn_of_retarget (hnone.2 hout) hretarget h]
      exact (congrArg Host.Outcome.next hdue.symm).trans (exec_stepBoundary_withRunning (s := s) (m := due) hstop).symm
    · intro upper near ok latched flags stepped l kept lost losers informed
      have hgoal : goal = m.dest := if_neg (ne_true_of_eq_false hretarget)
      have hnext : stepToward p m.dest = next := congrArg (stepToward p) hgoal.symm
      have hsignal : signalStep (s.setLds (s.lds.stepped m.motor next x)) m.motor = stepped.setLds l := signalStep_eq ..
      have hok : stepOk s.lds m.motor p next x = true ↔ ok := stepOk_eq_true
      obtain ⟨hgoes, hends, hloses⟩ := takeStep_cases (x := x) hnext hsignal
      rw [exec_stepBoundary_goes hm hstop, boundaryOn_of_step (hnone.2 hout) hretarget]
      exact ⟨fun h hon => congrArg Host.Outcome.next (hgoes (hok.2 h) hon),
        fun h hdest htarget => congrArg Host.Outcome.next (hends (hok.2 h) ⟨hdest, htarget⟩),
        fun h => congrArg Host.Outcome.next ((hloses (Bool.eq_false_iff.2 (mt hok.1 h))).trans
          (losePosition_stepped (s := s) (u := stepped.setLds l) (b := next) (x := x) rfl))⟩

end Sys2Proof.Machine
end

section
/-! SUPPORT. What AFC's states say of its lock data, scan and history (R82, R90) and ZMC's mode of the zoom in hand (R106),
through the operations of the focus and zoom controllers. -/

namespace Sys2Proof.Machine

/-! ### AFC's data by its state (R82) -/

section
variable {a : Afc}

/-- Without a lock and without a scan there is nothing but the history. -/
theorem Afc.Consistent.of_atRest (hstate : a.state = .idle ∨ a.state = .failed) (hlock : a.lock = none) (hprimary : a.primary = none)
    (hfigure : a.primaryFigure = none) (hscan : a.scan = none) (hlen : a.history.length ≤ Config.historyEntries) : a.Consistent := by
  unfold Afc.Consistent
  rw [hlock, hprimary, hfigure, hscan]
  rcases hstate with h | h <;> rw [h] <;> exact ⟨rfl, rfl, nofun, rfl, nofun, hlen⟩

/-- A scan is in hand, and its primary window is fixed by FINE (R92). -/
theorem Afc.Consistent.of_scan {sc : Scan} (hstate : a.state = .coarse ∨ a.state = .fine ∨ a.state = .settle) (hlock : a.lock = none)
    (hprimary : a.primary = none) (hfigure : a.primaryFigure = none) (hscan : a.scan = some sc)
    (hfixed : a.state = .fine ∨ sc.wait = .lockMove → sc.primary.isSome = true)
    (hlen : a.history.length ≤ Config.historyEntries) : a.Consistent := by
  unfold Afc.Consistent
  rw [hlock, hprimary, hfigure, hscan]
  refine ⟨?_, ?_, nofun, ?_, fun x hx => ?_, hlen⟩
  iterate 3 rcases hstate with h | h | h <;> rw [h] <;> rfl
  cases hx
  exact hfixed

/-- A lock is held (R94). -/
theorem Afc.Consistent.of_locked (hstate : a.state = .locked ∨ a.state = .monitor) (hlock : a.lock.isSome = true)
    (hprimary : a.primary.isSome = true) (hscan : a.scan = none) (hlen : a.history.length ≤ Config.historyEntries) : a.Consistent := by
  have hlocked : a.state.lockedOn = true := by rcases hstate with h | h <;> rw [h] <;> rfl
  have hout : a.state.inScan = false := by rcases hstate with h | h <;> rw [h] <;> rfl
  unfold Afc.Consistent
  rw [hlock, hprimary, hscan, hlocked, hout]
  exact ⟨rfl, rfl, fun _ => rfl, rfl, nofun, hlen⟩

theorem Afc.Consistent.history_le (h : a.Consistent) : a.history.length ≤ Config.historyEntries := by
  obtain ⟨-, -, -, -, -, hlen⟩ := h
  exact hlen

/-- Outside LOCKED and MONITOR there are no lock data. -/
theorem Afc.Consistent.unlocked (h : a.Consistent) (hs : a.state.lockedOn = false) :
    a.lock = none ∧ a.primary = none ∧ a.primaryFigure = none := by
  obtain ⟨hlock, hprimary, hfigure, -⟩ := h
  rw [hs] at hlock hprimary hfigure
  exact ⟨by simpa using hlock, by simpa using hprimary, by simpa using hfigure⟩

/-- In LOCKED and MONITOR there are. -/
theorem Afc.Consistent.locked (h : a.Consistent) (hs : a.state.lockedOn = true) : a.lock.isSome = true ∧ a.primary.isSome = true := by
  obtain ⟨hlock, hprimary, -⟩ := h
  exact ⟨hlock.trans hs, hprimary.trans hs⟩

/-- Outside COARSE, FINE and SETTLE there is no scan. -/
theorem Afc.Consistent.scan_none (h : a.Consistent) (hs : a.state.inScan = false) : a.scan = none := by
  obtain ⟨-, -, -, hscan, -⟩ := h
  simpa using hscan.trans hs

theorem Afc.Consistent.scan_some (h : a.Consistent) (hs : a.state.inScan = true) : ∃ sc, a.scan = some sc := by
  obtain ⟨-, -, -, hscan, -⟩ := h
  exact Option.isSome_iff_exists.1 (hscan.trans hs)

theorem Afc.Consistent.inScan (h : a.Consistent) {sc : Scan} (hsc : a.scan = some sc) : a.state.inScan = true := by
  obtain ⟨-, -, -, hscan, -⟩ := h
  rw [← hscan, hsc]
  rfl

/-- The primary window is fixed by FINE (R92). -/
theorem Afc.Consistent.primary_fixed (h : a.Consistent) {sc : Scan} (hsc : a.scan = some sc)
    (hw : a.state = .fine ∨ sc.wait = .lockMove) : sc.primary.isSome = true := by
  obtain ⟨-, -, -, -, hfixed, -⟩ := h
  exact hfixed sc hsc hw

theorem lockedOn_false_of_inScan {x : AfState} (h : x.inScan = true) : x.lockedOn = false := by cases x <;> trivial

theorem inScan_false_of_lockedOn {x : AfState} (h : x.lockedOn = true) : x.inScan = false := by cases x <;> trivial

theorem inScan_of_scanning {x : AfState} (h : x.scanning = true) : x.inScan = true := by cases x <;> trivial

/-- The history and what the scan holds may change while it is in hand (R90). -/
theorem Afc.Consistent.with_scan (h : a.Consistent) (hs : a.state.inScan = true) {sc : Scan} {es : List HistoryEntry}
    (hfixed : a.state = .fine ∨ sc.wait = .lockMove → sc.primary.isSome = true) (hlen : es.length ≤ Config.historyEntries) :
    ({ a with scan := some sc, history := es } : Afc).Consistent := by
  obtain ⟨hlock, hprimary, hfigure⟩ := h.unlocked (lockedOn_false_of_inScan hs)
  exact Afc.Consistent.of_scan ((inScan_iff _).1 hs) hlock hprimary hfigure rfl hfixed hlen

/-- The scan's end with nothing locked (R82, R86, R101). -/
theorem Afc.Consistent.scan_ended (h : a.Consistent) (hs : a.state.lockedOn = false) (b : Bool) :
    ({ a with state := .idle, scan := none, rescanAfterZoom := b } : Afc).Consistent := by
  obtain ⟨hlock, hprimary, hfigure⟩ := h.unlocked hs
  exact Afc.Consistent.of_atRest (.inl rfl) hlock hprimary hfigure rfl h.history_le

end

/-! ### ZMC's data by its mode (R106) -/

theorem Zmc.Consistent.of_idle {z : Zmc} (hm : z.mode = .idle) (hz : z.zoom = none) : z.Consistent := by
  unfold Zmc.Consistent
  rw [hm, hz]
  exact ⟨by simp, nofun, nofun⟩

theorem Zmc.Consistent.of_zoom {z : Zmc} {h : ZoomInHand} (hm : z.mode ≠ .idle) (hz : z.zoom = some h) (ht : z.travel.isSome = true)
    (hle : h.target ≤ 2048) : z.Consistent := by
  unfold Zmc.Consistent
  rw [hz]
  refine ⟨by simp [hm], fun _ => ht, fun x hx => ?_⟩
  cases hx
  exact hle

section
variable {z : Zmc}

theorem Zmc.Consistent.zoom_isSome (h : z.Consistent) (hm : z.mode ≠ .idle) : z.zoom.isSome = true := by
  obtain ⟨hmode, -⟩ := h
  exact hmode.2 hm

theorem Zmc.Consistent.travel_isSome (h : z.Consistent) {x : ZoomInHand} (hx : z.zoom = some x) : z.travel.isSome = true := by
  obtain ⟨-, htravel, -⟩ := h
  exact htravel (by rw [hx]; rfl)

theorem Zmc.Consistent.target_le (h : z.Consistent) {x : ZoomInHand} (hx : z.zoom = some x) : x.target ≤ 2048 := by
  obtain ⟨-, -, htarget⟩ := h
  exact htarget x hx

end

/-! ### Focus and zoom of a state -/

/-- AFC's data f and ZMC's z are in order (R82, R90, R106). -/
structure FocusZoomOk (f : Afc) (z : Zmc) : Prop where
  afc : f.Consistent
  zmc : z.Consistent

/-- The data f' and z' are in order, if f and z are. -/
structure FocusZoomKept (f' : Afc) (z' : Zmc) (f : Afc) (z : Zmc) : Prop where
  ok : FocusZoomOk f z → FocusZoomOk f' z'

/-- Focus and zoom are in order in t, if they are in s. -/
def State.FocusKept (t s : State) : Prop := FocusZoomKept t.afc t.zmc s.afc s.zmc

theorem State.FocusKept.of_eq {s t : State} (ha : t.afc = s.afc) (hz : t.zmc = s.zmc) : t.FocusKept s :=
  ⟨fun h => ⟨ha ▸ h.afc, hz ▸ h.zmc⟩⟩

theorem State.FocusKept.refl (s : State) : s.FocusKept s := ⟨id⟩

theorem State.FocusKept.trans {s t u : State} (h : u.FocusKept t) (g : t.FocusKept s) : u.FocusKept s := ⟨fun hs => h.ok (g.ok hs)⟩

/-- AFC's data are others, in a way that keeps them in order. -/
theorem State.FocusKept.of_afc {s t : State} (ha : s.afc.Consistent → t.afc.Consistent) (hz : t.zmc = s.zmc) : t.FocusKept s :=
  ⟨fun h => ⟨ha h.afc, hz ▸ h.zmc⟩⟩

theorem State.FocusKept.of_zmc {s t : State} (ha : t.afc = s.afc) (hz : s.zmc.Consistent → t.zmc.Consistent) : t.FocusKept s :=
  ⟨fun h => ⟨ha ▸ h.afc, hz h.zmc⟩⟩

theorem State.focusKept_ite {p : Prop} [Decidable p] {s t u : State} (h : t.FocusKept s) (g : u.FocusKept s) :
    (if p then t else u).FocusKept s := by
  split
  · exact h
  · exact g

theorem State.focusKept_cancelMove (s : State) (src : Source) : (s.cancelMove src).FocusKept s := .of_eq rfl rfl

theorem State.focusKept_place (s : State) (src : Source) (r : Request) : (s.place src r).FocusKept s := .of_eq rfl rfl

/-! ### The focus controller (chapter 5) -/

/-- AFC enters a state, in which its data are in order, and ZMC is left. -/
theorem afcEnter_focusKept {s t : State} {st : AfState} (ha : s.afc.Consistent → ({ t.afc with state := st } : Afc).Consistent)
    (hz : t.zmc = s.zmc) : (afcEnter t st).FocusKept s := by
  obtain ⟨a, c, h, -⟩ := afcEnter_eq t st
  rw [h]
  exact .of_afc ha hz

theorem afcFail_focusKept (s : State) (r : FailReason) : (afcFail s r).FocusKept s :=
  afcEnter_focusKept (fun h => .of_atRest (.inr rfl) rfl rfl rfl rfl h.history_le) rfl

theorem afcRequest_focusKept (s : State) (pos : Nat) : (afcRequest s pos).FocusKept s := s.focusKept_place ..

/-- A scan begins where nothing is locked (R85, R88, R100). -/
theorem afcBeginCoarse_focusKept {s t : State} (hlock : s.afc.Consistent → t.afc.lock = none ∧ t.afc.primary = none ∧
    t.afc.primaryFigure = none) (hz : t.zmc = s.zmc) (inf near : Nat) : (afcBeginCoarse t inf near).FocusKept s := by
  refine (afcRequest_focusKept ..).trans (afcEnter_focusKept (fun h => ?_) hz)
  obtain ⟨hlock, hprimary, hfigure⟩ := hlock h
  exact .of_scan (.inl rfl) hlock hprimary hfigure rfl (fun h => h.elim nofun nofun) (Nat.zero_le _)

theorem afcScanStart_focusKept (s : State) : (afcScanStart s).FocusKept s := by
  unfold afcScanStart
  exact afcBeginCoarse_focusKept (fun _ => by exact ⟨rfl, rfl, rfl⟩) (by rfl) ..

theorem afcAbort_focusKept {s : State} (hs : s.afc.state.inScan = true) (b : Bool) : (afcAbort s b).FocusKept s :=
  afcEnter_focusKept (fun h => h.scan_ended (lockedOn_false_of_inScan hs) _) rfl

theorem afcZoomGranted_focusKept (s : State) : (afcZoomGranted s).FocusKept s := by
  unfold afcZoomGranted
  split
  · next hs => exact afcAbort_focusKept hs _
  · exact .refl s

theorem afcPathStop_focusKept (s : State) : (afcPathStop s).FocusKept s := by
  unfold afcPathStop
  split
  · next hs => exact afcAbort_focusKept hs _
  · exact .refl s

/-- AFC lets a lock go (R83, R86, R87). -/
theorem afcEnter_unlocked_focusKept {s : State} {a : Afc} (hlock : a.lock = none) (hprimary : a.primary = none)
    (hfigure : a.primaryFigure = none) (hscan : a.scan = s.afc.scan) (hhistory : a.history = s.afc.history)
    (hs : s.afc.state.inScan = false) : (afcEnter (s.setAfc a) .idle).FocusKept s :=
  afcEnter_focusKept (fun h => .of_atRest (.inl rfl) hlock hprimary hfigure (hscan.trans (h.scan_none hs))
    (hhistory ▸ h.history_le)) rfl

theorem afcCancel_focusKept (s : State) : (afcCancel s).FocusKept s := by
  have hunlock (hs : s.afc.state.inScan = false) :
      (afcEnter (s.setAfc { s.afc.unlocked with rescanAfterZoom := false }) .idle).FocusKept s :=
    afcEnter_unlocked_focusKept rfl rfl rfl rfl rfl hs
  unfold afcCancel
  split
  · exact .of_afc id rfl
  · next hs => exact hunlock (by rw [hs]; rfl)
  · next hs => exact hunlock (by rw [hs]; rfl)
  · next hs => exact hunlock (by rw [hs]; rfl)
  · next hidle hlocked hmonitor hfailed =>
    refine afcEnter_focusKept (fun h => h.scan_ended ?_ _) rfl
    exact Bool.eq_false_iff.2 fun hs => ((lockedOn_iff _).1 hs).elim hlocked hmonitor

theorem afcS1Assert_focusKept (s : State) : (afcS1Assert s).FocusKept s := by
  unfold afcS1Assert
  split
  · exact afcScanStart_focusKept s
  · exact .refl s

theorem afcS1Release_focusKept (s : State) : (afcS1Release s).FocusKept s := by
  unfold afcS1Release
  split
  iterate 3 exact afcCancel_focusKept s
  · next hs => exact afcEnter_unlocked_focusKept rfl rfl rfl rfl rfl (by rw [hs]; rfl)
  · exact .refl s

theorem afcFocusInvalid_focusKept (s : State) : (afcFocusInvalid s).FocusKept s :=
  State.focusKept_ite (afcFail_focusKept ..) (.refl s)

theorem afcZoomIdle_focusKept (s : State) : (afcZoomIdle s).FocusKept s := by
  have hmark : (s.setAfc { s.afc with rescanAfterZoom := false }).FocusKept s := .of_afc id rfl
  unfold afcZoomIdle
  refine State.focusKept_ite (State.focusKept_ite ?_ hmark) (.refl s)
  split
  · exact (afcScanStart_focusKept _).trans hmark
  · exact hmark

/-- A scan pauses in SETTLE (R99). -/
theorem Afc.Consistent.settles {a : Afc} (h : a.Consistent) (hs : a.state.inScan = true) {b : Nat} :
    ({ a with state := .settle, settleCount := 0, restarts := b } : Afc).Consistent := by
  obtain ⟨hlock, hprimary, hfigure⟩ := h.unlocked (lockedOn_false_of_inScan hs)
  obtain ⟨sc, hsc⟩ := h.scan_some hs
  exact .of_scan (.inr (.inr rfl)) hlock hprimary hfigure hsc (fun hw => h.primary_fixed hsc (.inr (hw.resolve_left nofun)))
    h.history_le

theorem afcDisturbance_focusKept (s : State) : (afcDisturbance s).FocusKept s := by
  have hcount : (s.setAfc { s.afc with restarts := s.afc.restarts + 1 }).FocusKept s := .of_afc id rfl
  unfold afcDisturbance
  split
  · next hs =>
    exact State.focusKept_ite ((afcFail_focusKept ..).trans hcount)
      (afcEnter_focusKept (fun h => h.settles (inScan_of_scanning hs)) rfl)
  · exact .refl s

theorem afcSettleSof_focusKept {s : State} (hs : s.afc.state = .settle) (b : Bool) : (afcSettleSof s b).FocusKept s := by
  have hcount : (s.setAfc { s.afc with settleCount := s.afc.settleCount + 1 }).FocusKept s := .of_afc id rfl
  unfold afcSettleSof
  refine State.focusKept_ite ?_ (State.focusKept_ite ((afcFail_focusKept ..).trans hcount) hcount)
  split
  · exact afcBeginCoarse_focusKept (fun h => h.unlocked (by rw [hs]; rfl)) rfl _ _
  · exact .refl s

/-- The scan goes on with its primary window, and waits no less for it. -/
theorem Afc.Consistent.map_scan {a : Afc} (h : a.Consistent) {f : Scan → Scan} {t : Option FrameTest}
    (hprimary : ∀ sc, (f sc).primary = sc.primary) (hwait : ∀ sc, (f sc).wait = .lockMove → sc.wait = .lockMove) :
    ({ a with frame := t, scan := a.scan.map f } : Afc).Consistent := by
  obtain ⟨hlock, hprim, hfigure, hscan, hfixed, hlen⟩ := h
  refine ⟨hlock, hprim, hfigure, (Option.isSome_map ..).trans hscan, fun sc' hsc' hw => ?_, hlen⟩
  obtain ⟨sc, hsc, rfl⟩ := Option.map_eq_some_iff.1 hsc'
  rw [hprimary]
  exact hfixed sc hsc (hw.imp_right (hwait sc))

theorem scanSof_kept (sc : Scan) (b : Bool) :
    (scanSof sc b).primary = sc.primary ∧ ((scanSof sc b).wait = .lockMove → sc.wait = .lockMove) := by
  unfold scanSof
  split
  · split
    · exact ⟨rfl, id⟩
    · exact ⟨rfl, nofun⟩
  · exact ⟨rfl, id⟩

theorem afcSof_focusKept (s : State) (b c : Bool) : (afcSof s b c).FocusKept s := by
  have hscan : (s.setAfc { s.afc with scan := s.afc.scan.map (scanSof · b) }).FocusKept s :=
    .of_afc (fun h => h.map_scan (t := s.afc.frame) (fun sc => (scanSof_kept sc b).1) fun sc => (scanSof_kept sc b).2) rfl
  unfold afcSof
  split
  · next hs => exact afcSettleSof_focusKept hs _
  iterate 2 exact hscan
  iterate 2 exact .of_afc id rfl
  · exact .refl s

/-- A truncated frame leaves the scan waiting for the next SOF (R102). -/
theorem afcTruncated_consistent {a : Afc} (h : a.Consistent) : (afcTruncated a).Consistent := by
  refine h.map_scan (t := none) (fun sc => ?_) fun sc => ?_ <;> split
  iterate 2 rfl
  · exact nofun
  · exact id

theorem afcMoveComplete_focusKept (s : State) : (afcMoveComplete s).FocusKept s := by
  unfold afcMoveComplete
  split
  · exact .refl s
  · next sc hsc =>
    refine State.focusKept_ite ?_ (.refl s)
    split
    · exact .of_afc (fun h => h.with_scan (h.inScan hsc) (fun hw => show sc.primary.isSome = true from
        h.primary_fixed hsc (.inl (hw.resolve_right nofun))) h.history_le) rfl
    · next hw =>
      have hlimit : (s.setZmc { s.zmc with trackLimit := false }).FocusKept s := .of_zmc rfl id
      refine .trans (afcEnter_focusKept (fun h => ?_) (by rfl)) hlimit
      exact .of_locked (.inl rfl) rfl (h.primary_fixed hsc (.inr hw)) rfl h.history_le
    · exact .refl s

theorem afcTrackEnded_focusKept (s : State) : (afcTrackEnded s).FocusKept s := by
  refine State.focusKept_ite (.of_afc (fun h => ?_) rfl) (.refl s)
  obtain ⟨hlock, hrest⟩ := h
  exact ⟨(Option.isSome_map ..).trans hlock, hrest⟩

/-- The coarse phase ends (R92, R93). -/
theorem afcCoarseEnd_focusKept {s : State} (hs : s.afc.state.inScan = true) (sc : Scan) : (afcCoarseEnd s sc).FocusKept s := by
  unfold afcCoarseEnd
  split
  · exact afcFail_focusKept ..
  · refine (afcRequest_focusKept ..).trans (afcEnter_focusKept (fun h => ?_) rfl)
    obtain ⟨hlock, hprimary, hfigure⟩ := h.unlocked (lockedOn_false_of_inScan hs)
    exact .of_scan (.inr (.inl rfl)) hlock hprimary hfigure rfl (fun _ => rfl) h.history_le

theorem afcLockChoice_focusKept {s : State} (hs : s.afc.state.inScan = true) {sc : Scan} (hp : sc.primary.isSome = true) :
    (afcLockChoice s sc).FocusKept s := by
  unfold afcLockChoice
  split
  · exact State.focusKept_ite (afcFail_focusKept ..) ((afcRequest_focusKept ..).trans
      (.of_afc (fun h => h.with_scan hs (fun _ => hp) h.history_le) rfl))
  · exact afcFail_focusKept ..

/-- The next position of a phase, whose primary window is fixed by FINE (R89, R92). -/
theorem afcNextPosition_focusKept {s : State} (hs : s.afc.state.scanning = true) {sc : Scan}
    (hp : s.afc.state = .fine → sc.primary.isSome = true) : (afcNextPosition s sc).FocusKept s := by
  have hin := inScan_of_scanning hs
  unfold afcNextPosition
  split
  · exact (afcRequest_focusKept ..).trans
      (.of_afc (fun h => h.with_scan hin (fun hw => hp (hw.resolve_right nofun)) h.history_le) rfl)
  · split
    · exact afcCoarseEnd_focusKept hin sc
    · next hcoarse => exact afcLockChoice_focusKept hin (hp (((scanning_iff _).1 hs).resolve_left hcoarse))

/-- An entry is made while the history has room (R90). -/
theorem afcEntry_focusKept {s : State} (hs : s.afc.state.scanning = true) {sc : Scan}
    (hp : s.afc.state = .fine → sc.primary.isSome = true) (b : Bool) (fn : Nat) (rs : List WindowRecord) :
    (afcEntry s sc b fn rs).FocusKept s := by
  unfold afcEntry
  split
  · exact afcFail_focusKept ..
  · next hroom =>
    have hentry (e : HistoryEntry) :
        (s.setAfc { s.afc with history := s.afc.history ++ [e], historyMade := true }).FocusKept s := by
      refine .of_afc (fun h => ?_) rfl
      obtain ⟨hlock, hprimary, hfigure, hscan, hfixed, -⟩ := h
      refine ⟨hlock, hprimary, hfigure, hscan, hfixed, ?_⟩
      rw [State.setAfc_afc, List.length_append]
      exact Nat.lt_of_not_le hroom
    dsimp only
    split
    · exact State.focusKept_ite ((afcCoarseEnd_focusKept (inScan_of_scanning (by exact hs)) _).trans (hentry _))
        ((afcNextPosition_focusKept (by exact hs) (by exact hp)).trans (hentry _))
    · exact (afcNextPosition_focusKept (by exact hs) (by exact hp)).trans (hentry _)

/-- A reference taken or compared in LOCKED or MONITOR (R95, R96). -/
theorem afcReferenceFrame_focusKept {s : State} (hs : s.afc.state.lockedOn = true) (k : Lock) (n : Nat) :
    (afcReferenceFrame s k n).FocusKept s := by
  have htaken (h : s.afc.Consistent) (x : Lock) : ({ s.afc with lock := some x } : Afc).Consistent := by
    obtain ⟨-, hrest⟩ := h
    exact ⟨hs.symm, hrest⟩
  have hcount (c : Nat) : (s.setAfc { s.afc with monitorCount := c }).FocusKept s := .of_afc id rfl
  unfold afcReferenceFrame
  refine State.focusKept_ite (State.focusKept_ite (afcEnter_focusKept (fun h => ?_) rfl) (.of_afc (htaken · _) rfl))
    (State.focusKept_ite (State.focusKept_ite ?_ (hcount _)) (.refl s))
  · exact .of_locked (.inr rfl) rfl (h.locked hs).2 (h.scan_none (inScan_false_of_lockedOn hs)) h.history_le
  · split
    · exact afcScanStart_focusKept s
    · exact hcount _

/-- Figures reach AFC in a scan or a lock alone (R26). -/
theorem afcFigures_of_free {s : State} (hs : s.afc.state.scanning = false) (hl : s.afc.state.lockedOn = false) (fn : Nat)
    (rs : List WindowRecord) : afcFigures s fn rs = s := by
  unfold afcFigures
  cases hstate : s.afc.state with
  | idle | settle | failed => rfl
  | coarse | fine => rw [hstate] at hs; cases hs
  | locked | monitor => rw [hstate] at hl; cases hl

theorem afcFigures_focusKept (s : State) (fn : Nat) (rs : List WindowRecord) : (afcFigures s fn rs).FocusKept s := by
  refine ⟨fun h => ?_⟩
  by_cases hs : s.afc.state.scanning = true
  · obtain ⟨sc, hsc⟩ := h.afc.scan_some (inScan_of_scanning hs)
    rw [afcFigures_scanning hsc ((scanning_iff _).1 hs)]
    split
    · exact (afcEntry_focusKept hs (fun hf => h.afc.primary_fixed hsc (.inl hf)) ..).ok h
    · exact h
  · by_cases hl : s.afc.state.lockedOn = true
    · obtain ⟨hlock, hprimary⟩ := h.afc.locked hl
      obtain ⟨k, hk⟩ := Option.isSome_iff_exists.1 hlock
      obtain ⟨w, hw⟩ := Option.isSome_iff_exists.1 hprimary
      obtain ⟨hpassed, hjudged⟩ := afcFigures_lockedOn ((lockedOn_iff _).1 hl) hw hk fn rs
      have hfigure : (s.setAfc { s.afc with
          primaryFigure := some (rs.getD w ⟨false, 0, false, 0, 0, 0⟩).f, frame := none }).FocusKept s := by
        refine .of_afc (fun h => ?_) rfl
        obtain ⟨hlock, hprimary, -, hrest⟩ := h
        exact ⟨hlock, hprimary, fun _ => hl, hrest⟩
      by_cases hframe : s.afc.frame = some ⟨false, false⟩
      · rw [hjudged hframe]
        exact ((afcReferenceFrame_focusKept (by exact hl) ..).trans hfigure).ok h
      · rw [hpassed hframe]
        exact hfigure.ok h
    · rw [afcFigures_of_free (Bool.eq_false_iff.2 hs) (Bool.eq_false_iff.2 hl)]
      exact h

/-! ### The zoom controller (chapter 6) -/

theorem zmcPlace_focusKept (s : State) (e sp : Nat) : (zmcPlace s e sp).FocusKept s := s.focusKept_place ..

/-- A segment of the zoom in hand is requested (R110). -/
theorem zmcNextSegment_focusKept {s t : State} {z : ZoomInHand} (ha : t.afc = s.afc) (hm : t.zmc.mode ≠ .idle)
    (ht : s.zmc.Consistent → t.zmc.travel.isSome = true) (hz : s.zmc.Consistent → z.target ≤ 2048) :
    (zmcNextSegment t z).FocusKept s :=
  (zmcPlace_focusKept ..).trans (.of_zmc ha fun h => .of_zoom hm rfl (ht h) (hz h))

theorem zmcStart_focusKept (s : State) {t : Clamped Nat} (ht : t.value ≤ 2048) (sp : Nat) : (zmcStart s t sp).FocusKept s := by
  unfold zmcStart
  exact State.focusKept_ite (State.focusKept_ite (.of_eq rfl rfl) (.of_eq rfl rfl))
    (zmcNextSegment_focusKept rfl nofun (fun _ => rfl) fun _ => ht)

theorem zmcRetarget_focusKept {s : State} {z : ZoomInHand} (hm : s.zmc.mode = .moving) {t : Clamped Nat} (ht : t.value ≤ 2048)
    (sp : Nat) : (zmcRetarget s z t sp).FocusKept s := by
  have hset (e : Nat) (up : Bool) : (s.setZmc { s.zmc with
      zoom := some ⟨t.value, t.changed, e⟩, travel := some ⟨up, sp⟩ }).FocusKept s :=
    .of_zmc rfl fun _ => .of_zoom (fun hidle => by cases hm.symm.trans hidle) rfl rfl ht
  unfold zmcRetarget
  exact State.focusKept_ite (hset ..) ((zmcPlace_focusKept ..).trans (hset ..))

theorem zmcCommand_focusKept (s : State) {t : Clamped Nat} (ht : t.value ≤ 2048) (sp : Nat) : (zmcCommand s t sp).FocusKept s := by
  unfold zmcCommand
  split
  · split
    · next hm => exact zmcRetarget_focusKept hm ht sp
    · exact .refl s
  · exact zmcStart_focusKept s ht sp

/-- A tracking request leaves the zoom in hand, and of AFC all but the mark of a rescan (R117, R118). -/
theorem zmcTrack_eq (s : State) : ∃ b c, (zmcTrack s).afc = { s.afc with rescanAfterZoom := b } ∧
    (zmcTrack s).zmc = { s.zmc with trackLimit := c } := by
  unfold zmcTrack
  split
  · dsimp only
    split
    · exact ⟨true, _, rfl, rfl⟩
    · exact ⟨_, _, rfl, rfl⟩
  · exact ⟨_, _, rfl, rfl⟩

theorem zmcTrack_focusKept (s : State) : (zmcTrack s).FocusKept s := by
  obtain ⟨b, c, ha, hz⟩ := zmcTrack_eq s
  exact ⟨fun h => ⟨ha ▸ h.afc, hz ▸ h.zmc⟩⟩

theorem zmcIdle_focusKept (s : State) : (zmcIdle s).FocusKept s :=
  (afcZoomIdle_focusKept _).trans (.of_zmc rfl fun _ => .of_idle rfl rfl)

theorem zmcEnd_focusKept (s : State) (b : Bool) : (zmcEnd s b).FocusKept s :=
  (zmcIdle_focusKept _).trans (State.focusKept_ite (.of_eq rfl rfl) (.of_eq rfl rfl))

theorem zmcMoveComplete_focusKept (s : State) : (zmcMoveComplete s).FocusKept s := by
  have hended (b : Bool) : (zmcEnd (zmcTrack s) b).FocusKept s := (zmcEnd_focusKept ..).trans (zmcTrack_focusKept s)
  unfold zmcMoveComplete
  split
  · next z hm hz =>
    obtain ⟨b, c, -, htrack⟩ := zmcTrack_eq s
    refine State.focusKept_ite (hended _) (.trans ?_ (zmcTrack_focusKept s))
    refine zmcNextSegment_focusKept rfl ?_ (fun h => ?_) fun h => ?_
    · rw [htrack]
      exact fun hidle => by cases hm.symm.trans hidle
    · rw [htrack] at h ⊢
      exact h.travel_isSome hz
    · rw [htrack] at h
      exact h.target_le hz
  · exact hended _
  · exact .refl s

theorem zmcMoveStopped_focusKept (s : State) : (zmcMoveStopped s).FocusKept s :=
  State.focusKept_ite (.refl s) ((zmcEnd_focusKept ..).trans (zmcTrack_focusKept s))

theorem zmcMoveLost_focusKept (s : State) : (zmcMoveLost s).FocusKept s := State.focusKept_ite (.refl s) (zmcIdle_focusKept s)

theorem zmcStop_focusKept (s : State) : (zmcStop s).FocusKept s := by
  unfold zmcStop
  split
  · next hm =>
    have hstop : ((s.cancelMove .zoom).setZmc { s.zmc with mode := .stopping }).FocusKept s := by
      refine .of_zmc rfl fun h => ?_
      have hzoom := h.zoom_isSome (by rw [hm]; nofun)
      obtain ⟨-, htravel, htarget⟩ := h
      exact ⟨iff_of_true hzoom nofun, htravel, htarget⟩
    exact State.focusKept_ite ((zmcMoveStopped_focusKept _).trans hstop) hstop
  · exact .refl s

end Sys2Proof.Machine
end

section
/-! SUPPORT. AFC's and ZMC's data through the moves of the lens drive, a step boundary and the reference (R61 to R71, R75 to
R79), the exposure controller, the Capture Store, frames and every host command. -/

namespace Sys2Proof.Machine

/-! ### The lens drive (chapter 4) -/

theorem signalStep_focusKept (s : State) (m : Motor) : (signalStep s m).FocusKept s := by
  cases m with
  | focus => exact .of_afc id rfl
  | zoom | iris => exact .of_eq rfl rfl

theorem parkRequest_focusKept (s : State) (m : Motor) : (parkRequest s m).FocusKept s :=
  State.focusKept_ite (.of_eq rfl rfl) (.of_eq rfl rfl)

theorem parkComplete_focusKept (s : State) : (parkComplete s).FocusKept s := by
  unfold parkComplete
  split
  iterate 2 exact parkRequest_focusKept ..
  iterate 2 exact .of_eq rfl rfl

theorem moveComplete_focusKept (s : State) (src : Source) : (moveComplete s src).FocusKept s := by
  cases src with
  | park => exact parkComplete_focusKept s
  | track => exact afcTrackEnded_focusKept s
  | zoom => exact zmcMoveComplete_focusKept s
  | iris => exact .refl s
  | af => exact afcMoveComplete_focusKept s
  | manual => exact .of_eq rfl rfl

theorem moveStopped_focusKept (s : State) (src : Source) : (moveStopped s src).FocusKept s := by
  cases src with
  | park => exact .of_eq rfl rfl
  | track => exact afcTrackEnded_focusKept s
  | zoom => exact zmcMoveStopped_focusKept s
  | iris | af | manual => exact .refl s

theorem moveLost_focusKept (s : State) (src : Source) : (moveLost s src).FocusKept s := by
  cases src with
  | park => exact .of_eq rfl rfl
  | zoom => exact zmcMoveLost_focusKept s
  | track | iris | af | manual => exact .refl s

theorem tellGrant_focusKept (s : State) (src : Source) : (tellGrant s src).FocusKept s :=
  State.focusKept_ite (afcZoomGranted_focusKept s) (.refl s)

theorem grantOne_focusKept (s : State) (m : Move) : (grantOne s m).2.FocusKept s := by
  unfold grantOne
  split
  · exact (moveComplete_focusKept ..).trans (tellGrant_focusKept ..)
  · exact (tellGrant_focusKept ..).trans (.of_eq rfl rfl)

theorem grantLoop_focusKept (k : Nat) (s : State) : (grantLoop k s).FocusKept s := by
  induction k generalizing s with
  | zero => exact .refl s
  | succ k ih =>
    have hone (l : Lds) (m : Move) : (grantOne (s.setLds l) m).2.FocusKept s :=
      (grantOne_focusKept ..).trans (.of_eq rfl rfl)
    unfold grantLoop
    refine State.focusKept_ite ?_ (.refl s)
    split
    · exact .refl s
    all_goals exact State.focusKept_ite ((ih _).trans (hone ..)) (hone ..)

theorem State.grant_focusKept (s : State) : s.grant.FocusKept s := grantLoop_focusKept _ s

theorem endStopped_focusKept (s : State) (m : Move) : (endStopped s m).FocusKept s :=
  (State.grant_focusKept _).trans
    (State.focusKept_ite (.of_eq rfl rfl) ((moveStopped_focusKept ..).trans (.of_eq rfl rfl)))

theorem endComplete_focusKept (s : State) (m : Move) : (endComplete s m).FocusKept s :=
  (State.grant_focusKept _).trans ((moveComplete_focusKept ..).trans (.of_eq rfl rfl))

theorem preempt_focusKept (s : State) (m : Move) (src : Source) (r : Request) : (preempt s m src r).FocusKept s := by
  have hone (l : Lds) (n : Move) : (grantOne (s.setLds l) n).2.FocusKept s :=
    (grantOne_focusKept ..).trans (.of_eq rfl rfl)
  unfold preempt
  exact State.focusKept_ite ((State.grant_focusKept _).trans (hone ..)) (hone ..)

theorem losePosition_focusKept (s : State) (m : Move) : (losePosition s m).FocusKept s := by
  have hlost (ks : List Source) (u : State) : (ks.foldl moveLost u).FocusKept u := by
    induction ks generalizing u with
    | nil => exact .refl u
    | cons k ks ih => exact (ih _).trans (moveLost_focusKept u k)
  unfold losePosition
  refine (State.grant_focusKept _).trans (State.focusKept_ite ?_ ?_)
  · exact (afcFocusInvalid_focusKept _).trans ((hlost _ _).trans (.of_eq rfl rfl))
  · exact (hlost _ _).trans (.of_eq rfl rfl)

theorem takeStep_focusKept (s : State) (m : Move) (sample : LensSample) : (takeStep s m sample).FocusKept s := by
  have hstep (l : Lds) : (signalStep (s.setLds l) m.motor).FocusKept s :=
    (signalStep_focusKept ..).trans (.of_eq rfl rfl)
  unfold takeStep
  exact State.focusKept_ite ((losePosition_focusKept ..).trans (hstep _))
    (State.focusKept_ite ((endComplete_focusKept ..).trans (hstep _)) (hstep _))

theorem boundaryOn_focusKept (s : State) (m : Move) (sample : LensSample) : (boundaryOn s m sample).FocusKept s := by
  unfold boundaryOn
  split
  · exact preempt_focusKept ..
  · exact State.focusKept_ite (State.focusKept_ite (endComplete_focusKept ..) (takeStep_focusKept ..)) (takeStep_focusKept ..)

theorem stepBoundary_focusKept (s : State) (sample : LensSample) (b : Bool) : (stepBoundary s sample b).FocusKept s := by
  unfold stepBoundary
  split
  · exact .refl s
  · exact State.focusKept_ite (State.focusKept_ite (boundaryOn_focusKept ..) (endStopped_focusKept ..)) (boundaryOn_focusKept ..)

theorem nextPhase_focusKept (s : State) (m : Motor) : (nextPhase s m).FocusKept s := by
  cases m with
  | iris | focus => exact .of_eq rfl rfl
  | zoom => exact (State.grant_focusKept _).trans (.of_eq rfl rfl)

theorem referenceStep_focusKept (s : State) (sample : LensSample) : (referenceStep s sample).FocusKept s := by
  unfold referenceStep
  split
  · exact .refl s
  · next r _ =>
    have hstep (l : Lds) : (signalStep (s.setLds l) r.motor).FocusKept s :=
      (signalStep_focusKept ..).trans (.of_eq rfl rfl)
    refine State.focusKept_ite ((State.grant_focusKept _).trans (.of_eq rfl rfl)) (State.focusKept_ite ?_
      (State.focusKept_ite ?_ ?_))
    · exact (nextPhase_focusKept ..).trans (hstep _)
    · exact (nextPhase_focusKept ..).trans (hstep _)
    · exact hstep _

/-! ### The exposure controller (chapter 3) -/

theorem aecJudgeRecords_focusKept (s : State) : (aecJudgeRecords s).FocusKept s := by
  unfold aecJudgeRecords
  split <;> exact .of_eq rfl rfl

theorem requestIris_focusKept (s : State) (target : Nat) : (requestIris s target).FocusKept s :=
  State.focusKept_ite ((State.grant_focusKept _).trans (s.focusKept_place ..)) (.refl s)

theorem captureCopy_focusKept (s : State) : (captureCopy s).FocusKept s := by
  unfold captureCopy
  refine State.focusKept_ite ?_ (.refl s)
  split
  · exact aecJudgeRecords_focusKept (s.setAec _)
  · exact .refl s

theorem issueOff_focusKept (s : State) : (issueOff s).FocusKept s := by
  unfold issueOff
  split
  · exact State.focusKept_ite (State.focusKept_ite (.refl s)
      ((requestIris_focusKept ..).trans (aecJudgeRecords_focusKept (s.setAec _)))) (.of_eq rfl rfl)
  · exact captureCopy_focusKept s

theorem issueDecision_focusKept (s : State) (p : Plan) (w : Bool) : (issueDecision s p w).FocusKept s :=
  State.focusKept_ite (State.focusKept_ite (requestIris_focusKept (s.setAec _) _) (.of_eq rfl rfl)) (.refl s)

theorem reportStages_focusKept (s : State) (c : Computed) : (reportStages s c).FocusKept s :=
  State.focusKept_ite (.of_eq rfl rfl) (.of_eq rfl rfl)

theorem settleFrame_focusKept (s : State) (c : Computed) (p : Plan) (w : Bool) : (settleFrame s c p w).FocusKept s :=
  State.focusKept_ite (t := s.raise condAeLimitHigh) (.of_eq rfl rfl) (.refl s)

theorem measuredFrame_focusKept (s : State) (z : ZoneSet) : (measuredFrame s z).1.FocusKept s := by
  have hset (p : Plan) (w : Bool) : (settleFrame (reportStages s (computeStages s z)) (computeStages s z) p w).FocusKept s :=
    (settleFrame_focusKept ..).trans (reportStages_focusKept ..)
  unfold measuredFrame
  dsimp only
  split
  · exact hset ..
  · exact (issueDecision_focusKept ..).trans (hset ..)

theorem aecEof_focusKept (s : State) (z : Option ZoneSet) : (aecEof s z).1.FocusKept s := by
  unfold aecEof
  dsimp only
  repeat' split
  iterate 2 exact .refl s
  · exact issueOff_focusKept s
  · exact captureCopy_focusKept s
  · exact (captureCopy_focusKept _).trans (reportStages_focusKept ..)
  · exact captureCopy_focusKept s
  · exact .of_eq rfl rfl
  · exact measuredFrame_focusKept s _
  · exact .of_eq rfl rfl

theorem aecSof_focusKept (s : State) (subject : List Nat) : (aecSof s subject).FocusKept s := by
  obtain ⟨a, c, h⟩ := aecSof_eq_set s subject
  rw [h]
  exact .of_eq rfl rfl

theorem itemAcknowledged_focusKept (s : State) : (itemAcknowledged s).FocusKept s := by
  unfold itemAcknowledged
  dsimp only
  repeat' split
  · exact .refl s
  · exact aecJudgeRecords_focusKept (s.setAec _)
  all_goals exact .of_eq rfl rfl

theorem itemNotAcknowledged_focusKept (s : State) : (itemNotAcknowledged s).FocusKept s := by
  unfold itemNotAcknowledged
  dsimp only
  repeat' split
  · exact .refl s
  · exact State.focusKept_ite (.of_eq rfl rfl) (aecJudgeRecords_focusKept ((s.setAec _).setAec _))
  all_goals exact .of_eq rfl rfl

/-! ### The Capture Store (chapter 8) -/

theorem setSlot_focusKept (s : State) (i : Nat) (f : Slot → Slot) : (setSlot s i f).FocusKept s := .of_eq rfl rfl

theorem freeSlotAt_focusKept (s : State) (i : Nat) : (freeSlotAt s i).FocusKept s := setSlot_focusKept ..

theorem autoRelease_focusKept (s : State) (i : Nat) : (autoRelease s i).FocusKept s := by
  unfold autoRelease
  split
  · exact State.focusKept_ite (freeSlotAt_focusKept ..) (.refl s)
  · exact .refl s

theorem slotReturns_focusKept (s : State) (i : Nat) : (slotReturns s i).FocusKept s := by
  unfold slotReturns
  split
  · exact State.focusKept_ite ((autoRelease_focusKept ..).trans (setSlot_focusKept ..)) (.refl s)
  · exact .refl s

/-- Any number of such operations, one slot after another. -/
theorem foldl_focusKept {f : State → Nat → State} (h : ∀ s i, (f s i).FocusKept s) (ks : List Nat) (s : State) :
    (ks.foldl f s).FocusKept s := by
  induction ks generalizing s with
  | nil => exact .refl s
  | cons k ks ih => exact (ih _).trans (h s k)

theorem freeFilling_focusKept (s : State) : (freeFilling s).FocusKept s := foldl_focusKept freeSlotAt_focusKept _ s

theorem passWithheld_focusKept (s : State) : (passWithheld s).FocusKept s := by
  unfold passWithheld
  exact State.focusKept_ite
    (State.focusKept_ite (.of_eq rfl rfl) ((afcS1Release_focusKept _).trans (.of_eq rfl rfl))) (.refl s)

theorem tellCaptureEnd_focusKept (s : State) : (tellCaptureEnd s).FocusKept s :=
  State.focusKept_ite (.of_eq rfl rfl) (.refl s)

theorem captureEnds_focusKept (s : State) (st : CaptureState) : (captureEnds s st).FocusKept s :=
  (passWithheld_focusKept _).trans (tellCaptureEnd_focusKept s)

theorem storeStop_focusKept (s : State) : (storeStop s).FocusKept s :=
  State.focusKept_ite (.refl s) ((captureEnds_focusKept ..).trans (freeFilling_focusKept s))

theorem checkCaptureDone_focusKept (s : State) : (checkCaptureDone s).FocusKept s :=
  State.focusKept_ite ((captureEnds_focusKept ..).trans (.of_eq rfl rfl)) (.refl s)

theorem takeTrigger_focusKept (s : State) : (takeTrigger s).FocusKept s := .of_eq rfl rfl

theorem gateExpires_focusKept (s : State) : (gateExpires s).FocusKept s := by
  unfold gateExpires
  split
  · exact .of_eq rfl rfl
  · exact (captureEnds_focusKept ..).trans (.of_eq rfl rfl)

theorem gateSof_focusKept (s : State) : (gateSof s).FocusKept s :=
  State.focusKept_ite (State.focusKept_ite (.of_eq rfl rfl)
    (State.focusKept_ite (gateExpires_focusKept s) (.of_eq rfl rfl))) (.refl s)

theorem missFrame_focusKept (s : State) (part : Part) : (missFrame s part).FocusKept s :=
  (checkCaptureDone_focusKept _).trans (.of_eq rfl rfl)

theorem openSlot_focusKept (s : State) (i : Nat) (part : Part) (fm : FrameFacts) (n : Nat) :
    (openSlot s i part fm n).FocusKept s :=
  (setSlot_focusKept ..).trans (.of_eq rfl rfl)

theorem storeFrame_focusKept (s : State) (part : Part) (fm : FrameFacts) (n : Nat) : (storeFrame s part fm n).FocusKept s := by
  unfold storeFrame
  split
  · exact openSlot_focusKept ..
  · split
    · exact (openSlot_focusKept ..).trans (freeSlotAt_focusKept ..)
    · exact missFrame_focusKept ..

theorem storePre_focusKept (s : State) (fm : FrameFacts) : (storePre s fm).FocusKept s := by
  unfold storePre
  refine State.focusKept_ite ?_ (storeFrame_focusKept ..)
  split
  · exact (storeFrame_focusKept ..).trans (freeSlotAt_focusKept ..)
  · exact missFrame_focusKept ..

theorem storeFiltered_focusKept (s : State) (part : Part) (fm : FrameFacts) : (storeFiltered s part fm).FocusKept s :=
  State.focusKept_ite (.of_eq rfl rfl) ((storeFrame_focusKept ..).trans (.of_eq rfl rfl))

theorem cstSof_focusKept (s : State) (fm : FrameFacts) : (cstSof s fm).FocusKept s := by
  refine .trans ?_ (gateSof_focusKept s)
  unfold cstSof
  dsimp only
  split
  · exact .refl _
  · exact storePre_focusKept ..
  · exact storeFiltered_focusKept ..

theorem noticeFiled_focusKept (s : State) (held : Bool) : (noticeFiled s held).FocusKept s := by
  unfold noticeFiled
  split
  · exact .refl s
  · exact .of_eq rfl rfl
  · exact State.focusKept_ite (.of_eq rfl rfl) (.refl s)
  · exact .of_eq rfl rfl
  · exact .refl s

theorem cstEof_focusKept (s : State) (b : Bool) : (cstEof s b).FocusKept s := by
  unfold cstEof
  split
  · split
    · split
      · exact (checkCaptureDone_focusKept _).trans ((noticeFiled_focusKept ..).trans (.of_eq rfl rfl))
      · exact .refl s
    · exact .refl s
  · exact .refl s

theorem s1Assertion_focusKept (s : State) : (s1Assertion s).FocusKept s := by
  unfold s1Assertion
  exact State.focusKept_ite
    ((State.grant_focusKept _).trans ((afcS1Assert_focusKept _).trans (.of_eq rfl rfl))) (.of_eq rfl rfl)

theorem s1Release_focusKept (s : State) : (s1Release s).FocusKept s :=
  State.focusKept_ite (.of_eq rfl rfl) ((State.grant_focusKept _).trans (afcS1Release_focusKept s))

theorem s2Assertion_focusKept (s : State) : (s2Assertion s).FocusKept s := by
  unfold s2Assertion
  split
  · exact takeTrigger_focusKept s
  · exact .refl s

theorem shutterActs_focusKept (s : State) (w : ShutterLine) (b : Bool) : (shutterActs s w b).FocusKept s := by
  unfold shutterActs
  refine State.focusKept_ite ?_ (.refl s)
  split
  · exact s1Assertion_focusKept s
  · exact s1Release_focusKept s
  · exact s2Assertion_focusKept s
  · exact .refl s

theorem debounceTakes_focusKept (s : State) (w : ShutterLine) : (debounceTakes s w).FocusKept s := by
  unfold debounceTakes
  exact State.focusKept_ite (.of_eq rfl rfl) ((shutterActs_focusKept ..).trans (.of_eq rfl rfl))

theorem rawChanges_focusKept (s : State) (w : ShutterLine) (b : Bool) : (rawChanges s w b).FocusKept s := by
  unfold rawChanges
  exact State.focusKept_ite (.refl s)
    (State.focusKept_ite ((debounceTakes_focusKept ..).trans (.of_eq rfl rfl)) (.of_eq rfl rfl))

theorem debounceExpires_focusKept (s : State) (w : ShutterLine) : (debounceExpires s w).FocusKept s :=
  State.focusKept_ite (debounceTakes_focusKept s w) (.refl s)

/-! ### Motion, tables and link -/

theorem shiftLimitSample_focusKept (s : State) : (shiftLimitSample s).FocusKept s :=
  State.focusKept_ite (.of_eq rfl rfl) (.refl s)

theorem rateSample_focusKept (s : State) (seq : Nat) (yaw pitch : Int) : (rateSample s seq yaw pitch).FocusKept s := by
  have hgap (b : Prop) [Decidable b] : (if b then s else s.raise condMotionGap).FocusKept s :=
    State.focusKept_ite (.refl s) (.of_eq rfl rfl)
  unfold rateSample
  dsimp only
  split
  · exact hgap _
  · exact (shiftLimitSample_focusKept _).trans (hgap _)

theorem takeReadback_focusKept (s : State) (r : AxisPair) : (takeReadback s r).FocusKept s := by
  unfold takeReadback
  dsimp only
  repeat' split
  all_goals exact .of_eq rfl rfl

theorem State.CommitsOnly.focusKept {s t : State} (h : t.CommitsOnly s) : t.FocusKept s := .of_eq h.afc h.zmc

theorem commitTable_focusKept (id : Nat) (s : State) : (commitTable id s).1.FocusKept s := by
  unfold commitTable
  repeat' split
  iterate 3 exact .refl s
  exact (applyIfStopped_commitsOnly _).focusKept.trans (.of_eq rfl rfl)

theorem takeFetch_focusKept (s : State) (i : Nat) (f : Fetch) : (takeFetch s i f).FocusKept s := by
  unfold takeFetch
  exact State.focusKept_ite (.of_eq rfl rfl) (.of_eq rfl rfl)

theorem fetchCommand_focusKept (tag : Tag) (a : FetchArgs) (s : State) : (fetchCommand tag a s).1.FocusKept s := by
  unfold fetchCommand
  repeat' split
  iterate 3 exact .refl s
  · dsimp only
    split
    · exact .refl s
    · exact takeFetch_focusKept ..
  · exact .refl s

theorem abortFetch_focusKept (s : State) : (abortFetch s).FocusKept s := by
  unfold abortFetch
  split
  · exact .refl s
  · exact State.focusKept_ite (.refl s)
      (State.focusKept_ite ((slotReturns_focusKept ..).trans (.of_eq rfl rfl)) (.of_eq rfl rfl))

theorem recordSent_focusKept (s : State) (i order : Nat) : (recordSent s i order).FocusKept s := by
  have hmark : (match s.cst.slots[i]? with
      | some x => if holdsFrame x order then autoRelease (setSlot s i fun y => { y with recordSent := true }) i else s
      | none => s).FocusKept s := by
    split
    · exact State.focusKept_ite ((autoRelease_focusKept ..).trans (setSlot_focusKept ..)) (.refl s)
    · exact .refl s
  unfold recordSent
  dsimp only
  split
  · exact State.focusKept_ite hmark hmark
  · exact hmark

theorem packetEnds_focusKept (s : State) : (packetEnds s).FocusKept s := by
  have himage (u : State) : (imageSent u).FocusKept u := by
    unfold imageSent
    split
    · exact (slotReturns_focusKept ..).trans (.of_eq rfl rfl)
    · exact .refl u
  have habort (u : State) : (abortSent u).FocusKept u := by
    unfold abortSent
    split
    · exact State.focusKept_ite (.of_eq rfl rfl) (.of_eq rfl rfl)
    · exact .refl u
  unfold packetEnds
  split
  · exact .refl s
  · dsimp only
    split
    · exact .of_eq rfl rfl
    · exact (recordSent_focusKept ..).trans (.of_eq rfl rfl)
    · exact State.focusKept_ite ((himage _).trans (.of_eq rfl rfl)) (.of_eq rfl rfl)
    · exact (habort _).trans (.of_eq rfl rfl)

theorem sendNext_focusKept (s : State) : (sendNext s).FocusKept s := by
  unfold sendNext
  split
  iterate 3 exact .of_eq rfl rfl
  · cases s.offer <;> exact .of_eq rfl rfl
  · exact .of_eq rfl rfl
  · exact .refl s

theorem execPacketBoundary_focusKept {s t : State} (h : execPacketBoundary s = .next t) : t.FocusKept s := by
  unfold execPacketBoundary at h
  dsimp only at h
  split at h
  · cases h
  · cases h
    exact (sendNext_focusKept _).trans (packetEnds_focusKept s)

theorem execLine_focusKept {pixels : List Nat} {s t : State} (h : execLine pixels s = .next t) : t.FocusKept s := by
  have hwrite (u : State) (y : Nat) (line : List Nat) : (writeLine u y line).FocusKept u := by
    unfold writeLine
    split
    · exact .of_eq rfl rfl
    · exact .refl u
  have htake : (takeLine s pixels).FocusKept s := by
    have hpass (u : State) (y : Nat) (line : List Nat) : (passLine u y line).FocusKept u :=
      (hwrite ..).trans (.of_eq rfl rfl)
    unfold takeLine
    exact State.focusKept_ite ((hpass ..).trans (.of_eq rfl rfl))
      ((hpass ..).trans (.of_eq rfl rfl))
  unfold execLine at h
  split at h
  · cases h; exact .refl s
  · split at h
    · cases h; exact .of_eq rfl rfl
    · split at h
      · cases h
      · cases h; exact htake

/-! ### Host commands (R176) -/

theorem takeCommand_focusKept {i : Instr} {s : State} {tag : Tag} {code : Byte} {block : State → State × Answer}
    (h : ∀ u, (block u).1.FocusKept u) : (takeCommand i tag code block s).FocusKept s :=
  State.focusKept_ite ((h _).trans (.of_eq rfl rfl)) (.refl s)

theorem hostCommand_focusKept {α : Type} {i : Instr} {s : State} {tag : Tag} {code : Byte} {p : Payload α}
    {block : α → State → State × Answer} (h : ∀ a u, (block a u).1.FocusKept u) :
    (hostCommand i tag code p block s).FocusKept s :=
  takeCommand_focusKept fun u => by
    cases p with
    | args a => exact h a u
    | wrongLength => exact .refl u

/-! ### Frames (R5 to R10) -/

theorem sofWork_focusKept (s : State) : (sofWork s).FocusKept s := by
  have hmou (u : State) : (mouSof u).1.FocusKept u := .of_eq (by rw [mouSof_fst]; rfl) (by rw [mouSof_fst]; rfl)
  have hstats (u : State) : (statsSof (pxpSof u)).FocusKept u := .of_eq rfl rfl
  have hcommits := (applyCommits_commitsOnly s).focusKept
  unfold sofWork
  dsimp only
  generalize applyCommits s = u at hcommits ⊢
  have htimed : (timedSof u).FocusKept u := .of_eq (State.setCnd_afc ..) (State.setCnd_zmc ..)
  have haec := (aecSof_focusKept (timedSof u) (timedSof u).afc.subjectMask).trans (htimed.trans hcommits)
  generalize aecSof (timedSof u) (timedSof u).afc.subjectMask = v at haec ⊢
  have hmotion := (hmou v).trans haec
  generalize mouSof v = m at hmotion ⊢
  exact (State.grant_focusKept _).trans ((afcSof_focusKept ..).trans ((cstSof_focusKept ..).trans ((hstats _).trans hmotion)))

theorem truncatedWork_focusKept (s : State) : (truncatedWork s).FocusKept s := by
  have hcut : (cutShort s).FocusKept s := .of_eq rfl rfl
  rw [truncatedWork_eq rfl]
  refine .trans ?_ ((aecEof_focusKept (cutShort s) none).trans hcut)
  exact .of_afc afcTruncated_consistent rfl

theorem truncateFrame_focusKept (s : State) (c : TruncationCause) : (truncateFrame s c).FocusKept s := by
  have hwork : (truncatedWork (s.setIntake { s.intake with mode := .waiting })).FocusKept s := truncatedWork_focusKept (s.setIntake _)
  exact State.focusKept_ite hwork hwork

theorem focusEof_focusKept (s : State) (rs : List WindowRecord) (b : Bool) : (focusEof s rs b).FocusKept s := by
  have hfigures (u : State) (fn : Nat) : (afcFigures u fn rs).grant.FocusKept u :=
    (State.grant_focusKept _).trans (afcFigures_focusKept ..)
  have hdisturbed (u : State) : (afcDisturbance u).grant.FocusKept u :=
    (State.grant_focusKept _).trans (afcDisturbance_focusKept u)
  unfold focusEof
  exact State.focusKept_ite
    (State.focusKept_ite
      (State.focusKept_ite ((hdisturbed _).trans (hfigures (s.setChoices _) _)) ((hfigures ..).trans (hdisturbed (s.setChoices _))))
      ((hfigures ..).trans (hdisturbed s)))
    (hfigures ..)

theorem eofWork_focusKept (s : State) (m : Measurement) : (eofWork s m).FocusKept s :=
  (cstEof_focusKept ..).trans ((focusEof_focusKept ..).trans (aecEof_focusKept ((s.setMou _).setStats _) _))

theorem frameStartPacket_focusKept (s : State) : (frameStartPacket s).FocusKept s := by
  have hopens (u : State) : (frameOpens u).FocusKept u := sofWork_focusKept (u.setIntake _)
  unfold frameStartPacket
  split
  · exact .refl s
  · exact hopens s
  · exact (hopens _).trans (truncateFrame_focusKept ..)

theorem frameEndPacket_focusKept (s : State) : (frameEndPacket s).FocusKept s := by
  unfold frameEndPacket
  split
  · refine State.focusKept_ite (truncateFrame_focusKept ..) ?_
    unfold completeFrame
    dsimp only
    split
    · exact eofWork_focusKept (s.setIntake _) _
    · exact truncatedWork_focusKept (s.setIntake _)
  · exact .refl s

theorem timeoutExpires_focusKept (s : State) : (timeoutExpires s).FocusKept s :=
  State.focusKept_ite (State.focusKept_ite (p := (s.raise condSensorStall).intake.mode = .inFrame)
    (truncateFrame_focusKept (s.raise condSensorStall) _) (.of_eq rfl rfl)) (.refl s)

theorem pathStop_focusKept (s : State) : (pathStop s).1.FocusKept s := by
  have hcut : (if s.intake.mode = .inFrame then truncateFrame s .stopped else s).FocusKept s :=
    State.focusKept_ite (truncateFrame_focusKept ..) (.refl s)
  have hrest (u : State) : (applyCommits (afcPathStop (abortFetch (storeStop u)))).FocusKept u :=
    (applyCommits_commitsOnly _).focusKept.trans ((afcPathStop_focusKept _).trans
      ((abortFetch_focusKept _).trans (storeStop_focusKept u)))
  have hstop (u : State) : (u.setIntake { u.intake with mode := .stopped, timer := none }).FocusKept u := .of_eq rfl rfl
  exact State.focusKept_ite (.refl s) ((hrest _).trans ((hstop _).trans hcut))

/-! ### The lens drive's commands (R72 to R78) -/

theorem lensSetup_focusKept (a : LensSetupArgs) (s : State) : (lensSetup a s).1.FocusKept s := by
  unfold lensSetup lensSetupTaken
  repeat' split
  iterate 2 exact .refl s
  exact State.focusKept_ite (State.focusKept_ite ((afcFocusInvalid_focusKept _).trans (.of_eq rfl rfl)) (.of_eq rfl rfl))
    (.of_eq rfl rfl)

theorem focusMove_focusKept (a : MoveArgs) (s : State) : (focusMove a s).1.FocusKept s := by
  unfold focusMove
  repeat' split
  iterate 3 exact .refl s
  exact (State.grant_focusKept _).trans (s.focusKept_place ..)

theorem lensStop_focusKept (s : State) : (lensStop s).FocusKept s := by
  unfold lensStop
  exact State.focusKept_ite (.of_eq rfl rfl) (.of_eq rfl rfl)

theorem lensReference_focusKept (s : State) : (lensReference s).1.FocusKept s := by
  unfold lensReference
  repeat' split
  iterate 2 exact .refl s
  exact .of_eq rfl rfl

theorem lensPark_focusKept (s : State) : (lensPark s).1.FocusKept s := by
  unfold lensPark
  repeat' split
  iterate 3 exact .refl s
  exact (State.grant_focusKept _).trans (parkRequest_focusKept ..)

/-! ### The commands of the other blocks -/

theorem aeMode_focusKept (n : Nat) (s : State) : (aeMode n s).1.FocusKept s := by
  have hchanges (st : AeState) : (aeModeChanges s st).FocusKept s :=
    State.focusKept_ite (s.focusKept_cancelMove .iris) (.of_eq rfl rfl)
  unfold aeMode
  repeat' split
  · exact .refl s
  · exact .refl s
  · exact State.focusKept_ite (.refl s) (hchanges _)

theorem aeSetup_focusKept (a : AeSetupArgs) (s : State) : (aeSetup a s).1.FocusKept s := by
  unfold aeSetup
  split <;> exact .of_eq rfl rfl

theorem aeManual_focusKept (a : AeManualArgs) (s : State) : (aeManual a s).1.FocusKept s := by
  unfold aeManual
  repeat' split
  all_goals exact .of_eq rfl rfl

/-- A taken AF_SETUP keeps AFC's data or lets go of the lock (R83). -/
theorem afSetupTaken_focusKept {s : State} (hs : s.afc.state.inScan = false) (c : AfChoice) (a : AfSetupArgs) :
    (afSetupTaken s c a).FocusKept s := by
  unfold afSetupTaken
  refine State.focusKept_ite ?_ (.of_afc id rfl)
  split
  · exact afcEnter_unlocked_focusKept rfl rfl rfl rfl rfl hs
  · next hstate =>
    refine .of_afc (fun h => ?_) rfl
    have hrest : s.afc.state = .idle := by
      generalize s.afc.state = x at hs hstate
      cases x <;> simp_all [AfState.inScan, AfState.lockedOn]
    exact .of_atRest (.inl hrest) rfl rfl rfl (h.scan_none hs) h.history_le

theorem afSetup_focusKept (a : AfSetupArgs) (s : State) : (afSetup a s).1.FocusKept s := by
  unfold afSetup
  split
  · exact .refl s
  · next hs =>
    split
    · exact .refl s
    · exact afSetupTaken_focusKept (by simpa using hs) ..

theorem afStart_focusKept (s : State) : (afStart s).1.FocusKept s := by
  unfold afStart
  split
  · exact .refl s
  · exact (State.grant_focusKept _).trans (afcScanStart_focusKept s)

theorem zoomSetup_focusKept (n : Nat) (s : State) : (zoomSetup n s).1.FocusKept s := by
  unfold zoomSetup
  split
  · exact .of_zmc rfl id
  · exact .refl s

/-- A zoom target lies within the range (R108). -/
theorem zoomTarget_le (i : Int) : (zoomTarget i).value ≤ 2048 := by
  unfold zoomTarget clampInt
  dsimp only
  omega

theorem zoomTo_focusKept (a : MoveArgs) (s : State) : (zoomTo a s).1.FocusKept s := by
  unfold zoomTo
  split
  · exact .refl s
  · exact (State.grant_focusKept _).trans (zmcCommand_focusKept _ (zoomTarget_le _) _)

theorem zoomBy_focusKept (a : ZoomByArgs) (s : State) : (zoomBy a s).1.FocusKept s := by
  unfold zoomBy
  split
  · exact .refl s
  · exact (State.grant_focusKept _).trans (zmcCommand_focusKept _ (zoomTarget_le _) _)

theorem storeSetup_focusKept (a : StoreSetupArgs) (s : State) : (storeSetup a s).1.FocusKept s := by
  unfold storeSetup
  repeat' split
  iterate 4 exact .refl s
  exact (foldl_focusKept autoRelease_focusKept ..).trans (.of_eq rfl rfl)

theorem storeStart_focusKept (s : State) : (storeStart s).1.FocusKept s := by
  unfold storeStart
  split
  · exact .refl s
  · dsimp only
    split
    · exact .refl s
    · exact .of_eq rfl rfl

theorem triggerCommand_focusKept (s : State) : (triggerCommand s).1.FocusKept s := by
  unfold triggerCommand
  split
  · exact .refl s
  · exact takeTrigger_focusKept s

theorem slotCommand_focusKept {need : SlotState} {effect : State → Nat → State} (h : ∀ s n, (effect s n).FocusKept s) (n : Nat)
    (s : State) : (slotCommand need effect n s).1.FocusKept s := by
  unfold slotCommand
  repeat' split
  · exact .refl s
  · exact h s n
  · exact .refl s

end Sys2Proof.Machine
end

section
/-! PROOF of the statement on the focus and zoom controllers' data (R82, R90, R106): the resets, and every command and event. -/

namespace Sys2Proof.Machine

/-! ### The resets (R105, R119, R184) -/

theorem reset_focusOk : FocusZoomOk resetAfc resetZmc :=
  ⟨.of_atRest (.inl rfl) rfl rfl rfl rfl (Nat.zero_le _), .of_idle rfl rfl⟩

/-- RESET PIPELINE keeps the history (R105). -/
theorem pipeline_focusOk {f : Afc} (h : f.Consistent) (z : Zmc) : FocusZoomOk (afcPipeline f) (zmcPipeline z) :=
  ⟨.of_atRest (.inl rfl) rfl rfl rfl rfl h.history_le, .of_idle rfl rfl⟩

theorem resetScope_focusKept (full : Bool) (s : State) : (resetScope full s).FocusKept s := by
  cases full with
  | true => exact ⟨fun _ => reset_focusOk⟩
  | false =>
    have hhalted : (pipelineHalted s).FocusKept (abortFetch s) := ⟨fun h => pipeline_focusOk h.afc _⟩
    exact (applyIfStopped_commitsOnly _).focusKept.trans (hhalted.trans (abortFetch_focusKept s))

theorem resetCommand_focusKept (i : Instr) (tag : Tag) (p : Payload Nat) (s : State) :
    (resetCommand i tag p s).FocusKept s := by
  unfold resetCommand
  dsimp only
  repeat' split
  · next full _ =>
    have hscope := resetScope_focusKept full (s.setLnk (lnkTake s.lnk tag))
    exact State.focusKept_ite hscope hscope
  all_goals exact .of_eq rfl rfl

/-! ### Every command and event -/

theorem settle_of_due {s : State} (h : settleTimeoutDue s = true) : s.afc.state = .settle := by
  unfold settleTimeoutDue at h
  simp only [Bool.and_eq_true, decide_eq_true_eq] at h
  obtain ⟨⟨⟨-, hs⟩, -⟩, -⟩ := h
  exact hs

/-- Every command and event keeps AFC's and ZMC's data in order. -/
theorem exec_focusKept {i : Instr} {s t : State} (h : exec i s = .next t) : t.FocusKept s := by
  cases i with
  | powerOnReset => cases h; exact ⟨fun _ => reset_focusOk⟩
  | stepBoundary => cases h; exact stepBoundary_focusKept ..
  | referenceStep => cases h; exact referenceStep_focusKept ..
  | frameStart => cases h; exact frameStartPacket_focusKept s
  | frameEnd => cases h; exact frameEndPacket_focusKept s
  | frameTimeout => cases h; exact timeoutExpires_focusKept s
  | pathStop => cases h; exact hostCommand_focusKept fun _ => pathStop_focusKept
  | reset => cases h; exact resetCommand_focusKept ..
  | writeItemAcknowledged => cases h; exact itemAcknowledged_focusKept s
  | writeItemNotAcknowledged => cases h; exact itemNotAcknowledged_focusKept s
  | line => exact execLine_focusKept h
  | packetBoundary => exact execPacketBoundary_focusKept h
  | upstreamPacket => cases h; exact .of_eq rfl rfl
  | unknownCommand => cases h; exact takeCommand_focusKept fun u => .refl u
  | pathSetup =>
    cases h
    refine hostCommand_focusKept fun a u => ?_
    unfold pathSetup
    dsimp only
    repeat' split
    all_goals exact .of_eq rfl rfl
  | pathStart =>
    cases h
    refine hostCommand_focusKept fun _ u => ?_
    unfold pathStart
    split
    · exact .of_eq rfl rfl
    · exact .refl u
  | statsSetup => cases h; exact hostCommand_focusKept fun _ _ => .of_eq rfl rfl
  | aeMode => cases h; exact hostCommand_focusKept aeMode_focusKept
  | aeSetup => cases h; exact hostCommand_focusKept aeSetup_focusKept
  | aeManual => cases h; exact hostCommand_focusKept aeManual_focusKept
  | lensSetup => cases h; exact hostCommand_focusKept lensSetup_focusKept
  | focusMove => cases h; exact hostCommand_focusKept focusMove_focusKept
  | lensStop => cases h; exact hostCommand_focusKept fun _ => lensStop_focusKept
  | lensReference => cases h; exact hostCommand_focusKept fun _ => lensReference_focusKept
  | lensPark => cases h; exact hostCommand_focusKept fun _ => lensPark_focusKept
  | afSetup => cases h; exact hostCommand_focusKept afSetup_focusKept
  | afStart => cases h; exact hostCommand_focusKept fun _ => afStart_focusKept
  | afCancel => cases h; exact hostCommand_focusKept fun _ => afcCancel_focusKept
  | afHistory => cases h; exact hostCommand_focusKept fun _ u => .refl u
  | zoomSetup => cases h; exact hostCommand_focusKept zoomSetup_focusKept
  | zoomTo => cases h; exact hostCommand_focusKept zoomTo_focusKept
  | zoomBy => cases h; exact hostCommand_focusKept zoomBy_focusKept
  | zoomStop =>
    cases h
    exact hostCommand_focusKept fun _ u => (State.grant_focusKept _).trans (zmcStop_focusKept u)
  | stabMode =>
    cases h
    refine hostCommand_focusKept fun _ _ => ?_
    unfold stabModeCommand
    repeat' split
    all_goals exact .of_eq rfl rfl
  | stabCenter => cases h; exact hostCommand_focusKept fun _ _ => .of_eq rfl rfl
  | stabSetup =>
    cases h
    refine hostCommand_focusKept fun _ _ => ?_
    unfold stabSetup
    split <;> exact .of_eq rfl rfl
  | storeSetup => cases h; exact hostCommand_focusKept storeSetup_focusKept
  | storeStart => cases h; exact hostCommand_focusKept fun _ => storeStart_focusKept
  | storeStop => cases h; exact hostCommand_focusKept fun _ => storeStop_focusKept
  | trigger => cases h; exact hostCommand_focusKept fun _ => triggerCommand_focusKept
  | accept =>
    cases h
    exact hostCommand_focusKept (slotCommand_focusKept fun u n => (autoRelease_focusKept ..).trans (setSlot_focusKept ..))
  | discard => cases h; exact hostCommand_focusKept (slotCommand_focusKept freeSlotAt_focusKept)
  | release => cases h; exact hostCommand_focusKept (slotCommand_focusKept freeSlotAt_focusKept)
  | fetch tag => cases h; exact hostCommand_focusKept (fetchCommand_focusKept tag)
  | sendAbort => cases h; exact hostCommand_focusKept fun _ => abortFetch_focusKept
  | noticeArm => cases h; exact hostCommand_focusKept fun _ u => .of_eq rfl rfl
  | shutterSetup =>
    cases h
    refine hostCommand_focusKept fun _ _ => ?_
    unfold shutterSetup
    split <;> exact .of_eq rfl rfl
  | conditionsSetup =>
    cases h
    refine hostCommand_focusKept fun _ _ => ?_
    unfold conditionsSetup
    split <;> exact .of_eq rfl rfl
  | conditionsClear =>
    cases h
    refine hostCommand_focusKept fun _ _ => ?_
    unfold conditionsClear
    split <;> exact .of_eq rfl rfl
  | tableLoad =>
    cases h
    refine hostCommand_focusKept fun _ _ => ?_
    unfold loadTable
    repeat' split
    all_goals exact .of_eq rfl rfl
  | tableCommit => cases h; exact hostCommand_focusKept commitTable_focusKept
  | tableRead =>
    cases h
    refine hostCommand_focusKept fun _ _ => ?_
    unfold readTable
    repeat' split
    all_goals exact .refl _
  | statusQuery => cases h; exact hostCommand_focusKept fun _ u => .refl u
  | resetCompletion =>
    cases h
    unfold resetCompletes
    split
    · exact State.focusKept_ite (.of_eq rfl rfl) (.refl s)
    · exact .refl s
  | rateSample => cases h; exact rateSample_focusKept ..
  | readback => cases h; exact takeReadback_focusKept ..
  | strobeRise => cases h; exact State.focusKept_ite (.refl s) (.of_eq rfl rfl)
  | strobeFall => cases h; exact State.focusKept_ite (.of_eq rfl rfl) (.refl s)
  | shutterLevelChange => cases h; exact rawChanges_focusKept ..
  | debounceExpiry => cases h; exact debounceExpires_focusKept ..
  | gateExpiry => cases h; exact State.focusKept_ite (gateExpires_focusKept s) (.refl s)
  | settleTimeout =>
    cases h
    split
    · next hdue => exact (State.grant_focusKept _).trans (afcSettleSof_focusKept (settle_of_due hdue) _)
    · exact .refl s
  | timedLatchExpiry => cases h; exact State.focusKept_ite (.refl s) (.of_eq rfl rfl)

/-- Settles O11: each operation of AFC and ZMC keeps their data in order (afcFigures_focusKept, zmcMoveComplete_focusKept), and
the other blocks reach them through these operations alone. -/
theorem focusAndZoomStatesKept : Obligations.FocusAndZoomStatesKept := by
  intro s t ha hz h
  unfold step at h
  split at h
  · cases h; exact ⟨ha, hz⟩
  · next i rest _ =>
    obtain ⟨hafc, hzmc⟩ := (exec_focusKept (s := s.setPending rest) h).ok ⟨ha, hz⟩
    exact ⟨hafc, hzmc⟩

end Sys2Proof.Machine
end

section
/-! PROOF of the statement on AF_SETUP (R83): the check of its structural arguments, what a clamp acts on, and what a change
of mode, selection or windows leaves of AFC. -/

namespace Sys2Proof.Machine

/-! ### The structural arguments (R83) -/

theorem mapM_eq_some_map {α β : Type} {f : α → Option β} {g : α → β} {xs : List α} (h : ∀ x ∈ xs, f x = some (g x)) :
    xs.mapM f = some (xs.map g) := by
  induction xs with
  | nil => rfl
  | cons x xs ih =>
    rw [List.mapM_cons, h x List.mem_cons_self, ih fun y hy => h y (List.mem_cons_of_mem _ hy)]
    rfl

theorem mapM_eq_none_of_mem {α β : Type} {f : α → Option β} {xs : List α} {x : α} (hx : x ∈ xs) (h : f x = none) :
    xs.mapM f = none := by
  induction xs with
  | nil => cases hx
  | cons y xs ih =>
    rw [List.mapM_cons]
    rcases List.mem_cons.1 hx with rfl | hx
    · rw [h]
      rfl
    · rw [ih hx]
      cases f y <;> rfl

theorem yesNo?_of_le {n : Nat} (h : n ≤ 1) : yesNo? n = some (decide (n = 1)) := by
  match n, h with
  | 0, _ => rfl
  | 1, _ => rfl

theorem yesNo?_of_lt {n : Nat} (h : 1 < n) : yesNo? n = none := by
  match n, h with
  | n + 2, _ => rfl

/-- The mode of an argument in its range (R83). -/
def afModeOf (n : Nat) : AfMode := if n = 0 then .off else if n = 1 then .single else if n = 2 then .continuous else .manual

theorem afMode?_of_le {n : Nat} (h : n ≤ 3) : afMode? n = some (afModeOf n) := by
  match n, h with
  | 0, _ => rfl
  | 1, _ => rfl
  | 2, _ => rfl
  | 3, _ => rfl

theorem afMode?_of_lt {n : Nat} (h : 3 < n) : afMode? n = none := by
  match n, h with
  | n + 4, _ => rfl

theorem selection?_of_le {n : Nat} (h : n ≤ 1) : selection? n = some (if n = 0 then .selected else .multi) := by
  match n, h with
  | 0, _ => rfl
  | 1, _ => rfl

theorem selection?_of_lt {n : Nat} (h : 1 < n) : selection? n = none := by
  match n, h with
  | n + 2, _ => rfl

section
variable {s : State} {tag : Tag} {a : AfSetupArgs}

/-- A structural argument out of its range, or SELECTED of a window that is not enabled (R83). -/
def AfSetupRefused (a : AfSetupArgs) : Prop :=
  3 < a.mode ∨ 1 < a.selection ∨ 7 < a.selected ∨ (∃ k < 8, 1 < (windowArg a k).enabled) ∨
    (a.selection = 0 ∧ (windowArg a a.selected).enabled = 0)

/-- The choice that arguments in their ranges make. -/
def afChoiceOf (a : AfSetupArgs) : AfChoice :=
  ⟨afModeOf a.mode, if a.selection = 0 then .selected else .multi, a.selected,
    (List.range 8).map fun k => decide ((windowArg a k).enabled = 1)⟩

theorem afChoice?_of_refused (h : AfSetupRefused a) : afChoice? a = none := by
  unfold afChoice?
  split
  · next m sel en hm hsel hen =>
    have hflag {k : Nat} (hk : k < 8) : (windowArg a k).enabled ≤ 1 := Nat.le_of_not_lt fun hlt => by
      have hnone : enabledFlags a = none := mapM_eq_none_of_mem (List.mem_range.2 hk) (yesNo?_of_lt hlt)
      cases hnone.symm.trans hen
    rcases h with h | h | h | ⟨k, hk, h⟩ | ⟨hz, h⟩
    · cases (afMode?_of_lt h).symm.trans hm
    · cases (selection?_of_lt h).symm.trans hsel
    · exact if_pos h
    · exact absurd (hflag hk) (Nat.not_le.2 h)
    · split
      · rfl
      · next hle =>
        have hsome : enabledFlags a = some _ := mapM_eq_some_map fun k hk => yesNo?_of_le (hflag (List.mem_range.1 hk))
        cases hsome.symm.trans hen
        rw [hz] at hsel
        cases hsel
        have hlt : a.selected < 8 := by omega
        exact if_pos ⟨rfl, by simp [List.getD_eq_getElem?_getD, hlt, h]⟩
  · rfl

theorem afChoice?_of_not_refused (h : ¬ AfSetupRefused a) : afChoice? a = some (afChoiceOf a) := by
  unfold AfSetupRefused at h
  push Not at h
  obtain ⟨hmode, hsel, hselected, hflags, hwindow⟩ := h
  have hen : enabledFlags a = some _ := mapM_eq_some_map fun k hk => yesNo?_of_le (hflags k (List.mem_range.1 hk))
  unfold afChoice?
  rw [afMode?_of_le hmode, selection?_of_le hsel, hen]
  refine (if_neg (Nat.not_lt.2 hselected)).trans (if_neg ?_)
  rintro ⟨hz, hoff⟩
  have hz' : a.selection = 0 := by
    by_contra hne
    rw [if_neg hne] at hz
    cases hz
  have hlt : a.selected < 8 := by omega
  have hle := hflags a.selected hlt
  have hne := hwindow hz'
  simp [List.getD_eq_getElem?_getD, hlt] at hoff
  omega

/-! ### What a clamp acts on -/

theorem windowClamped_eq_true {w : WindowArgs} : windowClamped w = true ↔
    ¬ (w.fc ≤ 15 ∧ w.fr ≤ 11 ∧ 1 ≤ w.nc ∧ w.nc ≤ 16 ∧ 1 ≤ w.nr ∧ w.nr ≤ 12) := by
  unfold windowClamped
  simp only [Bool.or_eq_true, clampArg_changed_eq_true, clampNat]
  omega

theorem afClamped_eq_true : afClamped a = true ↔
    ¬ ((∀ k < 8, (windowArg a k).fc ≤ 15 ∧ (windowArg a k).fr ≤ 11 ∧ 1 ≤ (windowArg a k).nc ∧ (windowArg a k).nc ≤ 16 ∧
      1 ≤ (windowArg a k).nr ∧ (windowArg a k).nr ≤ 12) ∧ clampNat 8 255 a.coarseStep = a.coarseStep ∧
      clampNat 1 (coarseOf a / 2) a.fineStep = a.fineStep ∧ clampNat 0 4294967295 a.minFigure = a.minFigure ∧
      clampNat 1 30 a.monitorFrames = a.monitorFrames ∧ clampNat 1 15 a.monitorRatio = a.monitorRatio ∧
      clampNat 1 255 a.settleTimeout = a.settleTimeout) := by
  unfold afClamped
  simp only [Bool.or_eq_true, clampArg_changed_eq_true, List.any_eq_true, List.mem_range, windowClamped_eq_true]
  rw [← not_iff_not, not_not]
  push Not
  tauto

theorem clampedStatus_done_iff {changed : Bool} {p : Prop} (h : changed = true ↔ ¬ p) :
    (clampedStatus changed .done = .done ↔ p) ∧ (clampedStatus changed .done = .doneClamped ↔ ¬ p) := by
  rw [← h, ← not_iff_not (b := p), ← h]
  cases changed <;> simp [clampedStatus]

/-! ### The outcomes of AF_SETUP -/

theorem inScan_eq_false {x : AfState} (h1 : x ≠ .coarse) (h2 : x ≠ .fine) (h3 : x ≠ .settle) : x.inScan = false := by
  rw [Bool.eq_false_iff, ne_eq, inScan_iff]
  tauto

theorem exec_afSetup_busy (h : s.turnOf (.afSetup tag (.args a))) (hs : s.afc.state.inScan = true) :
    exec (.afSetup tag (.args a)) s = .next (s.replied tag 13 (answer .refusedBusy)) :=
  congrArg Host.Outcome.next (hostCommand_unchanged h (if_pos hs))

theorem exec_afSetup_arg (h : s.turnOf (.afSetup tag (.args a))) (hs : s.afc.state.inScan = false) (ha : AfSetupRefused a) :
    exec (.afSetup tag (.args a)) s = .next (s.replied tag 13 (answer .refusedArg)) := by
  refine congrArg Host.Outcome.next (hostCommand_unchanged h ?_)
  unfold afSetup
  rw [State.setLnk_afc, hs, afChoice?_of_refused ha]
  rfl

/-- A taken AF_SETUP that changes nothing of its choice (R83). -/
theorem afSetupTaken_of_same {c : AfChoice} (h : afChanges s.afc (afWithArgs s.afc c a) = false) :
    afSetupTaken s c a = s.setAfc (afWithArgs s.afc c a) := if_neg (by rw [h]; exact Bool.false_ne_true)

/-- One that does lets go of the lock, and IDLE is the state (R83). -/
theorem afSetupTaken_of_changed {c : AfChoice} (h : afChanges s.afc (afWithArgs s.afc c a) = true)
    (hs : s.afc.state.inScan = false) (hheld : s.aec.state ≠ .held) :
    afSetupTaken s c a = s.setAfc { (afWithArgs s.afc c a).unlocked with rescanAfterZoom := false, state := .idle } := by
  unfold afSetupTaken
  refine (if_pos h).trans ?_
  by_cases hleave : s.afc.state.lockedOn = true ∨ s.afc.state = .failed
  · rw [if_pos hleave, afcEnter_of_not_scanning _ rfl]
    exact if_neg hheld
  · rw [if_neg hleave]
    push Not at hleave
    obtain ⟨hlocked, hfailed⟩ := hleave
    have hidle : s.afc.state = .idle := by
      by_contra hne
      rcases afState_cases hne with (h | h | h) | h
      · exact hlocked (by rw [h]; rfl)
      · exact hlocked (by rw [h]; rfl)
      · exact hfailed h
      · rw [(inScan_iff _).2 h] at hs
        cases hs
    rw [← hidle]
    rfl

theorem afSetupTaken_ignores (c : AfChoice) (a : AfSetupArgs) : IgnoresBuffer (afSetupTaken · c a) := fun s b =>
  ite_withBuffer Iff.rfl (ite_withBuffer Iff.rfl (afcEnter_ignores .idle (s.setAfc _) b) rfl) rfl

theorem afSetupTaken_lnk (s : State) (c : AfChoice) (a : AfSetupArgs) : (afSetupTaken s c a).lnk = s.lnk := by
  unfold afSetupTaken
  dsimp only
  split
  · split
    · exact (afcEnter_controls ..).lnk
    · rfl
  · rfl

theorem exec_afSetup_taken (h : s.turnOf (.afSetup tag (.args a))) (hs : s.afc.state.inScan = false) (ha : ¬ AfSetupRefused a) :
    exec (.afSetup tag (.args a)) s = .next ((afSetupTaken s (afChoiceOf a) a).replied tag 13
      (answer (clampedStatus (afClamped a) .done))) := by
  refine congrArg Host.Outcome.next (hostCommand_ignoring (f := (afSetupTaken · (afChoiceOf a) a)) h (afSetupTaken_ignores _ _)
    (afSetupTaken_lnk ..) ?_)
  unfold afSetup
  rw [State.setLnk_afc, hs, afChoice?_of_not_refused ha]
  rfl

/-- The windows of the arguments, each within the grid (R83). -/
theorem windowsOf_choice : windowsOf (afChoiceOf a) a = (List.range 8).map fun k =>
    ⟨decide ((windowArg a k).enabled = 1), min 15 (windowArg a k).fc, min 11 (windowArg a k).fr,
      max 1 (min 16 (windowArg a k).nc), max 1 (min 12 (windowArg a k).nr)⟩ := by
  unfold windowsOf
  refine List.map_congr_left fun k hk => ?_
  have hflag : (afChoiceOf a).enabled.getD k false = decide ((windowArg a k).enabled = 1) := by
    simp [afChoiceOf, List.getD_eq_getElem?_getD, List.mem_range.1 hk]
  rw [hflag]
  unfold windowOf
  simp only [clampNat_zero]
  rfl

end

/-- Settles O40, by the order of the checks and by whether the choice changes. -/
theorem afSetupWritesParameters : Obligations.AfSetupWritesParameters := by
  refine ⟨fun s tag a h hs => exec_afSetup_busy h ((inScan_iff _).2 hs), fun s tag a h h1 h2 h3 ha =>
    exec_afSetup_arg h (inScan_eq_false h1 h2 h3) ha, ?_⟩
  intro s tag a h h1 h2 h3 hheld ha mode windows coarse f same kept
  have hs := inScan_eq_false h1 h2 h3
  have hf : afWithArgs s.afc (afChoiceOf a) a = f := by
    unfold afWithArgs
    rw [windowsOf_choice]
    simp only [clampNat_zero]
    rfl
  have hsame : afChanges s.afc f = true ↔ ¬ same := by
    unfold afChanges
    rw [decide_eq_true_iff]
    tauto
  have hstatus : afClamped a = true ↔ ¬ kept := by
    rw [afClamped_eq_true]
    simp only [clampNat_zero]
    rfl
  have htaken := exec_afSetup_taken h hs ha
  obtain ⟨hdone, hclamped⟩ := clampedStatus_done_iff hstatus
  refine ⟨_, hdone, hclamped, fun hkeep => ?_, fun hchange => ?_⟩
  · rw [htaken, afSetupTaken_of_same (by rw [hf]; exact Bool.eq_false_iff.2 fun hc => hsame.1 hc hkeep), hf]
  · rw [htaken, afSetupTaken_of_changed (by rw [hf]; exact hsame.2 hchange) hs hheld, hf]
    rfl

end Sys2Proof.Machine
end

section
/-! SUPPORT. A scan's end (R82, R101): AFC enters a state without a scan, its move cancelled and one condition raised; and a drive
that grants nothing (R65). -/

namespace Sys2Proof.Machine

/-- A drive that moves, or has no move in hand, grants nothing (R65). -/
theorem State.grant_of_settled {s : State}
    (h : s.lds.running.isSome = true ∨ s.lds.reference.isSome = true ∨ s.lds.noMoves = true) : s.grant = s := by
  rcases h with h | h | h
  iterate 2 exact grantLoop_of_not_idle (by simp [Lds.idle, Option.isNone_eq_false_iff.2 h]) Config.grantRounds
  · exact grantLoop_of_noMoves h Config.grantRounds

/-- A cancel leaves such a drive one. -/
theorem settled_of_cancel {l : Lds} (h : l.running.isSome = true ∨ l.reference.isSome = true ∨ l.noMoves = true) (src : Source) :
    (ldsCancel l src).running.isSome = true ∨ (ldsCancel l src).reference.isSome = true ∨ (ldsCancel l src).noMoves = true := by
  rcases h with h | h | h
  · exact .inl ((Option.isSome_map ..).trans h)
  · exact .inr (.inl h)
  · exact .inr (.inr ((congrArg Lds.noMoves (ldsCancel_of_noMoves h src)).trans h))

section
variable {s : State} (a : Afc) {k : Nat} {st : AfState}

/-- The exposure not held, nothing else changes (R33). -/
theorem afcEnter_ended_of_not_held (hst : st.scanning = false) (hheld : s.aec.state ≠ .held) :
    afcEnter (((s.cancelMove .af).setAfc a).raise k) st =
      ((s.setLds (ldsCancel s.lds .af)).setAfc { a with state := st }).setCnd (cndRaise s.cnd k) := by
  rw [afcEnter_of_not_scanning _ hst]
  exact if_neg hheld

/-- The end of a scan, whether the exposure was held or not (R33). -/
theorem afcEnter_ended_values (hst : st.scanning = false) (hk : k ≠ condAeSettled) :
    let t := afcEnter (((s.cancelMove .af).setAfc a).raise k) st
    t.afc = { a with state := st } ∧ t.lds = ldsCancel s.lds .af ∧
    t.cnd.condition k = (cndRaise s.cnd k).condition k ∧ (s.aec.state = .held → t.aec.state = .run) ∧
    (s.aec.state ≠ .held → t.aec = s.aec ∧ t.cnd = cndRaise s.cnd k) ∧
    (((t.setAfc s.afc).setLds s.lds).setAec s.aec).setCnd s.cnd = s := by
  have hbase : (((s.cancelMove .af).setAfc a).raise k).ControlsOnly s := by constructor <;> rfl
  obtain ⟨hafc, hlds, hzmc, hheld, hother⟩ := afcEnter_leaving_values (((s.cancelMove .af).setAfc a).raise k) hst
  obtain ⟨e, c, henter, hagree⟩ := afcEnter_eq (((s.cancelMove .af).setAfc a).raise k) st
  refine ⟨hafc, hlds, ?_, hheld, hother, ((afcEnter_controls ..).trans hbase).undone hzmc⟩
  exact (congrArg (fun u : State => u.cnd.condition k) henter).trans (hagree k hk).1

end

/-- AFC fails, the exposure not held (R82). -/
theorem afcFail_of_not_held {s : State} (r : FailReason) (h : s.aec.state ≠ .held) : afcFail s r =
    ((s.setLds (ldsCancel s.lds .af)).setAfc { s.afc.unlocked with failure := some r, scan := none, state := .failed }).setCnd
      (cndRaise s.cnd condAfFailed) := afcEnter_ended_of_not_held _ rfl h

end Sys2Proof.Machine
end

section
/-! PROOF of the statement on SETTLE_TIMEOUT and GATE_EXPIRY (R82, R100, R152, R161): each by its guard. -/

namespace Sys2Proof.Machine

/-! ### SETTLE_TIMEOUT (R100) -/

theorem settleTimeoutDue_iff {s : State} : settleTimeoutDue s = true ↔ s.intake.mode ≠ .stopped ∧ s.afc.state = .settle ∧
    s.aec.settled = false ∧ s.afc.settleTimeout ≤ s.afc.settleCount + 1 := by
  simp [settleTimeoutDue, and_assoc]

theorem exec_settleTimeout_of_not_due {s : State} (h : ¬ settleTimeoutDue s = true) : exec .settleTimeout s = .next s :=
  congrArg Host.Outcome.next (if_neg h)

/-- The scan fails, and the drive grants nothing over it (R100). -/
theorem exec_settleTimeout_of_due {s : State} (h : settleTimeoutDue s = true) (hheld : s.aec.state ≠ .held)
    (hlds : s.lds.running.isSome = true ∨ s.lds.reference.isSome = true ∨ s.lds.noMoves = true) :
    exec .settleTimeout s = .next (((s.setLds (ldsCancel s.lds .af)).setAfc { s.afc with
      state := .failed, failure := some .settleTimeout, scan := none, settleCount := s.afc.settleCount + 1
      primary := none, lock := none, primaryFigure := none, frame := none }).setCnd (cndRaise s.cnd condAfFailed)) := by
  obtain ⟨-, -, -, hcount⟩ := settleTimeoutDue_iff.1 h
  have hfail := afcFail_of_not_held (s := s.setAfc { s.afc with settleCount := s.afc.settleCount + 1 }) .settleTimeout hheld
  have hsof := afcSettleSof_waiting.trans ((if_pos hcount).trans hfail)
  refine congrArg Host.Outcome.next ((if_pos h).trans ?_)
  rw [hsof]
  exact State.grant_of_settled (settled_of_cancel hlds .af)

/-! ### GATE_EXPIRY (R152) -/

theorem gateExpiring_iff {s : State} : gateExpiring s = true ↔ s.cst.state = .gating ∧ ¬ gatePasses s = true ∧
    s.cst.gateCount = s.cst.params.gateTimeout := by
  simp [gateExpiring, and_assoc]

theorem exec_gateExpiry_of_not_expiring {s : State} (h : s.intake.mode = .stopped ∨ ¬ gateExpiring s = true) :
    exec .gateExpiry s = .next s :=
  congrArg Host.Outcome.next (if_neg fun ⟨hmode, hexp⟩ => h.elim hmode (absurd hexp))

theorem exec_gateExpiry_of_expiring {s : State} (hmode : s.intake.mode ≠ .stopped) (h : gateExpiring s = true) :
    exec .gateExpiry s = .next (gateExpires s) := congrArg Host.Outcome.next (if_pos ⟨hmode, h⟩)

/-- An expired gate that cancels passes a withheld release on (R152, R161). -/
theorem gateExpires_passed {s : State} (h : s.cst.state = .gating) (hc : s.cst.params.timeoutAction = .cancel) :
    let u := ((s.raise condTriggerTimeout).setAec { s.aec with program := .live, markDue := false }).setCst { s.cst with
      state := if s.cst.params.mode = .pretrigger then .armed else .idle, forced := false, withheldRelease := false }
    gateExpires s = if s.cst.withheldRelease = true ∧ s.cst.s1.debounced = false then afcS1Release u else u := by
  intro u
  rw [gateExpires_of_cancel h hc]
  refine passWithheld_eq ?_
  rw [State.setCst_cst]
  by_cases hm : s.cst.params.mode = .pretrigger
  · exact .inr (if_pos hm)
  · exact .inl (if_neg hm)

/-- Settles O45: each event acts exactly where its guard holds. -/
theorem timeoutsExpire : Obligations.TimeoutsExpire := by
  unfold Obligations.TimeoutsExpire
  intro passes
  have hexpiring (s : State) : gateExpiring s = true ↔ s.cst.state = .gating ∧ ¬ passes s ∧
      s.cst.gateCount = s.cst.params.gateTimeout := by
    rw [gateExpiring_iff, gatePasses_iff]
  refine ⟨fun s h => exec_settleTimeout_of_not_due ?_, fun s hmode hstate hsettled hcount hheld hlds => ?_,
    fun s h => exec_gateExpiry_of_not_expiring ?_, fun s hmode hgating hfails hcount haction => ?_,
    fun s hmode hgating hfails hcount haction => ?_⟩
  · rw [settleTimeoutDue_iff]
    rintro ⟨hmode, hstate, hsettled, hcount⟩
    rcases h with h | h | h | h
    · exact hmode h
    · exact h hstate
    · exact Bool.false_ne_true (hsettled.symm.trans h)
    · omega
  · have hdue := settleTimeoutDue_iff.2 ⟨hmode, hstate, hsettled, hcount⟩
    refine ⟨_, exec_settleTimeout_of_due hdue hheld hlds, rfl, rfl, rfl, fun hlen => cndRaise_latch ?_, rfl⟩
    rw [hlen]
    decide
  · rw [hexpiring]
    tauto
  · rw [exec_gateExpiry_of_expiring hmode ((hexpiring s).2 ⟨hgating, hfails, hcount⟩), gateExpires_of_proceed haction]
  · intro u
    rw [exec_gateExpiry_of_expiring hmode ((hexpiring s).2 ⟨hgating, hfails, hcount⟩), gateExpires_passed hgating haction]

end Sys2Proof.Machine
end

section
/-! PROOF of the statement on what AFC decides in a scan (R91 to R94, R82): the positions of a phase, the peaks after a coarse
entry, the primary window, the lock choice, and the failure of a scan. -/

namespace Sys2Proof.Machine

/-! ### The positions of a phase (R88, R93) -/

section
variable {start other step i : Nat}

/-- How many positions a phase has before the other end. -/
def stepCount (start other step : Nat) : Nat := (distance start other + step - 1) / step

theorem lt_stepCount_iff (hstep : 1 ≤ step) : i < stepCount start other step ↔ i * step < distance start other := by
  unfold stepCount
  rw [Nat.lt_iff_add_one_le, Nat.le_div_iff_mul_le hstep, Nat.succ_mul]
  omega

theorem stepPositions_eq_append (start other step : Nat) : stepPositions start other step =
    (List.range (stepCount start other step)).map
      (fun i => if start ≤ other then start + i * step else start - i * step) ++ [other] := rfl

theorem getElem?_stepPositions_of_lt (h : i < stepCount start other step) :
    (stepPositions start other step)[i]? = some (if start ≤ other then start + i * step else start - i * step) := by
  rw [stepPositions_eq_append, List.getElem?_append_left (by simpa using h)]
  simp [h]

theorem getElem?_stepPositions_last : (stepPositions start other step)[stepCount start other step]? = some other := by
  rw [stepPositions_eq_append, List.getElem?_append_right (by simp)]
  simp

theorem getElem?_stepPositions_of_gt (h : stepCount start other step < i) : (stepPositions start other step)[i]? = none := by
  rw [stepPositions_eq_append, List.getElem?_eq_none_iff]
  simpa using h

end

/-! ### The peaks after an entry (R91) -/

theorem join_getElem? (ps : List (Option Peak)) (k : Nat) : (ps[k]?).join = ps.getD k none := by
  rw [List.getD_eq_getElem?_getD]
  cases ps[k]? <;> rfl

theorem peakAfter_of_beats {old : Option Peak} {f pos : Nat} (h : beatsPeak old f pos = true) : peakAfter old f pos = some ⟨f, pos⟩ :=
  if_pos h

theorem peakAfter_of_not_beats {old : Option Peak} {f pos : Nat} (h : beatsPeak old f pos = false) : peakAfter old f pos = old :=
  if_neg (Bool.eq_false_iff.1 h)

/-- The same entry does not beat its own peak. -/
theorem peakAfter_idem (old : Option Peak) (f pos : Nat) : peakAfter (peakAfter old f pos) f pos = peakAfter old f pos := by
  by_cases h : beatsPeak old f pos = true
  · rw [peakAfter_of_beats h]
    exact peakAfter_of_not_beats (by simp [beatsPeak])
  · have hnot := Bool.eq_false_iff.2 h
    rw [peakAfter_of_not_beats hnot, peakAfter_of_not_beats hnot]

theorem getD_modifyAt {ps : List (Option Peak)} {k : Nat} (hk : k < ps.length) (f : Option Peak → Option Peak) (j : Nat) :
    (modifyAt f ps j).getD k none = if j = k then f (ps.getD k none) else ps.getD k none := by
  simp only [List.getD_eq_getElem?_getD, getElem?_modifyAt, List.getElem?_eq_getElem hk]
  split <;> rfl

/-- The peaks of the windows of some figures are renewed, and no others. -/
theorem foldl_peakAfter (gs : List EntryFigure) (pos : Nat) (φ : Nat → Nat) (hφ : ∀ g ∈ gs, g.f = φ g.window)
    {ps : List (Option Peak)} {k : Nat} (hk : k < ps.length) :
    (gs.foldl (fun ps g => modifyAt (fun old => peakAfter old g.f pos) ps g.window) ps).getD k none =
      if k ∈ gs.map (·.window) then peakAfter (ps.getD k none) (φ k) pos else ps.getD k none := by
  induction gs generalizing ps with
  | nil => simp
  | cons g gs ih =>
    have hg := hφ g List.mem_cons_self
    rw [List.foldl_cons, ih (fun x hx => hφ x (List.mem_cons_of_mem _ hx)) (by simpa using hk), getD_modifyAt hk]
    by_cases hw : g.window = k
    · subst hw
      rw [hg]
      simp [peakAfter_idem]
    · simp [hw, Ne.symm hw]

theorem length_peaksAfter (ps : List (Option Peak)) (e : HistoryEntry) : (peaksAfter ps e).length = ps.length := by
  unfold peaksAfter
  induction e.figures generalizing ps with
  | nil => rfl
  | cons g gs ih => rw [List.foldl_cons, ih, length_modifyAt]

section
variable {s : State} {b : Bool} {fn : Nat} {records : List WindowRecord}

/-- F of a window in the entry of a sample frame: 0 where it is not of the window set. -/
def sampledF (s : State) (records : List WindowRecord) (k : Nat) : Nat :=
  if k ∈ s.afc.windowSet then (records.getD k ⟨false, 0, false, 0, 0, 0⟩).f else 0

theorem entryF_sampleEntry (k : Nat) : entryF (sampleEntry s b fn records) k = sampledF s records k := by
  unfold entryF sampleEntry sampledF
  dsimp only
  induction s.afc.windowSet with
  | nil => rfl
  | cons w ws ih =>
    rw [List.map_cons, List.find?_cons]
    by_cases hw : w = k
    · subst hw
      simp
    · simp only [hw, decide_false, ih, List.mem_cons, Ne.symm hw, false_or]

theorem getD_peaksAfter_sampleEntry {ps : List (Option Peak)} {k : Nat} (hk : k < ps.length) :
    (peaksAfter ps (sampleEntry s b fn records)).getD k none =
      if k ∈ s.afc.windowSet then peakAfter (ps.getD k none) (sampledF s records k) s.lds.focus.pos else ps.getD k none := by
  have hfold := foldl_peakAfter (sampleEntry s b fn records).figures s.lds.focus.pos (sampledF s records) (fun g hg => ?_) hk
  · refine hfold.trans ?_
    simp [sampleEntry]
  · obtain ⟨w, hw, rfl⟩ := List.mem_map.1 hg
    exact (if_pos hw).symm

end

theorem dropsAfter_of_beats {old : Option Peak} {f pos : Nat} (h : beatsPeak old f pos = true) (n : Nat) :
    dropsAfter old f pos n = 0 := if_pos h

theorem dropsAfter_of_not_beats {q : Peak} {f pos : Nat} (h : beatsPeak (some q) f pos = false) (n : Nat) :
    dropsAfter (some q) f pos n = if 8 * f < 7 * q.f then n + 1 else 0 := if_neg (Bool.eq_false_iff.1 h)

/-! ### The lock choice (R94) -/

/-- An entry's peak is no better than the best one: a smaller F, or the same nearer infinity. -/
def Peak.NoBetter (p best : Peak) : Prop := p.f < best.f ∨ (p.f = best.f ∧ p.pos ≤ best.pos)

theorem peakAfter_of_best {best : Peak} {f pos : Nat} (h : (⟨f, pos⟩ : Peak).NoBetter best) :
    peakAfter (some best) f pos = some best := by
  refine peakAfter_of_not_beats ?_
  unfold Peak.NoBetter at h
  simp only [beatsPeak, decide_eq_false_iff_not]
  dsimp only at h
  omega

theorem peakAfter_noBetter {old : Option Peak} {best : Peak} {f pos : Nat} (hold : ∀ p ∈ old, p.NoBetter best)
    (h : (⟨f, pos⟩ : Peak).NoBetter best) : ∀ p ∈ peakAfter old f pos, p.NoBetter best := by
  intro p hp
  unfold peakAfter at hp
  split at hp
  · cases hp
    exact h
  · exact hold p hp

/-- The best of all beats what is not equal to it. -/
theorem peakAfter_reaches {old : Option Peak} {best : Peak} (hold : ∀ p ∈ old, p.NoBetter best) :
    peakAfter old best.f best.pos = some best := by
  cases old with
  | none => rfl
  | some p =>
    by_cases h : beatsPeak (some p) best.f best.pos = true
    · exact peakAfter_of_beats h
    · rw [peakAfter_of_not_beats (Bool.eq_false_iff.2 h)]
      have hp := hold p rfl
      simp only [beatsPeak, decide_eq_true_eq] at h
      unfold Peak.NoBetter at hp
      have hf : p.f = best.f := by omega
      have hpos : p.pos = best.pos := by omega
      cases p
      cases best
      simp_all

section
variable {w : Nat} {best : HistoryEntry}

/-- Once found, the best entry stays the choice. -/
theorem foldl_betterLock_of_best {es : List HistoryEntry}
    (h : ∀ e ∈ es, e.fine = true → (⟨entryF e w, e.pos⟩ : Peak).NoBetter ⟨entryF best w, best.pos⟩) :
    es.foldl (betterLock w) (some ⟨entryF best w, best.pos⟩) = some ⟨entryF best w, best.pos⟩ := by
  induction es with
  | nil => rfl
  | cons e es ih =>
    have hstay : betterLock w (some ⟨entryF best w, best.pos⟩) e = some ⟨entryF best w, best.pos⟩ := by
      unfold betterLock
      split
      · next hfine => exact peakAfter_of_best (h e List.mem_cons_self hfine)
      · rfl
    rw [List.foldl_cons, hstay]
    exact ih fun x hx => h x (List.mem_cons_of_mem _ hx)

theorem foldl_betterLock {es : List HistoryEntry} (hmem : best ∈ es) (hfine : best.fine = true)
    (h : ∀ e ∈ es, e.fine = true → (⟨entryF e w, e.pos⟩ : Peak).NoBetter ⟨entryF best w, best.pos⟩) {old : Option Peak}
    (hold : ∀ p ∈ old, p.NoBetter ⟨entryF best w, best.pos⟩) :
    es.foldl (betterLock w) old = some ⟨entryF best w, best.pos⟩ := by
  induction es generalizing old with
  | nil => cases hmem
  | cons e es ih =>
    have hrest : ∀ x ∈ es, x.fine = true → (⟨entryF x w, x.pos⟩ : Peak).NoBetter ⟨entryF best w, best.pos⟩ :=
      fun x hx => h x (List.mem_cons_of_mem _ hx)
    rw [List.foldl_cons]
    rcases List.mem_cons.1 hmem with rfl | hmem
    · have hreach : betterLock w old best = some ⟨entryF best w, best.pos⟩ := by
        unfold betterLock
        rw [if_pos hfine]
        exact peakAfter_reaches (best := ⟨entryF best w, best.pos⟩) hold
      rw [hreach]
      exact foldl_betterLock_of_best hrest
    · refine ih hmem hrest ?_
      unfold betterLock
      split
      · next he => exact peakAfter_noBetter hold (h e List.mem_cons_self he)
      · exact hold

/-- The fine entry of the greatest F, ties to the larger position (R94). -/
theorem lockChoice_eq {es : List HistoryEntry} (hmem : best ∈ es) (hfine : best.fine = true)
    (h : ∀ e ∈ es, e.fine = true → entryF e w < entryF best w ∨ (entryF e w = entryF best w ∧ e.pos ≤ best.pos)) :
    lockChoice es w = some ⟨entryF best w, best.pos⟩ := foldl_betterLock hmem hfine h nofun

end

section
variable {s : State} {sc : Scan}

theorem afcNextPosition_of_position {q : Nat} (h : sc.positions[sc.next]? = some q) : afcNextPosition s sc =
    (s.setAfc { s.afc with scan := some { sc with next := sc.next + 1, wait := .move } }).setLds
      (ldsPlace s.lds .af ⟨.focus, q, s.lds.params.afClass⟩) := by
  unfold afcNextPosition
  rw [h]
  rfl

theorem afcNextPosition_of_coarse_end (h : sc.positions[sc.next]? = none) (hs : s.afc.state = .coarse) :
    afcNextPosition s sc = afcCoarseEnd s sc := by
  unfold afcNextPosition
  rw [h]
  exact if_pos hs

theorem afcNextPosition_of_fine_end (h : sc.positions[sc.next]? = none) (hs : s.afc.state ≠ .coarse) :
    afcNextPosition s sc = afcLockChoice s sc := by
  unfold afcNextPosition
  rw [h]
  exact if_neg hs

/-- The lock choice with its entry found (R94). -/
theorem afcLockChoice_of_choice {k q : Peak} {w : Nat} (hw : sc.primary = some w) (hk : lockChoice s.afc.history w = some k)
    (hq : sc.coarsePeak = some q) : afcLockChoice s sc =
      if 4 * k.f < 3 * q.f then afcFail s .unstable
      else (s.setAfc { s.afc with scan := some { sc with wait := .lockMove, lockPos := k.pos } }).setLds
        (ldsPlace s.lds .af ⟨.focus, k.pos, s.lds.params.afClass⟩) := by
  unfold afcLockChoice
  rw [hw, hq]
  change (match lockChoice s.afc.history w, some q with | some k, some p => _ | _, _ => _) = _
  rw [hk]
  rfl

/-! ### The primary window (R92) -/

/-- A window that may be primary at the end of the coarse phase, with its peak (R92). -/
def QualifiesPrimary (a : Afc) (sc : Scan) (k : Nat) (q : Peak) : Prop :=
  sc.peaks.getD k none = some q ∧ a.minFigure ≤ q.f ∧ (a.selection = .selected → k = a.selected) ∧
    (a.selection = .multi → k ∈ a.windowSet)

/-- The better of the primary so far and window w (R92). -/
def betterWindow (peaks : List (Option Peak)) (minFigure : Nat) (best : Option (Nat × Peak)) (w : Nat) : Option (Nat × Peak) :=
  match (peaks[w]?).join with
  | some p =>
    if p.f < minFigure then best
    else
      match best with
      | some b => if b.2.pos < p.pos then some (w, p) else best
      | none => some (w, p)
  | none => best

theorem multiPrimary_eq_foldl (peaks : List (Option Peak)) (ws : List Nat) (m : Nat) :
    multiPrimary peaks ws m = ws.foldl (betterWindow peaks m) none := by
  unfold multiPrimary
  refine congrArg (fun f => ws.foldl f none) (funext fun best => funext fun w => ?_)
  unfold betterWindow
  cases (peaks[w]?).join with
  | none => rfl
  | some p => cases best <;> rfl

section
variable {peaks : List (Option Peak)} {m w : Nat} {best : Option (Nat × Peak)} {p : Peak}

theorem betterWindow_of_unqualified (h : ∀ q, peaks.getD w none = some q → q.f < m) : betterWindow peaks m best w = best := by
  unfold betterWindow
  rw [join_getElem?]
  cases hp : peaks.getD w none with
  | none => rfl
  | some q => exact if_pos (h q hp)

theorem betterWindow_of_farther (hp : peaks.getD w none = some p) (hm : m ≤ p.f) (h : ∀ b ∈ best, b.2.pos < p.pos) :
    betterWindow peaks m best w = some (w, p) := by
  unfold betterWindow
  rw [join_getElem?, hp]
  refine (if_neg (Nat.not_lt.2 hm)).trans ?_
  cases best with
  | none => rfl
  | some b => exact if_pos (h b rfl)

theorem betterWindow_of_nearer {b : Nat × Peak} (hp : peaks.getD w none = some p) (hm : m ≤ p.f) (h : p.pos ≤ b.2.pos) :
    betterWindow peaks m (some b) w = some b := by
  unfold betterWindow
  rw [join_getElem?, hp]
  exact (if_neg (Nat.not_lt.2 hm)).trans (if_neg (Nat.not_lt.2 h))

theorem multiPrimary_eq_none {ws : List Nat} (h : ∀ w ∈ ws, ∀ q, peaks.getD w none = some q → q.f < m) :
    multiPrimary peaks ws m = none := by
  rw [multiPrimary_eq_foldl]
  induction ws with
  | nil => rfl
  | cons w ws ih =>
    rw [List.foldl_cons, betterWindow_of_unqualified (h w List.mem_cons_self)]
    exact ih fun x hx => h x (List.mem_cons_of_mem _ hx)

/-- Once found, the window of the farthest peak stays the primary one. -/
theorem foldl_betterWindow_of_best {ws : List Nat} {k : Nat} {q : Peak}
    (h : ∀ w ∈ ws, ∀ r, peaks.getD w none = some r → m ≤ r.f → r.pos ≤ q.pos) :
    ws.foldl (betterWindow peaks m) (some (k, q)) = some (k, q) := by
  induction ws with
  | nil => rfl
  | cons w ws ih =>
    have hstay : betterWindow peaks m (some (k, q)) w = some (k, q) := by
      by_cases hw : ∀ r, peaks.getD w none = some r → r.f < m
      · exact betterWindow_of_unqualified hw
      · push Not at hw
        obtain ⟨r, hr, hm⟩ := hw
        exact betterWindow_of_nearer hr hm (h w List.mem_cons_self r hr hm)
    rw [List.foldl_cons, hstay]
    exact ih fun x hx => h x (List.mem_cons_of_mem _ hx)

/-- In a window set in order, the first of the windows whose peaks lie farthest up (R92). -/
theorem foldl_betterWindow {ws : List Nat} {k : Nat} {q : Peak} (hmem : k ∈ ws) (hsort : ws.Pairwise (· < ·))
    (hk : peaks.getD k none = some q) (hq : m ≤ q.f)
    (h : ∀ w ∈ ws, ∀ r, peaks.getD w none = some r → m ≤ r.f → r.pos < q.pos ∨ (r.pos = q.pos ∧ k ≤ w))
    (hbest : ∀ b ∈ best, b.2.pos < q.pos) : ws.foldl (betterWindow peaks m) best = some (k, q) := by
  induction ws generalizing best with
  | nil => cases hmem
  | cons w ws ih =>
    obtain ⟨hlt, hsort⟩ := List.pairwise_cons.1 hsort
    have hrest := fun x hx => h x (List.mem_cons_of_mem w hx)
    rw [List.foldl_cons]
    rcases List.mem_cons.1 hmem with rfl | hmem
    · rw [betterWindow_of_farther hk hq hbest]
      refine foldl_betterWindow_of_best fun x hx r hr hm => ?_
      have := hrest x hx r hr hm
      omega
    · refine ih hmem hsort hrest ?_
      by_cases hw : ∀ r, peaks.getD w none = some r → r.f < m
      · rwa [betterWindow_of_unqualified hw]
      · push Not at hw
        obtain ⟨r, hr, hm⟩ := hw
        have hfar : r.pos < q.pos := by
          have := h w List.mem_cons_self r hr hm
          have := hlt k hmem
          omega
        by_cases hb : ∀ b ∈ best, b.2.pos < r.pos
        · rw [betterWindow_of_farther hr hm hb]
          intro b hb
          cases hb
          exact hfar
        · push Not at hb
          obtain ⟨b, hb, hle⟩ := hb
          cases hb
          rw [betterWindow_of_nearer hr hm hle]
          exact hbest

end

theorem coarseChoice_eq_none (h : ∀ k q, ¬ QualifiesPrimary s.afc sc k q) : coarseChoice s.afc sc = none := by
  unfold coarseChoice
  cases hsel : s.afc.selection with
  | selected =>
    dsimp only
    rw [join_getElem?]
    cases hp : sc.peaks.getD s.afc.selected none with
    | none => rfl
    | some p => exact if_pos (Nat.lt_of_not_le fun hm => h _ p ⟨hp, hm, fun _ => rfl, fun hmulti => nomatch hsel.symm.trans hmulti⟩)
  | multi =>
    exact multiPrimary_eq_none fun w hw q hq =>
      Nat.lt_of_not_le fun hm => h w q ⟨hq, hm, fun hone => (nomatch hsel.symm.trans hone), fun _ => hw⟩

theorem coarseChoice_eq_some {k : Nat} {q : Peak} (hk : QualifiesPrimary s.afc sc k q)
    (hsort : s.afc.selection = .multi → s.afc.windowSet.Pairwise (· < ·))
    (h : ∀ j r, QualifiesPrimary s.afc sc j r → r.pos < q.pos ∨ (r.pos = q.pos ∧ k ≤ j)) : coarseChoice s.afc sc = some (k, q) := by
  obtain ⟨hpeak, hmin, hone, hset⟩ := hk
  unfold coarseChoice
  cases hsel : s.afc.selection with
  | selected =>
    dsimp only
    rw [join_getElem?, ← hone hsel, hpeak]
    exact if_neg (Nat.not_lt.2 hmin)
  | multi =>
    refine (multiPrimary_eq_foldl ..).trans ?_
    exact foldl_betterWindow (best := none) (hset hsel) (hsort hsel) hpeak hmin
      (fun w hw r hr hm => h w r ⟨hr, hm, fun hone => (nomatch hsel.symm.trans hone), fun _ => hw⟩) nofun

theorem afcCoarseEnd_of_none (h : coarseChoice s.afc sc = none) : afcCoarseEnd s sc = afcFail s .lowContrast := by
  unfold afcCoarseEnd
  rw [h]

/-- The fine phase begins about the peak of the primary window (R93). -/
theorem afcCoarseEnd_of_choice {k : Nat} {q : Peak} (h : coarseChoice s.afc sc = some (k, q)) (hrun : s.aec.state ≠ .run) :
    let positions := finePositions s.lds.focus.pos (max sc.inf (q.pos - s.afc.coarseStep))
      (min sc.near (q.pos + s.afc.coarseStep)) s.afc.fineStep
    afcCoarseEnd s sc = (s.setAfc { s.afc with
        state := .fine
        scan := some
          { sc with primary := some k, coarsePeak := some q, positions := positions, next := 1, wait := .move } }).setLds
        (ldsPlace s.lds .af ⟨.focus, positions.headD 0, s.lds.params.afClass⟩) := by
  unfold afcCoarseEnd
  rw [h]
  dsimp only
  rw [afcEnter_of_scanning _ rfl, if_neg (by exact hrun)]
  rfl

end

/-- Settles O43, clause by clause: the positions by their number, the entry by its window, the phases' ends by what qualifies. -/
theorem focusScanDecides : Obligations.FocusScanDecides := by
  unfold Obligations.FocusScanDecides
  intro beats
  have hbeats (old : Option Peak) (f pos : Nat) : beatsPeak old f pos = true ↔ beats old f pos := by
    cases old <;> simp [beatsPeak, beats]
  refine ⟨fun start other step i hstep => ⟨fun h => ?_, fun hle hgt => ?_, fun hle hi => ?_⟩,
    fun s sc fn records b hs hscan hwait hroom => ?_, fun s sc => ⟨fun q hq => afcNextPosition_of_position hq,
      afcNextPosition_of_coarse_end, fun hend hs best w q hw hq hmem hfine hbest => ?_⟩,
    fun s sc hrun => ⟨fun h => ?_, fun k q hk hsort hbest => ?_⟩, fun s r => ⟨_, rfl, ?_⟩⟩
  · exact getElem?_stepPositions_of_lt ((lt_stepCount_iff hstep).2 h)
  · have hcount : stepCount start other step = i := by
      have hnot := mt (lt_stepCount_iff (i := i) hstep).1 (Nat.not_lt.2 hle)
      rcases hgt with rfl | hgt
      · omega
      · have hlt := (lt_stepCount_iff (i := i - 1) hstep).2 hgt
        omega
    exact hcount ▸ getElem?_stepPositions_last
  · have hnot := mt (lt_stepCount_iff (i := i - 1) hstep).1 (Nat.not_lt.2 hle)
    exact getElem?_stepPositions_of_gt (by omega)
  · intro p f old
    have hpeak (k : Nat) (hk : k < sc.peaks.length) := getD_peaksAfter_sampleEntry (s := s) (b := b) (fn := fn) (records := records) hk
    have hdrops : (scanAfterEntry s.afc sc (sampleEntry s b fn records)).drops =
        dropsAfter (old s.afc.selected) (f s.afc.selected) p sc.drops := by
      unfold scanAfterEntry
      rw [join_getElem?, entryF_sampleEntry]
      rfl
    have hfigures : afcFigures s fn records = afcEntry s sc b fn records := by
      rw [afcFigures_scanning hscan (.inl hs), hwait]
    rw [hfigures, afcEntry_coarse hroom hs]
    refine ⟨s.setAfc { s.afc with historyMade := true, history := s.afc.history ++ [sampleEntry s b fn records] },
      scanAfterEntry s.afc sc (sampleEntry s b fn records), List.length_append, rfl, rfl, length_peaksAfter .., rfl,
      fun k hk => ⟨fun hset hbeat => ?_, fun hno => ?_⟩, fun hbeat => ?_, fun q hq hno => ?_, fun hsel htwo => if_pos ⟨hsel, htwo⟩,
      fun hor => if_neg fun ⟨hsel, htwo⟩ => ?_⟩
    · exact (hpeak k hk).trans ((if_pos hset).trans (peakAfter_of_beats ((hbeats ..).2 hbeat)))
    · refine (hpeak k hk).trans ?_
      split
      · next hset =>
        exact peakAfter_of_not_beats (Bool.eq_false_iff.2 (mt (hbeats ..).1 (hno.resolve_left (not_not.2 hset))))
      · rfl
    · exact hdrops.trans (dropsAfter_of_beats ((hbeats ..).2 hbeat) _)
    · rw [hq] at hno
      rw [hdrops, hq]
      exact dropsAfter_of_not_beats (Bool.eq_false_iff.2 (mt (hbeats ..).1 hno)) _
    · rcases hor with hmulti | hfew
      · cases hsel.symm.trans hmulti
      · omega
  · have hchoice := afcLockChoice_of_choice hw (lockChoice_eq hmem hfine hbest) hq
    rw [afcNextPosition_of_fine_end hend (by rw [hs]; decide), hchoice]
    exact ⟨fun hlt => if_pos hlt, fun hle => if_neg (Nat.not_lt.2 hle)⟩
  · exact afcCoarseEnd_of_none (coarseChoice_eq_none h)
  · exact afcCoarseEnd_of_choice (coarseChoice_eq_some hk hsort hbest) hrun
  · exact afcEnter_ended_values _ rfl (by decide)

end Sys2Proof.Machine
end

section
/-! SUPPORT. A request placed on a busy drive (R63, R64), the segment end (R110), and ZMC's operations by what they place and
whether they look at the command buffer. -/

namespace Sys2Proof.Machine

/-! ### A request on a busy drive (R63, R64) -/

section
variable {l : Lds} {src : Source} {r : Request}

/-- The running move of the source takes the new target (R64). -/
theorem ldsPlace_of_running {m : Move} (hm : l.running = some m) (hsrc : m.source = src) (hstop : m.stop = false)
    (hvalid : (l.motor r.motor).valid = true) (htop : r.target ≤ motorTop r.motor) :
    ldsPlace l src r = { l with running := some { m with target := r.target, speed := r.speed, retarget := true } } := by
  rcases ldsPlace_cases l src r with ⟨hinvalid, -⟩ | ⟨-, ⟨n, hn, -, -, hplace⟩ | ⟨hother, -⟩ | ⟨hmarked, -⟩⟩
  · exact absurd hvalid (by simp [hinvalid])
  · cases hm.symm.trans hn
    rw [hplace, Request.clamped_of_le htop]
  · exact absurd hsrc (hother m hm)
  · exact absurd (hmarked m hm hsrc) (by simp [hstop])

theorem suspends_eq_true : l.suspends src = true ↔ ∃ x ∈ l.stack, x.source = src := by simp [Lds.suspends]

/-- The suspended move of the source takes it (R64). -/
theorem ldsPlace_of_suspended (hrunning : ∀ m, l.running = some m → m.source ≠ src) (hs : ∃ x ∈ l.stack, x.source = src)
    (hvalid : (l.motor r.motor).valid = true) (htop : r.target ≤ motorTop r.motor) :
    ldsPlace l src r = { l with stack := l.stack.map fun x =>
      if x.source = src then { x with target := r.target, speed := r.speed, retarget := true } else x } := by
  have hs := suspends_eq_true.2 hs
  rcases ldsPlace_cases l src r with ⟨hinvalid, -⟩ | ⟨-, ⟨m, hm, hsrc, -⟩ | ⟨-, -, hplace⟩ | ⟨-, hfree, -⟩⟩
  · exact absurd hvalid (by simp [hinvalid])
  · exact absurd hsrc (hrunning m hm)
  · rw [hplace, Request.clamped_of_le htop]
    rfl
  · rcases hfree with ⟨m, hm, hsrc⟩ | hfree
    · exact absurd hsrc (hrunning m hm)
    · exact absurd hs (by simp [hfree])

end

/-! ### Targets and segments (R108 to R110) -/

theorem zoomTarget_eq (wish : Int) :
    zoomTarget wish = ⟨(max 0 (min 2048 wish)).toNat, decide (wish < 0 ∨ 2048 < wish)⟩ := by
  unfold zoomTarget clampInt
  refine congrArg (Clamped.mk _) ?_
  rw [Bool.eq_iff_iff]
  simp only [bne_iff_ne, ne_eq, decide_eq_true_eq]
  omega

section
variable {p t : Nat}

theorem segmentEnd_le (hp : p ≤ 2048) (ht : t ≤ 2048) : segmentEnd p t ≤ 2048 := by
  unfold segmentEnd
  split
  · omega
  · split <;> omega

/-- A segment goes toward the target (R110). -/
theorem segmentEnd_lt_iff : segmentEnd p t < p ↔ t < p := by
  unfold segmentEnd
  split
  · omega
  · split <;> omega

theorem segmentEnd_ne (h : p ≠ t) : p ≠ segmentEnd p t := by
  unfold segmentEnd
  split
  · omega
  · split <;> omega

end

/-! ### A taken zoom command (R108, R110, R111) -/

section
variable {s : State} {t : Clamped Nat} {speed : Nat}

theorem zmcCommand_of_idle (h : s.zmc.zoom = none) : zmcCommand s t speed = zmcStart s t speed := by
  unfold zmcCommand
  rw [h]

theorem zmcCommand_of_moving {z : ZoomInHand} (hz : s.zmc.zoom = some z) (hm : s.zmc.mode = .moving) :
    zmcCommand s t speed = zmcRetarget s z t speed := by
  unfold zmcCommand
  rw [hz]
  exact if_pos hm

/-- At the target already, nothing moves (R108). -/
theorem zmcStart_of_reached (h : t.value = s.lds.zoom.pos) : zmcStart s t speed =
    if t.changed then (s.raise condZoomDone).raise condZoomEnd else s.raise condZoomDone := if_pos h

/-- Otherwise the first segment is requested (R108, R110). -/
theorem zmcStart_of_away (h : t.value ≠ s.lds.zoom.pos) : zmcStart s t speed =
    (s.setZmc { s.zmc with
      mode := .moving, zoom := some ⟨t.value, t.changed, segmentEnd s.lds.zoom.pos t.value⟩
      travel := some ⟨decide (s.lds.zoom.pos < t.value), speed⟩ }).place .zoom
        ⟨.zoom, segmentEnd s.lds.zoom.pos t.value, speed⟩ := if_neg h

/-- The zoom in hand takes a new target (R111). -/
def State.retargetedZoom (s : State) (t : Clamped Nat) (speed : Nat) : State :=
  s.setZmc { s.zmc with
    zoom := some ⟨t.value, t.changed, segmentEnd s.lds.zoom.pos t.value⟩
    travel := some ⟨if t.value = s.lds.zoom.pos then (s.zmc.travel.map (·.up)).getD true
      else decide (s.lds.zoom.pos < t.value), speed⟩ }

theorem zmcRetarget_of_same {z : ZoomInHand}
    (h : segmentEnd s.lds.zoom.pos t.value = z.segmentEnd ∧ speed = (s.zmc.travel.map (·.speed)).getD 0) :
    zmcRetarget s z t speed = s.retargetedZoom t speed := if_pos (decide_eq_true h)

theorem zmcRetarget_of_other {z : ZoomInHand}
    (h : ¬ (segmentEnd s.lds.zoom.pos t.value = z.segmentEnd ∧ speed = (s.zmc.travel.map (·.speed)).getD 0)) :
    zmcRetarget s z t speed = (s.retargetedZoom t speed).place .zoom ⟨.zoom, segmentEnd s.lds.zoom.pos t.value, speed⟩ :=
  if_neg (by rwa [decide_eq_true_eq])

end

/-! ### The command buffer is none of ZMC's -/

theorem zmcCommand_ignores (t : Clamped Nat) (speed : Nat) : IgnoresBuffer (zmcCommand · t speed) := by
  intro s b
  dsimp only
  cases hz : s.zmc.zoom with
  | none =>
    rw [zmcCommand_of_idle hz, zmcCommand_of_idle (s := s.withBuffer b) hz]
    exact ite_withBuffer Iff.rfl (ite_withBuffer Iff.rfl rfl rfl) rfl
  | some z =>
    unfold zmcCommand
    rw [hz, show (s.withBuffer b).zmc.zoom = some z from hz]
    exact ite_withBuffer Iff.rfl (ite_withBuffer Iff.rfl rfl rfl) rfl

theorem zmcMoveStopped_ignores : IgnoresBuffer zmcMoveStopped := by
  intro s b
  refine ite_withBuffer Iff.rfl rfl ?_
  rw [zmcTrack_ignores s b]
  exact zmcEnd_ignores false _ b

theorem zmcStop_ignores : IgnoresBuffer zmcStop := fun s b =>
  ite_withBuffer Iff.rfl (ite_withBuffer Iff.rfl (zmcMoveStopped_ignores ((s.cancelMove .zoom).setZmc _) b) rfl) rfl

end Sys2Proof.Machine
end

section
/-! PROOF of the statement on the zoom commands and the outcomes of a segment (R98, R101, R106 to R118). -/

namespace Sys2Proof.Machine

/-! ### ZOOM_TO and ZOOM_BY (R108, R109) -/

/-- A ZOOM_TO or ZOOM_BY with the wish it makes, and whether its argument is within its range. -/
def IsZoomCommand (s : State) (tag : Tag) (i : Instr) (code : Byte) (wish : Int) (inRange : Bool) (speed : Nat) : Prop :=
  (∃ t : Nat, i = .zoomTo tag (.args ⟨t, speed⟩) ∧ code = 18 ∧ wish = t ∧ inRange = true) ∨
  (∃ d : Int, i = .zoomBy tag (.args ⟨d, speed⟩) ∧ code = 19 ∧ wish = zoomBase s + max (-2048) (min 2048 d) ∧
    inRange = decide (-2048 ≤ d ∧ d ≤ 2048))

section
variable {s : State} {tag : Tag} {i : Instr} {code : Byte} {wish : Int} {inRange : Bool} {speed : Nat}

theorem zoomTo_refused {a : MoveArgs} {st : Status} (hr : zoomRefusal s a.speed = some st) : zoomTo a s = (s, answer st) := by
  unfold zoomTo
  rw [hr]

theorem zoomBy_refused {a : ZoomByArgs} {st : Status} (hr : zoomRefusal s a.speed = some st) : zoomBy a s = (s, answer st) := by
  unfold zoomBy
  rw [hr]

theorem clampedStatus_accepted (changed : Bool) :
    clampedStatus changed .accepted = if changed = false then .accepted else .doneClamped := by cases changed <;> rfl

theorem zoomTo_taken {a : MoveArgs} (hr : zoomRefusal s a.speed = none) : zoomTo a s =
    ((zmcCommand s (zoomTarget a.target) a.speed).grant,
      answer (if (zoomTarget a.target).changed = false then .accepted else .doneClamped)) := by
  unfold zoomTo
  rw [hr, ← clampedStatus_accepted]

theorem zoomBy_taken {a : ZoomByArgs} (hr : zoomRefusal s a.speed = none) :
    let t := zoomTarget (zoomBase s + max (-2048) (min 2048 a.delta))
    zoomBy a s = ((zmcCommand s t a.speed).grant,
      answer (if decide (-2048 ≤ a.delta ∧ a.delta ≤ 2048) = true ∧ t.changed = false then .accepted else .doneClamped)) := by
  intro t
  have hrange : ((clampIntArg (-2048) 2048 a.delta).changed || t.changed) = false ↔
      decide (-2048 ≤ a.delta ∧ a.delta ≤ 2048) = true ∧ t.changed = false := by
    simp only [clampIntArg, clampInt, Bool.or_eq_false_iff, bne_eq_false_iff_eq, decide_eq_true_eq]
    refine and_congr_left' ?_
    omega
  unfold zoomBy
  rw [hr]
  change (_, answer (clampedStatus (_ || t.changed) _)) = _
  rw [clampedStatus_accepted]
  simp only [hrange]
  rfl

theorem exec_zoom_refused {st : Status} (h : s.turnOf i) (hi : IsZoomCommand s tag i code wish inRange speed)
    (hr : zoomRefusal s speed = some st) : exec i s = .next (s.replied tag code (answer st)) := by
  rcases hi with ⟨t, rfl, rfl, -, -⟩ | ⟨d, rfl, rfl, -, -⟩
  · exact congrArg Host.Outcome.next (hostCommand_unchanged h (zoomTo_refused hr))
  · exact congrArg Host.Outcome.next (hostCommand_unchanged h (zoomBy_refused hr))

/-- A zoom command and the grant that follows it. -/
theorem zoomGranted_ignores (t : Clamped Nat) (speed : Nat) : IgnoresBuffer fun s => (zmcCommand s t speed).grant := fun s b =>
  (congrArg State.grant (zmcCommand_ignores t speed s b)).trans (grant_ignores _ b)

theorem zoomGranted_lnk (s : State) (t : Clamped Nat) (speed : Nat) : (zmcCommand s t speed).grant.lnk = s.lnk :=
  ((State.grant_controls _).trans (zmcCommand_controls ..)).lnk

theorem exec_zoom_taken (h : s.turnOf i) (hi : IsZoomCommand s tag i code wish inRange speed) (hr : zoomRefusal s speed = none) :
    exec i s = .next ((zmcCommand s (zoomTarget wish) speed).grant.replied tag code
      (answer (if inRange = true ∧ (zoomTarget wish).changed = false then .accepted else .doneClamped))) := by
  rcases hi with ⟨t, rfl, rfl, rfl, rfl⟩ | ⟨d, rfl, rfl, rfl, rfl⟩
  · simp only [true_and]
    exact congrArg Host.Outcome.next (hostCommand_ignoring h (zoomGranted_ignores _ _) (zoomGranted_lnk ..) (zoomTo_taken hr))
  · exact congrArg Host.Outcome.next (hostCommand_ignoring h (zoomGranted_ignores _ _) (zoomGranted_lnk ..) (zoomBy_taken hr))

theorem zoomRefusal_of_speed (h : 3 < speed) : zoomRefusal s speed = some .refusedArg := if_pos h

theorem zoomRefusal_of_stopping (h : speed ≤ 3) (hm : s.zmc.mode = .stopping) : zoomRefusal s speed = some .refusedBusy :=
  (if_neg (Nat.not_lt.2 h)).trans (if_pos hm)

theorem zoomRefusal_of_lost (h : speed ≤ 3) (hm : s.zmc.mode ≠ .stopping) (hv : s.lds.zoom.valid = false) :
    zoomRefusal s speed = some .refusedUnreferenced :=
  (if_neg (Nat.not_lt.2 h)).trans ((if_neg hm).trans (if_pos (by rw [hv]; rfl)))

theorem zoomRefusal_eq_none (h : speed ≤ 3) (hm : s.zmc.mode ≠ .stopping) (hv : s.lds.zoom.valid = true) :
    zoomRefusal s speed = none :=
  (if_neg (Nat.not_lt.2 h)).trans ((if_neg hm).trans (if_neg (by rw [hv]; exact Bool.false_ne_true)))

/-- The first segment on a drive without moves starts at once, and AFC is told (R65, R101, R110). -/
theorem grant_place_zoom {u : State} {e : Nat} (hmoves : u.lds.noMoves = true) (href : u.lds.reference = none)
    (hvalid : u.lds.zoom.valid = true) (htop : e ≤ 2048) (hne : u.lds.zoom.pos ≠ e) :
    (u.place .zoom ⟨.zoom, e, speed⟩).grant = afcZoomGranted (u.setLds (u.lds.start (moveOf u.lds .zoom ⟨.zoom, e, speed⟩))) := by
  refine (grantLoop_place (r := ⟨.zoom, e, speed⟩) hmoves href hvalid htop 63).trans ?_
  rw [grantOne_of_travel (r := ⟨.zoom, e, speed⟩) rfl hne]
  rfl

end

/-! ### The outcomes of a segment (R112 to R114, R117, R118) -/

/-- The tracking request as it is made (R117, R118). -/
def State.tracked (u : State) : State :=
  if u.zmc.tracking = true ∧ (u.afc.state = .locked ∨ u.afc.state = .monitor) ∧ u.tableValid zoomId = true ∧
      u.lds.focus.valid = true ∧ u.lds.zoom.valid = true
  then
    let wish := (u.afc.lock.map (·.d)).getD 0 + u.infAt u.lds.zoom.pos
    let limited := decide (u.nearAt u.lds.zoom.pos < wish)
    ((u.setZmc { u.zmc with trackLimit := limited }).setAfc { u.afc with
      rescanAfterZoom := u.afc.rescanAfterZoom ||
        (limited && decide (u.afc.state = .monitor ∧ u.afc.mode = .continuous)) }).setLds
      (ldsPlace u.lds .track ⟨.focus, min wish (u.nearAt u.lds.zoom.pos), u.lds.params.trackClass⟩)
  else u

theorem zmcTrack_eq_tracked (u : State) : zmcTrack u = u.tracked := by
  have htracks : zmcTracks u = true ↔ u.zmc.tracking = true ∧ (u.afc.state = .locked ∨ u.afc.state = .monitor) ∧
      u.tableValid zoomId = true ∧ u.lds.focus.valid = true ∧ u.lds.zoom.valid = true := by
    simp [zmcTracks, lockedOn_iff, and_assoc]
  unfold zmcTrack State.tracked
  refine if_congr htracks ?_ rfl
  dsimp only
  rw [State.setZmc_afc]
  generalize decide (u.nearAt u.lds.zoom.pos < (u.afc.lock.map (·.d)).getD 0 + u.infAt u.lds.zoom.pos) = limited
  cases limited with
  | false => simp only [Bool.false_and, Bool.or_false]; rfl
  | true =>
    simp only [Bool.true_and]
    cases decide (u.afc.state = .monitor ∧ u.afc.mode = .continuous) with
    | false => simp only [Bool.or_false]; rfl
    | true => simp only [Bool.or_true]; rfl

section
variable {u : State} {z : ZoomInHand}

theorem moveComplete_zoom_of_idle (h : u.zmc.mode = .idle) : moveComplete u .zoom = u := by
  change zmcMoveComplete u = u
  unfold zmcMoveComplete
  rw [h]

theorem moveStopped_zoom_of_moving (h : u.zmc.mode ≠ .idle) : moveStopped u .zoom = zmcEnd u.tracked false :=
  (if_neg h).trans (congrArg (zmcEnd · false) (zmcTrack_eq_tracked u))

@[simp] theorem tracked_lds_zoom (u : State) : u.tracked.lds.zoom = u.lds.zoom :=
  zmcTrack_eq_tracked u ▸ (zmcTrack_controls u).zoom

theorem tracked_travel (u : State) : u.tracked.zmc.travel = u.zmc.travel := by
  obtain ⟨b, c, -, hz⟩ := zmcTrack_eq u
  rw [← zmcTrack_eq_tracked, hz]

theorem moveComplete_zoom_of_moving (hm : u.zmc.mode = .moving) (hz : u.zmc.zoom = some z) : moveComplete u .zoom =
    if u.lds.zoom.pos = z.target then zmcEnd u.tracked z.endClamp else zmcNextSegment u.tracked z := by
  change zmcMoveComplete u = _
  unfold zmcMoveComplete
  rw [hm, hz]
  dsimp only
  rw [zmcTrack_eq_tracked, tracked_lds_zoom]

theorem moveComplete_zoom_of_stopping (hm : u.zmc.mode = .stopping) (hz : u.zmc.zoom = some z) : moveComplete u .zoom =
    zmcEnd u.tracked (decide (u.lds.zoom.pos = z.target) && z.endClamp) := by
  change zmcMoveComplete u = _
  unfold zmcMoveComplete
  rw [hm, hz]
  dsimp only
  rw [zmcTrack_eq_tracked]
  rfl

/-- AFC takes up a rescan once ZMC is IDLE (R98). -/
theorem afcZoomIdle_of_rescan (h : u.afc.rescanAfterZoom = true) :
    let v := u.setAfc { u.afc with rescanAfterZoom := false }
    afcZoomIdle u = if u.afc.mode = .continuous ∧ (u.afc.state = .idle ∨ u.afc.state.lockedOn = true) ∧ afcRangeChecks v = none
      then afcScanStart v else v := by
  intro v
  refine (if_pos h).trans ?_
  by_cases hfree : u.afc.mode = .continuous ∧ (u.afc.state = .idle ∨ u.afc.state.lockedOn = true)
  · refine (if_pos hfree).trans ?_
    change (match afcRangeChecks v with | none => afcScanStart v | some _ => v) = _
    cases hr : afcRangeChecks v with
    | none => exact (if_pos ⟨hfree.1, hfree.2, rfl⟩).symm
    | some st => exact (if_neg fun ⟨_, _, hnone⟩ => nomatch hnone).symm
  · exact (if_neg hfree).trans (if_neg fun ⟨hmode, hstate, _⟩ => hfree ⟨hmode, hstate⟩).symm

end

/-! ### ZOOM_STOP (R113) -/

section
variable {s : State} {tag : Tag}

theorem exec_zoomStop (h : s.turnOf (.zoomStop tag (.args ()))) :
    exec (.zoomStop tag (.args ())) s = .next ((zmcStop s).grant.replied tag 20 (answer .done)) := by
  refine congrArg Host.Outcome.next (hostCommand_ignoring (f := fun s => (zmcStop s).grant) h (fun s b => ?_)
    ((State.grant_controls _).trans (zmcStop_controls s)).lnk rfl)
  exact (congrArg State.grant (zmcStop_ignores s b)).trans (grant_ignores _ b)

/-- ZOOM's move cancelled, the zoom stopping (R113). -/
def State.zoomStopping (s : State) : State :=
  (s.setZmc { s.zmc with mode := .stopping }).setLds (ldsCancel s.lds .zoom)

theorem zmcStop_of_moving (hm : s.zmc.mode = .moving) : zmcStop s =
    if s.lds.cancelStopsNow .zoom then moveStopped s.zoomStopping .zoom else s.zoomStopping := if_pos hm

theorem cancelStopsNow_zoom {l : Lds} : l.cancelStopsNow .zoom = true ↔
    l.slots.zoom.isSome = true ∨ ∃ x ∈ l.stack, x.source = .zoom := by
  unfold Lds.cancelStopsNow
  rw [Bool.or_eq_true, suspends_eq_true]
  rfl

end

/-- On a drive that moves the request waits, and nothing is granted (R65). -/
theorem grant_place_elsewhere {u : State} {l : Lds} {src : Source} {r : Request}
    (hlds : u.lds.running.isSome = true ∨ u.lds.reference.isSome = true) (hplace : ldsPlace u.lds src r = l)
    (hrunning : l.running.isSome = u.lds.running.isSome) (href : l.reference = u.lds.reference) :
    (u.place src r).grant = u.setLds l := by
  have hplaced : u.place src r = u.setLds l := congrArg u.setLds hplace
  rw [hplaced]
  refine State.grant_of_settled (hlds.imp ?_ ?_)
  · exact hrunning.trans
  · exact fun h => .inl ((congrArg Option.isSome href).trans h)

/-- The move of the first segment, with the backlash where it runs down (R61, R110). -/
theorem start_moveOf_segment {l : Lds} {t speed : Nat} :
    let e := segmentEnd l.zoom.pos t
    l.start (moveOf l .zoom ⟨.zoom, e, speed⟩) = { l with
      running := some
        { source := .zoom, motor := .zoom, level := l.params.levels.zoom, target := e, speed := speed, phase := .main
          dest := if t < l.zoom.pos then e - l.params.zoomBacklash else e, stop := false, mute := false, retarget := false }
      timer := some (stepPeriod .zoom speed) } := by
  intro e
  have hdest : mainDest l.zoom.pos e l.params.zoomBacklash = if t < l.zoom.pos then e - l.params.zoomBacklash else e :=
    if_congr segmentEnd_lt_iff rfl rfl
  rw [← hdest]
  rfl

theorem zmcNextSegment_tracked {u : State} (z : ZoomInHand) :
    let e := segmentEnd u.lds.zoom.pos z.target
    zmcNextSegment u.tracked z = (u.tracked.setZmc { u.tracked.zmc with zoom := some { z with segmentEnd := e } }).setLds
      (ldsPlace u.tracked.lds .zoom ⟨.zoom, e, (u.zmc.travel.map (·.speed)).getD 0⟩) := by
  intro e
  rw [← tracked_travel u]
  unfold zmcNextSegment
  rw [tracked_lds_zoom]
  rfl

theorem zoomSetup_refused {s : State} {n : Nat} (h : 1 < n) : zoomSetup n s = (s, answer .refusedArg) := by
  obtain ⟨k, rfl⟩ : ∃ k, n = k + 2 := ⟨n - 2, by omega⟩
  rfl

/-- Settles O46: the zoom commands by their checks and by where the segment stands, the outcomes by ZMC's mode. -/
theorem zoomCommandsRunSegments : Obligations.ZoomCommandsRunSegments := by
  unfold Obligations.ZoomCommandsRunSegments
  intro settles elsewhere
  refine ⟨?_, ?_, ?_, ?_, ?_⟩
  · intro s tag i code wish inRange speed h hcommand target clamped p e status
    have hi : IsZoomCommand s tag i code wish inRange speed := by
      refine hcommand.imp_right fun ⟨d, hd, hcode, hwish, hrange⟩ => ⟨d, hd, hcode, hwish.trans ?_, hrange⟩
      unfold zoomBase
      cases s.zmc.zoom <;> rfl
    have htaken (hspeed : speed ≤ 3) (hm : s.zmc.mode ≠ .stopping) (hv : s.lds.zoom.valid = true) :
        exec i s = .next ((zmcCommand s ⟨target, clamped⟩ speed).grant.replied tag code status) := by
      rw [exec_zoom_taken h hi (zoomRefusal_eq_none hspeed hm hv), zoomTarget_eq]
    have htarget : target ≤ 2048 := by omega
    refine ⟨fun hspeed => exec_zoom_refused h hi (zoomRefusal_of_speed hspeed),
      fun hspeed hm => exec_zoom_refused h hi (zoomRefusal_of_stopping hspeed hm),
      fun hspeed hm hv => exec_zoom_refused h hi (zoomRefusal_of_lost hspeed hm hv),
      fun hspeed hm hz hv hp hlds => ?_, fun hspeed hm hz hv hp htop => ?_, fun z hspeed hm hz hv htop => ?_⟩
    · have hcommanded := (zmcCommand_of_idle (speed := speed) hz).trans (zmcStart_of_reached (t := ⟨target, clamped⟩) hp.symm)
      rw [htaken hspeed (by rw [hm]; decide) hv, hcommanded]
      refine congrArg (fun v : State => Host.Outcome.next (v.replied tag code status)) (State.grant_of_settled ?_)
      cases clamped <;> exact hlds
    · intro u v
      have hcommanded := (zmcCommand_of_idle (speed := speed) hz).trans
        (zmcStart_of_away (t := ⟨target, clamped⟩) (Ne.symm hp))
      have hend : e ≤ 2048 := segmentEnd_le htop htarget
      rw [htaken hspeed (by rw [hm]; decide) hv, hcommanded]
      refine ⟨fun hother hstack => ?_, fun hmoves href => ?_⟩
      · exact congrArg (fun w : State => Host.Outcome.next (w.replied tag code status))
          (grant_place_elsewhere (u := u) hother.1 (ldsPlace_of_free hother.2 (suspends_eq_false.2 hstack) hv hend) rfl rfl)
      · refine congrArg (fun w : State => Host.Outcome.next (w.replied tag code status))
          ((grant_place_zoom (u := u) hmoves href hv hend (segmentEnd_ne hp)).trans ?_)
        exact congrArg (fun l : Lds => afcZoomGranted (u.setLds l)) start_moveOf_segment
    · intro up same u leaves
      have hend : e ≤ 2048 := segmentEnd_le htop htarget
      have hcommanded := zmcCommand_of_moving (t := ⟨target, clamped⟩) (speed := speed) hz hm
      have htaken := htaken hspeed (by rw [hm]; decide) hv
      have hleaves {l : Lds} (hgrant : (zmcRetarget s z ⟨target, clamped⟩ speed).grant = u.setLds l) : leaves l := by
        change exec i s = _
        rw [htaken, hcommanded, hgrant]
      have hplaced {l : Lds} (hother : ¬ same) (hlds : s.lds.running.isSome = true ∨ s.lds.reference.isSome = true)
          (hplace : ldsPlace s.lds .zoom ⟨.zoom, e, speed⟩ = l) (hrunning : l.running.isSome = s.lds.running.isSome)
          (href : l.reference = s.lds.reference) : leaves l :=
        hleaves ((congrArg State.grant (zmcRetarget_of_other hother)).trans
          (grant_place_elsewhere (u := u) hlds hplace hrunning href))
      refine ⟨fun hsame hlds => ?_, fun m hother hrun hsrc hstop => ?_, fun hother hlds hstack => ?_,
        fun hother hlds hstack => ?_⟩
      · exact hleaves ((congrArg State.grant (zmcRetarget_of_same hsame)).trans (State.grant_of_settled hlds))
      · exact hplaced hother (.inl (Option.isSome_iff_exists.2 ⟨m, hrun⟩)) (ldsPlace_of_running hrun hsrc hstop hv hend)
          (Option.isSome_iff_exists.2 ⟨m, hrun⟩).symm rfl
      · exact hplaced hother hlds.1 (ldsPlace_of_suspended hlds.2 hstack hv hend) rfl rfl
      · exact hplaced hother hlds.1 (ldsPlace_of_free hlds.2 (suspends_eq_false.2 hstack) hv hend) rfl rfl
  · intro s tag n h
    refine ⟨?_, ?_, fun hn => congrArg Host.Outcome.next (hostCommand_unchanged h (zoomSetup_refused hn))⟩
    · rintro rfl
      exact congrArg Host.Outcome.next (hostCommand_replied h rfl rfl)
    · rintro rfl
      exact congrArg Host.Outcome.next (hostCommand_replied h rfl rfl)
  · intro s tag h
    refine ⟨fun hm hlds => ?_, fun hm => ?_⟩
    · rw [exec_zoomStop h, show zmcStop s = s from if_neg hm, State.grant_of_settled hlds]
    · intro u
      rw [exec_zoomStop h, zmcStop_of_moving hm]
      refine ⟨fun hslot hstack hrun => ?_, fun hnow => ?_⟩
      · rw [if_neg fun hnow => (cancelStopsNow_zoom.1 hnow).elim (by simp [hslot]) fun ⟨x, hx, hsrc⟩ => hstack x hx hsrc,
          State.grant_of_settled (.inl ((Option.isSome_map ..).trans hrun))]
        rfl
      · rw [if_pos (cancelStopsNow_zoom.2 hnow)]
        rfl
  · intro u tracked idled ended
    have hended (v : State) (atEnd : Bool) : zmcEnd v atEnd = ended v atEnd := rfl
    refine ⟨fun hm => ⟨moveComplete_zoom_of_idle hm, if_pos hm, if_pos hm⟩,
      fun hm => ⟨moveStopped_zoom_of_moving hm, if_neg hm⟩, ?_⟩
    intro z hz e
    refine ⟨fun hm hp => ?_, fun hm hp => ?_, moveComplete_zoom_of_stopping (hz := hz)⟩
    · exact (moveComplete_zoom_of_moving hm hz).trans (if_pos hp)
    · exact (moveComplete_zoom_of_moving hm hz).trans ((if_neg hp).trans (zmcNextSegment_tracked z))
  · intro u
    refine ⟨fun hno => if_neg (Bool.eq_false_iff.1 hno), fun hrescan => ?_, fun hno => if_neg (Bool.eq_false_iff.1 hno),
      fun hscan => ?_⟩
    · intro v scans
      have hidle := afcZoomIdle_of_rescan hrescan
      simp only [lockedOn_iff, afcRangeChecks_eq_none] at hidle
      exact ⟨fun hs => hidle.trans (if_pos hs), fun hs => hidle.trans (if_neg hs)⟩
    · obtain ⟨hafc, hlds, hcond, hheld, hother, hrest⟩ := afcEnter_ended_values (s := u) (k := condAfAborted) (st := .idle)
        { u.afc with scan := none, rescanAfterZoom := u.afc.rescanAfterZoom || decide (u.afc.mode = .continuous) }
        rfl (by decide)
      exact ⟨_, if_pos hscan, hafc, hlds, hcond, hheld, hother, hrest⟩

end Sys2Proof.Machine
end

section
/-! SUPPORT. The fields and the layouts of HISTORY and STATUS (R186, R187, R190, section 11.5), one rule each. -/

namespace Sys2Proof.Machine

/-! ### Fields (R187) -/

theorem fieldBool_eq (b : Bool) : fieldBool b = if b = true then [1#8] else [0#8] := by cases b <;> rfl

/-- FFh stands for an absent window. -/
theorem fieldPrimary_eq (k : Option Nat) : fieldPrimary k = field8 (k.getD 255) := by cases k <;> rfl

theorem foldl_if_add {α : Type} (p : α → Bool) (f : α → Nat) (xs : List α) (n : Nat) :
    xs.foldl (fun acc x => if p x then acc + f x else acc) n = n + (xs.map fun x => if p x then f x else 0).sum := by
  induction xs generalizing n with
  | nil => rfl
  | cons x xs ih =>
    rw [List.foldl_cons, ih, List.map_cons, List.sum_cons]
    split <;> omega

/-- A bit set in one byte is the sum of its members' weights. -/
theorem fieldBitSet_one (members : List Nat) :
    fieldBitSet 1 members = field8 ((List.range 8).map fun j => if j ∈ members then 2 ^ j else 0).sum := by
  change [byteOf _] = [byteOf _]
  rw [foldl_if_add]
  simp

theorem failCode_eq (r : Option FailReason) : failCode r = match r with
    | none => 0 | some .lowContrast => 1 | some .unstable => 2 | some .disturbed => 3 | some .historyFull => 4
    | some .lost => 5 | some .settleTimeout => 6 := by
  rcases r with - | r
  · rfl
  · cases r <;> rfl

theorem reportedPrimary_eq (a : Afc) : a.reportedPrimary = match a.scan with
    | some sc => sc.primary
    | none => a.primary := by
  unfold Afc.reportedPrimary
  cases a.scan <;> rfl

theorem intakeMode_code_eq (m : IntakeMode) : m.code = match m with | .stopped => 0 | .waiting => 1 | .inFrame => 2 := by
  cases m <;> rfl

theorem latchMode_code_eq (m : LatchMode) : m.code = match m with | .latched => 0 | .timed => 1 | .level => 2 := by
  cases m <;> rfl

/-! ### HISTORY (R104, R190) -/

theorem length_historyPackets (tag : Tag) (a : Afc) : (historyPackets tag a).length = historyPacketCount a := by
  simp [historyPackets]

theorem eq_historyPacket {tag : Tag} {a : Afc} {k : Nat} {p : Packet} (h : (historyPackets tag a)[k]? = some p) :
    p = historyPacket tag a k := by
  obtain ⟨hk, hp⟩ := List.getElem?_eq_some_iff.1 h
  simpa [historyPackets] using hp.symm

/-- The header, its lock position and distance 0 where there is no lock. -/
theorem historyHeader_eq (a : Afc) : historyHeader a =
    field8 a.state.code ++ field8 a.mode.code ++ field8 (failCode a.failure) ++ field8 (a.reportedPrimary.getD 255) ++
      field16 (a.range.getD (0, 0)).1 ++ field16 (a.range.getD (0, 0)).2 ++ fieldBool a.lock.isSome ++ field8 a.restarts ++
      field16 ((a.lock.map (·.pos)).getD 0) ++ field16 ((a.lock.map (·.d)).getD 0) ++ field8 a.history.length ++
      field8 ((List.range 8).map fun j => if a.historyMade = true ∧ j ∈ a.windowSet then 2 ^ j else 0).sum ++ [0, 0] := by
  have hmembers (j : Nat) : j ∈ (if a.historyMade then a.windowSet else []) ↔ a.historyMade = true ∧ j ∈ a.windowSet := by
    cases a.historyMade <;> simp
  unfold historyHeader
  simp only [fieldPrimary_eq, fieldBitSet_one, hmembers]
  cases a.lock <;> rfl

/-! ### STATUS (R186, R190) -/

/-- The values of the ten sections, in order. -/
def statusSections (s : State) : List (List Byte) :=
  [statusIntake s.intake, statusStats s.stats, statusAec s.aec, statusLds s.lds, statusAfc s.afc, statusZmc s.zmc,
    statusMou s.mou, statusCst s.cst, statusCnd s.cnd, statusLnk s.lnk]

theorem statusPacket_payload (tag : Tag) (s : State) : (statusPacket tag s).payload =
    (statusSections s).zipIdx.flatMap fun x => statusSection (x.2 + 1) x.1 := by
  simp [statusPacket, statusSections]

end Sys2Proof.Machine
end

section
/-! PROOF of the statement on AF_HISTORY, STATUS_QUERY and unknown commands (R104, R176, R178, R186, R190). -/

namespace Sys2Proof.Machine

theorem exec_unknownCommand {s : State} {tag : Tag} {code : Byte} (h : s.turnOf (.unknownCommand tag code)) :
    exec (.unknownCommand tag code) s = .next (s.replied tag code (answer .unknownCommand)) :=
  congrArg Host.Outcome.next
    (hostCommand_unchanged (a := ()) (block := fun _ u => (u, answer .unknownCommand)) h rfl)

/-- Settles O44: each query leaves the state as handed, and each layout goes by the rules of its fields. -/
theorem queriesChangeNothing : Obligations.QueriesChangeNothing := by
  unfold Obligations.QueriesChangeNothing
  intro b1 b2 b4 yes
  have hyes (b : Bool) : yes b = fieldBool b := (fieldBool_eq b).symm
  refine ⟨fun s tag h => ⟨congrArg Host.Outcome.next (hostCommand_unchanged h rfl), length_historyPackets tag s.afc⟩, ?_, ?_,
    fun s tag h => congrArg Host.Outcome.next (hostCommand_unchanged h rfl), ?_, fun s tag code h => exec_unknownCommand h⟩
  · intro tag a k p hp entries range failure reported
    have hfailure : failCode a.failure = failure := failCode_eq a.failure
    have hreported : a.reportedPrimary = reported := reportedPrimary_eq a
    rw [eq_historyPacket hp]
    refine ⟨rfl, rfl, ?_⟩
    unfold historyPacket
    rw [historyHeader_eq, hfailure, hreported]
    simp only [hyes]
    rfl
  · decide
  · intro tag s g mode condition levels
    have hmode : s.intake.mode.code = mode := intakeMode_code_eq s.intake.mode
    refine ⟨rfl, rfl, statusSections s, rfl, statusPacket_payload tag s, ?_, rfl, ?_⟩
    · rw [← hmode]
      rfl
    · have hcondition : (fun k => conditionBytes (s.cnd.condition k)) = condition := by
        funext k
        simp only [conditionBytes, latchMode_code_eq, ← hyes]
        rfl
      refine congrArg some ?_
      unfold statusCnd
      rw [hcondition]
      simp [stateConditions, levels, hyes]

end Sys2Proof.Machine
end

section
/-! SUPPORT. The ranges of the Motion Unit (R122 to R124, R131, R133, R136) through each of its own operations. -/

namespace Sys2Proof.Machine

/-! ### One axis (R122 to R124, R131) -/

/-- A value held to -n..n is at most n in size. -/
theorem natAbs_clampInt_le (n : Nat) (i : Int) : (clampInt (-n) n i).natAbs ≤ n := by
  unfold clampInt
  omega

/-- A quotient rounded toward zero lies between 0 and what is divided. -/
theorem tdiv_between_zero (i : Int) (n : Nat) : (0 ≤ i → 0 ≤ Int.tdiv i (2 ^ n) ∧ Int.tdiv i (2 ^ n) ≤ i) ∧
    (i ≤ 0 → i ≤ Int.tdiv i (2 ^ n) ∧ Int.tdiv i (2 ^ n) ≤ 0) := by
  have hpos : (0 : Int) ≤ 2 ^ n := by positivity
  refine ⟨fun h => ⟨Int.tdiv_nonneg h hpos, Int.tdiv_le_self _ h⟩, fun h => ?_⟩
  have hneg := Int.neg_tdiv i (2 ^ n)
  have := Int.tdiv_nonneg (a := -i) (by omega) hpos
  have := Int.tdiv_le_self (a := -i) (2 ^ n) (by omega)
  omega

/-- The bias moves toward 256 times the rate and never past it (R122). -/
theorem biasAfter_natAbs_le (p : StabParams) (pan : Bool) {b r : Int} (hb : b.natAbs ≤ 8388352) (hr : r.natAbs ≤ 32767) :
    (biasAfter p pan b r).natAbs ≤ 8388352 := by
  obtain ⟨hup, hdown⟩ := tdiv_between_zero (256 * r - b) p.biasShift
  unfold biasAfter
  split
  · exact hb
  · rcases Int.le_total 0 (256 * r - b) with h | h
    · have := hup h
      omega
    · have := hdown h
      omega

/-- The optical target of any shift (R131). -/
theorem opticalTarget_natAbs_le (mode : StabMode) (total : Int) : (opticalTarget mode total).natAbs ≤ 2047 := by
  cases mode with
  | optical => exact natAbs_clampInt_le 2047 total
  | off | electronic => exact Nat.zero_le _

section
variable {x : Axis}

theorem Axis.InRange.rate (h : x.InRange) (p : StabParams) (pan : Bool) {r : Int} (hr : r.natAbs ≤ 32767) :
    (axisRate p pan r x).InRange := by
  obtain ⟨hbias, hangle, -, hpan, hoptical⟩ := h
  exact ⟨biasAfter_natAbs_le p pan hbias hr, hangle, natAbs_clampInt_le 32767 _, hpan, hoptical⟩

theorem Axis.InRange.pan (h : x.InRange) (p : StabParams) : (axisPan p x).InRange := by
  obtain ⟨hbias, hangle, hrate, -, hoptical⟩ := h
  refine ⟨hbias, hangle, hrate, ?_, hoptical⟩
  unfold axisPan
  dsimp only
  split <;> omega

theorem Axis.InRange.integrate (h : x.InRange) (p : StabParams) : (integrate p x).InRange := by
  obtain ⟨hbias, -, hrate, hpan, hoptical⟩ := h
  exact ⟨hbias, natAbs_clampInt_le 2147483647 _, hrate, hpan, hoptical⟩

theorem Axis.InRange.shift (h : x.InRange) (mode : StabMode) (k : Nat) : (axisShift mode k x).InRange := by
  obtain ⟨hbias, hangle, hrate, hpan, -⟩ := h
  exact ⟨hbias, hangle, hrate, hpan, opticalTarget_natAbs_le mode _⟩

theorem Axis.InRange.centred (h : x.InRange) : (axisCentred x).InRange := by
  obtain ⟨hbias, -, hrate, hpan, -⟩ := h
  exact ⟨hbias, Nat.zero_le _, hrate, hpan, Nat.zero_le _⟩

theorem Axis.InRange.panCleared (h : x.InRange) : (axisPanCleared x).InRange := by
  obtain ⟨hbias, hangle, hrate, -, hoptical⟩ := h
  exact ⟨hbias, hangle, hrate, Nat.zero_le _, hoptical⟩

theorem Axis.InRange.integrateTimes (h : x.InRange) (p : StabParams) (n : Nat) : (integrateTimes p n x).InRange := by
  induction n generalizing x with
  | zero => exact h
  | succ n ih => exact ih (h.integrate p)

theorem resetAxis_inRange : resetAxis.InRange := by
  unfold Axis.InRange
  decide

/-- An axis at rest but for its bias (R139). -/
theorem Axis.InRange.atRest (h : x.InRange) : ({ resetAxis with bias := x.bias } : Axis).InRange := by
  obtain ⟨hbias, -⟩ := h
  obtain ⟨-, hrest⟩ := resetAxis_inRange
  exact ⟨hbias, hrest⟩

/-- Missing samples move the angle alone (R121). -/
theorem integrateTimes_optical (p : StabParams) (n : Nat) (x : Axis) : (integrateTimes p n x).optical = x.optical := by
  induction n generalizing x with
  | zero => rfl
  | succ n ih => exact ih (integrate p x)

end

/-! ### The unit -/

section
variable {m : Mou}

theorem Mou.InRange.recentre (h : m.InRange) : (recentre m).InRange := by
  obtain ⟨hyaw, hpitch, hpeak, hfault, hqueue, -⟩ := h
  exact ⟨hyaw.centred, hpitch.centred, hpeak, hfault, hqueue, rfl⟩

/-- The sequence check (R121). -/
theorem Mou.InRange.sequence (h : m.InRange) (c : SequenceCase) : (sequenceEffect m c).InRange := by
  cases c with
  | inOrder | repeated => exact h
  | shortGap g =>
    obtain ⟨hyaw, hpitch, hpeak, hfault, hqueue, htarget⟩ := h
    refine ⟨hyaw.integrateTimes .., hpitch.integrateTimes .., hpeak, hfault, hqueue, htarget.trans ?_⟩
    exact (congrArg₂ AxisPair.mk (integrateTimes_optical ..) (integrateTimes_optical ..)).symm
  | longGap =>
    obtain ⟨hyaw, hpitch, hpeak, hfault, hqueue, htarget⟩ := h.recentre
    exact ⟨hyaw.panCleared, hpitch.panCleared, hpeak, hfault, hqueue, htarget⟩

/-- Steps 2 to 7 of a sample, its rates within their 16 bits (R120, R121). -/
theorem Mou.InRange.process (h : m.InRange) (k seq : Nat) {yaw pitch : Int} (hy : yaw.natAbs ≤ 32767)
    (hp : pitch.natAbs ≤ 32767) : (processSample m k seq yaw pitch).InRange := by
  obtain ⟨hyaw, hpitch, hpeak, hfault, hqueue, -⟩ := h
  have hyaw' := (((hyaw.rate m.params m.pan hy).pan m.params).integrate m.params).shift m.mode k
  have hpitch' := (((hpitch.rate m.params m.pan hp).pan m.params).integrate m.params).shift m.mode k
  refine ⟨hyaw', hpitch', ?_, hfault, hqueue, rfl⟩
  obtain ⟨-, -, hyawRate, -⟩ := hyaw'
  obtain ⟨-, -, hpitchRate, -⟩ := hpitch'
  exact Nat.max_le.2 ⟨hpeak, Nat.max_le.2 ⟨hyawRate, hpitchRate⟩⟩

/-- The end of an interval (R127). -/
theorem Mou.InRange.eof (h : m.InRange) : (mouEof m).InRange := by
  obtain ⟨hyaw, hpitch, -, hfault, hqueue, htarget⟩ := h
  exact ⟨hyaw, hpitch, Nat.zero_le _, hfault, hqueue, htarget⟩

/-- The oldest blur record is bound at an SOF (R136). -/
theorem Mou.InRange.sof (h : m.InRange) : ({ m with queue := m.queue.tail } : Mou).InRange := by
  obtain ⟨hyaw, hpitch, hpeak, hfault, hqueue, htarget⟩ := h
  exact ⟨hyaw, hpitch, hpeak, hfault, (List.length_tail ▸ Nat.sub_le ..).trans hqueue, htarget⟩

/-- A full queue loses its oldest record (R136). -/
theorem length_pushBlur_le {q : List BlurRecord} (h : q.length ≤ Config.blurQueuePlaces) (b : BlurRecord) :
    (pushBlur q b).length ≤ Config.blurQueuePlaces := by
  have hplaces : Config.blurQueuePlaces = 4 := rfl
  unfold pushBlur
  split <;> simp only [List.length_append, List.length_tail, List.length_singleton] <;> omega

theorem Mou.InRange.strobeFalls (h : m.InRange) : (strobeFalls m).InRange := by
  obtain ⟨hyaw, hpitch, hpeak, hfault, hqueue, htarget⟩ := h
  unfold Machine.strobeFalls
  split
  · exact ⟨hyaw, hpitch, hpeak, hfault, length_pushBlur_le hqueue _, htarget⟩
  · exact ⟨hyaw, hpitch, hpeak, hfault, hqueue, htarget⟩

/-- Another fault counter (R133). -/
theorem Mou.InRange.faultCount (h : m.InRange) {n : Nat} (hn : n ≤ 15) : ({ m with faultCount := n } : Mou).InRange := by
  obtain ⟨hyaw, hpitch, hpeak, -, hqueue, htarget⟩ := h
  exact ⟨hyaw, hpitch, hpeak, hn, hqueue, htarget⟩

theorem Mou.InRange.readback (h : m.InRange) (r : AxisPair) : ({ m with readback := r } : Mou).InRange := h

theorem resetMou_inRange (strobe : Bool) : (resetMou strobe).InRange :=
  ⟨resetAxis_inRange, resetAxis_inRange, Nat.zero_le _, Nat.zero_le _, Nat.zero_le _, rfl⟩

theorem mouFull_inRange (m : Mou) : (mouFull m).InRange := (resetMou_inRange m.strobe).readback m.readback

theorem Mou.InRange.pipeline (h : m.InRange) : (mouPipeline m).InRange := by
  obtain ⟨hyaw, hpitch, -⟩ := h
  exact ⟨hyaw.atRest, hpitch.atRest, Nat.zero_le _, Nat.zero_le _, Nat.zero_le _, rfl⟩

end

/-! ### On the machine -/

section
variable {s : State}

theorem shiftLimitSample_mou (s : State) : (shiftLimitSample s).mou = s.mou := (shiftLimitSample_storeOnly s).mou

theorem rateSample_mou_inRange (h : s.mou.InRange) (seq : Nat) {yaw pitch : Int} (hy : yaw.natAbs ≤ 32767)
    (hp : pitch.natAbs ≤ 32767) : (rateSample s seq yaw pitch).mou.InRange := by
  have hgap (b : Prop) [Decidable b] : (if b then s else s.raise condMotionGap).mou = s.mou := by split <;> rfl
  unfold rateSample
  dsimp only
  split
  · rw [hgap]
    exact h
  · rw [shiftLimitSample_mou, State.level_mou, State.setMou_mou, hgap]
    exact (h.sequence _).process _ seq hy hp

theorem takeReadback_mou_inRange (h : s.mou.InRange) (r : AxisPair) : (takeReadback s r).mou.InRange := by
  unfold takeReadback enterShiftFault
  dsimp only
  split
  · split
    · split
      · exact ((h.readback r).faultCount (Nat.zero_le 15) :)
      · exact (h.readback r).faultCount (Nat.min_le_left ..)
    · exact (h.readback r).faultCount (Nat.zero_le 15)
  · exact h.readback r

theorem setStabMode_mou_inRange (h : s.mou.InRange) (mode : StabMode) : (setStabMode s mode).mou.InRange :=
  (h.recentre.faultCount (Nat.zero_le 15) :)

theorem stabModeCommand_mou_inRange (h : s.mou.InRange) (n : Nat) : (stabModeCommand n s).1.mou.InRange := by
  unfold stabModeCommand
  split
  · exact h
  · split
    · exact h
    · exact setStabMode_mou_inRange h _

theorem stabSetup_mou_inRange (h : s.mou.InRange) (a : StabSetupArgs) : (stabSetup a s).1.mou.InRange := by
  unfold stabSetup
  split <;> exact h

end

end Sys2Proof.Machine
end

section
/-! PROOF of the statement on the ranges of the Motion Unit (R122 to R124, R131, R133, R136): every command and event but those
of the unit itself, of frames, PATH_STOP and the resets leaves it alone. -/

namespace Sys2Proof.Machine

/-! ### What leaves the unit alone -/

theorem State.mou_ite {p : Prop} [Decidable p] {a b s : State} (ha : a.mou = s.mou) (hb : b.mou = s.mou) :
    (if p then a else b).mou = s.mou := by
  split
  · exact ha
  · exact hb

theorem losePosition_mou (s : State) (m : Move) : (losePosition s m).mou = s.mou := by
  have hm (ks : List Source) (u : State) : (ks.foldl moveLost u).mou = u.mou := by
    induction ks generalizing u with
    | nil => rfl
    | cons k ks ih => exact (ih _).trans (moveLost_mou u k)
  unfold losePosition
  dsimp only
  rw [State.grant_mou]
  exact State.mou_ite ((afcFocusInvalid_mou _).trans (hm ..)) (hm ..)

theorem takeStep_mou (s : State) (m : Move) (x : LensSample) : (takeStep s m x).mou = s.mou := by
  have hs (l : Lds) : (signalStep (s.setLds l) m.motor).mou = s.mou := (signalStep_storeOnly ..).mou
  unfold takeStep
  exact State.mou_ite ((losePosition_mou ..).trans (hs _))
    (State.mou_ite ((endComplete_mou ..).trans (hs _)) (hs _))

theorem boundaryOn_mou (s : State) (m : Move) (x : LensSample) : (boundaryOn s m x).mou = s.mou := by
  unfold boundaryOn
  split
  · exact preempt_mou ..
  · exact State.mou_ite (State.mou_ite (endComplete_mou ..) (takeStep_mou ..)) (takeStep_mou ..)

theorem stepBoundary_mou (s : State) (x : LensSample) (b : Bool) : (stepBoundary s x b).mou = s.mou := by
  unfold stepBoundary
  split
  · rfl
  · exact State.mou_ite (State.mou_ite (boundaryOn_mou ..) (endStopped_mou ..)) (boundaryOn_mou ..)

theorem nextPhase_mou (s : State) (m : Motor) : (nextPhase s m).mou = s.mou := by
  cases m with
  | iris | focus => rfl
  | zoom => exact State.grant_mou _

theorem referenceStep_mou (s : State) (x : LensSample) : (referenceStep s x).mou = s.mou := by
  unfold referenceStep
  split
  · rfl
  · next r _ =>
    have hs (l : Lds) : (signalStep (s.setLds l) r.motor).mou = s.mou := (signalStep_storeOnly ..).mou
    exact State.mou_ite (State.grant_mou _) (State.mou_ite ((nextPhase_mou ..).trans (hs _))
      (State.mou_ite ((nextPhase_mou ..).trans (hs _)) (hs _)))

theorem abortFetch_mou (s : State) : (abortFetch s).mou = s.mou := by
  unfold abortFetch
  split
  · rfl
  · exact State.mou_ite rfl (State.mou_ite (slotReturns_storeOnly ..).mou rfl)

theorem packetEnds_mou (s : State) : (packetEnds s).mou = s.mou := by
  have hrecord (u : State) (i order : Nat) : (recordSent u i order).mou = u.mou := by
    have hmark : (match u.cst.slots[i]? with
        | some x => if holdsFrame x order then autoRelease (setSlot u i fun y => { y with recordSent := true }) i else u
        | none => u).mou = u.mou := by
      split
      · exact State.mou_ite (autoRelease_storeOnly ..).mou rfl
      · rfl
    unfold recordSent
    dsimp only
    split
    · exact State.mou_ite hmark hmark
    · exact hmark
  have himage (u : State) : (imageSent u).mou = u.mou := by
    unfold imageSent
    split
    · exact (slotReturns_storeOnly ..).mou
    · rfl
  have habort (u : State) : (abortSent u).mou = u.mou := by
    unfold abortSent
    split
    · exact State.mou_ite rfl rfl
    · rfl
  unfold packetEnds
  split
  · rfl
  · dsimp only
    split
    · rfl
    · exact hrecord ..
    · exact State.mou_ite (himage _) rfl
    · exact habort _

theorem sendNext_mou (s : State) : (sendNext s).mou = s.mou := by
  unfold sendNext
  split
  iterate 3 rfl
  · cases s.offer <;> rfl
  iterate 2 rfl

theorem execPacketBoundary_mou {s t : State} (h : execPacketBoundary s = .next t) : t.mou = s.mou := by
  unfold execPacketBoundary at h
  dsimp only at h
  split at h
  · cases h
  · cases h
    exact (sendNext_mou _).trans (packetEnds_mou s)

theorem execLine_mou {pixels : List Nat} {s t : State} (h : execLine pixels s = .next t) : t.mou = s.mou := by
  have hpass (u : State) (y : Nat) (line : List Nat) : (passLine u y line).mou = u.mou := by
    unfold passLine writeLine
    dsimp only
    split <;> rfl
  unfold execLine at h
  split at h
  · cases h; rfl
  · split at h
    · cases h; rfl
    · split at h
      · cases h
      · cases h
        exact State.mou_ite (hpass ..) (hpass ..)

/-! ### Host commands (R176) -/

/-- A command leaves the unit alone when its block does. -/
theorem hostCommand_mou {α : Type} {i : Instr} {s : State} {tag : Tag} {code : Byte} {p : Payload α}
    {block : α → State → State × Answer} (h : ∀ a u, (block a u).1.mou = u.mou) :
    (hostCommand i tag code p block s).mou = s.mou := by
  refine State.mou_ite ?_ rfl
  cases p with
  | args a => exact h a _
  | wrongLength => rfl

theorem takeFetch_mou (s : State) (i : Nat) (f : Fetch) : (takeFetch s i f).mou = s.mou := State.mou_ite rfl rfl

theorem fetchCommand_mou (tag : Tag) (a : FetchArgs) (s : State) : (fetchCommand tag a s).1.mou = s.mou := by
  unfold fetchCommand
  repeat' split
  iterate 3 rfl
  · dsimp only
    split
    · rfl
    · exact takeFetch_mou ..
  · rfl

theorem aeMode_mou (n : Nat) (s : State) : (aeMode n s).1.mou = s.mou := by
  have hchanges (st : AeState) : (aeModeChanges s st).mou = s.mou :=
    State.mou_ite ((State.cancelMove_mou ..).trans (aecEnter_mou ..)) (aecEnter_mou ..)
  unfold aeMode
  repeat' split
  iterate 2 rfl
  exact State.mou_ite rfl (hchanges _)

theorem lensSetup_mou (a : LensSetupArgs) (s : State) : (lensSetup a s).1.mou = s.mou := by
  unfold lensSetup lensSetupTaken
  repeat' split
  iterate 2 rfl
  exact State.mou_ite (State.mou_ite (afcFocusInvalid_mou _) rfl) rfl

theorem lensPark_mou (s : State) : (lensPark s).1.mou = s.mou := by
  unfold lensPark
  repeat' split
  iterate 3 rfl
  exact (State.grant_mou _).trans (parkRequest_mou ..)

theorem focusMove_mou (a : MoveArgs) (s : State) : (focusMove a s).1.mou = s.mou := by
  unfold focusMove
  repeat' split
  iterate 3 rfl
  exact (State.grant_mou _).trans (State.place_mou ..)

theorem afSetup_mou (a : AfSetupArgs) (s : State) : (afSetup a s).1.mou = s.mou := by
  have htaken (c : AfChoice) : (afSetupTaken s c a).mou = s.mou :=
    State.mou_ite (State.mou_ite (afcEnter_mou _ .idle) rfl) rfl
  unfold afSetup
  repeat' split
  iterate 2 rfl
  exact htaken _

theorem afStart_mou (s : State) : (afStart s).1.mou = s.mou := by
  unfold afStart
  split
  · rfl
  · exact (State.grant_mou _).trans (afcScanStart_mou s)

theorem zoomTo_mou (a : MoveArgs) (s : State) : (zoomTo a s).1.mou = s.mou := by
  unfold zoomTo
  split
  · rfl
  · exact (State.grant_mou _).trans (zmcCommand_mou ..)

theorem zoomBy_mou (a : ZoomByArgs) (s : State) : (zoomBy a s).1.mou = s.mou := by
  unfold zoomBy
  split
  · rfl
  · exact (State.grant_mou _).trans (zmcCommand_mou ..)

theorem storeSetup_mou (a : StoreSetupArgs) (s : State) : (storeSetup a s).1.mou = s.mou := by
  unfold storeSetup
  repeat' split
  iterate 4 rfl
  exact (foldl_storeOnly autoRelease_storeOnly ..).mou

theorem storeStart_mou (s : State) : (storeStart s).1.mou = s.mou := by
  unfold storeStart
  dsimp only
  repeat' split
  all_goals rfl

theorem triggerCommand_mou (s : State) : (triggerCommand s).1.mou = s.mou := by
  unfold triggerCommand
  split
  · rfl
  · exact (takeTrigger_storeOnly s).mou

theorem slotCommand_mou {need : SlotState} {effect : State → Nat → State} (h : ∀ s n, (effect s n).StoreOnly s) (n : Nat)
    (s : State) : (slotCommand need effect n s).1.mou = s.mou := by
  unfold slotCommand
  repeat' split
  · rfl
  · exact (h s n).mou
  · rfl

theorem commitTable_mou (id : Nat) (s : State) : (commitTable id s).1.mou = s.mou := by
  unfold commitTable
  repeat' split
  iterate 3 rfl
  exact (applyIfStopped_commitsOnly _).mou

/-! ### Every command and event but those that move the unit -/

/-- The commands and events that the Motion Unit takes part in: its own, a frame's start and end, PATH_STOP and the resets. -/
def touchesMotion : Instr → Bool
  | .powerOnReset _ | .frameStart | .frameEnd | .frameTimeout | .pathStop _ _ | .reset _ _ | .stabMode _ _ | .stabCenter _ _
  | .stabSetup _ _ | .rateSample .. | .readback .. | .strobeRise | .strobeFall => true
  | _ => false

/-- Any other command or event leaves it alone. -/
theorem exec_mou {i : Instr} (hi : touchesMotion i = false) {s t : State} (h : exec i s = .next t) : t.mou = s.mou := by
  cases i with
  | powerOnReset | frameStart | frameEnd | frameTimeout | pathStop | reset | stabMode | stabCenter | stabSetup | rateSample
  | readback | strobeRise | strobeFall => cases hi
  | line => exact execLine_mou h
  | packetBoundary => exact execPacketBoundary_mou h
  | upstreamPacket => cases h; rfl
  | unknownCommand => cases h; exact State.mou_ite rfl rfl
  | pathSetup =>
    cases h
    refine hostCommand_mou fun a u => ?_
    unfold pathSetup
    dsimp only
    repeat' split
    all_goals rfl
  | pathStart =>
    cases h
    refine hostCommand_mou fun _ u => ?_
    unfold pathStart
    split <;> rfl
  | statsSetup => cases h; exact hostCommand_mou fun _ _ => rfl
  | aeMode => cases h; exact hostCommand_mou aeMode_mou
  | aeSetup =>
    cases h
    refine hostCommand_mou fun _ _ => ?_
    unfold aeSetup
    split <;> rfl
  | aeManual =>
    cases h
    refine hostCommand_mou fun _ _ => ?_
    unfold aeManual
    repeat' split
    all_goals rfl
  | lensSetup => cases h; exact hostCommand_mou lensSetup_mou
  | focusMove => cases h; exact hostCommand_mou focusMove_mou
  | lensStop => cases h; exact hostCommand_mou fun _ u => (congrArg State.mou (lensStop_eq u) :)
  | lensReference =>
    cases h
    refine hostCommand_mou fun _ _ => ?_
    unfold lensReference
    repeat' split
    all_goals rfl
  | lensPark => cases h; exact hostCommand_mou fun _ => lensPark_mou
  | afSetup => cases h; exact hostCommand_mou afSetup_mou
  | afStart => cases h; exact hostCommand_mou fun _ => afStart_mou
  | afCancel => cases h; exact hostCommand_mou fun _ => afcCancel_mou
  | afHistory => cases h; exact hostCommand_mou fun _ _ => rfl
  | zoomSetup =>
    cases h
    refine hostCommand_mou fun _ _ => ?_
    unfold zoomSetup
    split <;> rfl
  | zoomTo => cases h; exact hostCommand_mou zoomTo_mou
  | zoomBy => cases h; exact hostCommand_mou zoomBy_mou
  | zoomStop => cases h; exact hostCommand_mou fun _ u => (State.grant_mou _).trans (zmcStop_mou u)
  | storeSetup => cases h; exact hostCommand_mou storeSetup_mou
  | storeStart => cases h; exact hostCommand_mou fun _ => storeStart_mou
  | storeStop => cases h; exact hostCommand_mou fun _ u => (storeStop_storeOnly u).mou
  | trigger => cases h; exact hostCommand_mou fun _ => triggerCommand_mou
  | accept => cases h; exact hostCommand_mou (slotCommand_mou acceptSlot_storeOnly)
  | discard => cases h; exact hostCommand_mou (slotCommand_mou freeSlotAt_storeOnly)
  | release => cases h; exact hostCommand_mou (slotCommand_mou freeSlotAt_storeOnly)
  | fetch tag => cases h; exact hostCommand_mou (fetchCommand_mou tag)
  | sendAbort => cases h; exact hostCommand_mou fun _ => abortFetch_mou
  | noticeArm => cases h; exact hostCommand_mou fun _ _ => rfl
  | shutterSetup =>
    cases h
    refine hostCommand_mou fun _ _ => ?_
    unfold shutterSetup
    split <;> rfl
  | conditionsSetup =>
    cases h
    refine hostCommand_mou fun _ _ => ?_
    unfold conditionsSetup
    split <;> rfl
  | conditionsClear =>
    cases h
    refine hostCommand_mou fun _ _ => ?_
    unfold conditionsClear
    split <;> rfl
  | tableLoad =>
    cases h
    refine hostCommand_mou fun _ _ => ?_
    unfold loadTable
    repeat' split
    all_goals rfl
  | tableCommit => cases h; exact hostCommand_mou commitTable_mou
  | tableRead =>
    cases h
    refine hostCommand_mou fun _ _ => ?_
    unfold readTable
    repeat' split
    all_goals rfl
  | statusQuery => cases h; exact hostCommand_mou fun _ _ => rfl
  | resetCompletion =>
    cases h
    unfold resetCompletes
    split
    · exact State.mou_ite rfl rfl
    · rfl
  | stepBoundary => cases h; exact stepBoundary_mou ..
  | referenceStep => cases h; exact referenceStep_mou ..
  | writeItemAcknowledged => cases h; exact itemAcknowledged_mou s
  | writeItemNotAcknowledged => cases h; exact itemNotAcknowledged_mou s
  | shutterLevelChange => cases h; exact (rawChanges_storeOnly ..).mou
  | debounceExpiry => cases h; exact (debounceExpires_storeOnly ..).mou
  | gateExpiry => cases h; exact State.mou_ite (gateExpires_storeOnly s).mou rfl
  | settleTimeout => cases h; exact State.mou_ite ((State.grant_mou _).trans (afcSettleSof_mou ..)) rfl
  | timedLatchExpiry => cases h; exact State.mou_ite rfl rfl

/-! ### Frames, PATH_STOP and the resets -/

section
variable {s : State}

theorem truncateFrame_mou_inRange (h : s.mou.InRange) (c : TruncationCause) : (truncateFrame s c).mou.InRange := by
  have hwork : (truncatedWork (s.setIntake { s.intake with mode := .waiting })).mou.InRange :=
    (truncatedWork_mou_stats _).1 ▸ h.eof
  unfold truncateFrame
  dsimp only
  split <;> exact hwork

theorem frameOpens_mou_inRange (h : s.mou.InRange) : (frameOpens s).mou.InRange := by
  obtain ⟨-, -, -, -, hmou, -⟩ := frameOpens_values s
  exact hmou ▸ h.sof

theorem frameStartPacket_mou_inRange (h : s.mou.InRange) : (frameStartPacket s).mou.InRange := by
  unfold frameStartPacket
  split
  · exact h
  · exact frameOpens_mou_inRange h
  · exact frameOpens_mou_inRange (truncateFrame_mou_inRange h _)

theorem completeFrame_mou_inRange (h : s.mou.InRange) : (completeFrame s).mou.InRange := by
  cases hm : s.stats.measure with
  | some m =>
    obtain ⟨-, -, hmou, -⟩ := completeFrame_keeps hm
    exact hmou ▸ h.eof
  | none =>
    unfold completeFrame
    rw [hm]
    exact (truncatedWork_mou_stats _).1 ▸ h.eof

theorem frameEndPacket_mou_inRange (h : s.mou.InRange) : (frameEndPacket s).mou.InRange := by
  unfold frameEndPacket
  split
  · split
    · exact truncateFrame_mou_inRange h _
    · exact completeFrame_mou_inRange h
  · exact h

theorem timeoutExpires_mou_inRange (h : s.mou.InRange) : (timeoutExpires s).mou.InRange := by
  have hraised : (s.raise condSensorStall).mou.InRange := h
  unfold timeoutExpires
  split
  · dsimp only
    split
    · exact truncateFrame_mou_inRange hraised _
    · exact hraised
  · exact h

theorem stopPath_mou_inRange (h : s.mou.InRange) : (stopPath s).mou.InRange := by
  have hrest (u : State) : (applyCommits (afcPathStop (abortFetch (storeStop u)))).mou = u.mou := by
    rw [(applyCommits_commitsOnly _).mou, afcPathStop_mou, abortFetch_mou, (storeStop_storeOnly u).mou]
  unfold stopPath
  dsimp only
  rw [hrest, State.setIntake_mou]
  split
  · exact truncateFrame_mou_inRange h _
  · exact h

theorem resetScope_mou_inRange (full : Bool) (h : s.mou.InRange) : (resetScope full s).mou.InRange := by
  cases full with
  | true => exact mouFull_inRange _
  | false =>
    have hhalted : (pipelineHalted s).mou = mouPipeline s.mou := congrArg mouPipeline (abortFetch_mou s)
    have hmou : (resetScope false s).mou = mouPipeline s.mou := (applyIfStopped_commitsOnly _).mou.trans hhalted
    exact hmou ▸ h.pipeline

theorem resetCommand_mou_inRange (i : Instr) (tag : Tag) (p : Payload Nat) (h : s.mou.InRange) :
    (resetCommand i tag p s).mou.InRange := by
  have htaken (full : Bool) : (resetTaken full tag (s.setLnk (lnkTake s.lnk tag))).mou.InRange := by
    have hscope := resetScope_mou_inRange full (s := s.setLnk (lnkTake s.lnk tag)) h
    rw [resetTaken_eq]
    exact hscope
  unfold resetCommand
  dsimp only
  split
  · split
    · split
      · exact htaken _
      · exact h
    · exact h
  · exact h

/-! ### Every step -/

/-- A command keeps the ranges when its block does. -/
theorem hostCommand_mou_inRange {α : Type} {i : Instr} {tag : Tag} {code : Byte} {p : Payload α}
    {block : α → State → State × Answer} (hb : ∀ a (u : State), u.mou.InRange → (block a u).1.mou.InRange) (h : s.mou.InRange) :
    (hostCommand i tag code p block s).mou.InRange := by
  unfold hostCommand takeCommand
  split
  · cases p with
    | args a => exact hb a _ h
    | wrongLength => exact h
  · exact h

/-- The rates that the motion port can form lie within R121's range. -/
theorem natAbs_rates_le_of_wellFormed {seq : Nat} {yaw pitch : Int} (h : (Instr.rateSample seq yaw pitch).wellFormed = true) :
    yaw.natAbs ≤ 32767 ∧ pitch.natAbs ≤ 32767 := by
  have hranges := of_decide_eq_true h
  omega

/-- A command or event that can be formed keeps the ranges. -/
theorem exec_mou_inRange {i : Instr} {t : State} (hi : i.wellFormed = true) (hs : s.mou.InRange) (h : exec i s = .next t) :
    t.mou.InRange := by
  cases hm : touchesMotion i with
  | false => exact exec_mou hm h ▸ hs
  | true =>
    cases i with
    | powerOnReset lines => cases h; exact resetMou_inRange _
    | frameStart => cases h; exact frameStartPacket_mou_inRange hs
    | frameEnd => cases h; exact frameEndPacket_mou_inRange hs
    | frameTimeout => cases h; exact timeoutExpires_mou_inRange hs
    | pathStop =>
      cases h
      refine hostCommand_mou_inRange (fun _ u hu => ?_) hs
      unfold pathStop
      dsimp only
      split
      · exact hu
      · exact stopPath_mou_inRange hu
    | reset => cases h; exact resetCommand_mou_inRange _ _ _ hs
    | stabMode => cases h; exact hostCommand_mou_inRange (fun n _ hu => stabModeCommand_mou_inRange hu n) hs
    | stabCenter => cases h; exact hostCommand_mou_inRange (fun _ _ hu => hu.recentre.faultCount (Nat.zero_le 15)) hs
    | stabSetup => cases h; exact hostCommand_mou_inRange (fun a _ hu => stabSetup_mou_inRange hu a) hs
    | rateSample seq yaw pitch =>
      obtain ⟨hy, hp⟩ := natAbs_rates_le_of_wellFormed hi
      cases h
      exact rateSample_mou_inRange hs seq hy hp
    | readback => cases h; exact takeReadback_mou_inRange hs _
    | strobeRise =>
      cases h
      split <;> exact hs
    | strobeFall =>
      cases h
      split
      · exact hs.strobeFalls
      · exact hs
    | _ => cases hm

end

/-- Settles O10: exec_mou_inRange for the command or event at the front of the queue. -/
theorem motionRangesKept : Obligations.MotionRangesKept := by
  intro s t hs hwf h
  unfold step at h
  split at h
  · cases h; exact hs
  · next i rest hp =>
    exact exec_mou_inRange (s := s.setPending rest) (hwf i (hp ▸ List.mem_cons_self)) hs h

end Sys2Proof.Machine
end

section
/-! PROOF of the statement on the crop (R132): the nearest even offset, halves toward the centre, held to the margin. -/

namespace Sys2Proof.Machine

/-- The nearest even quotient by 256, a value halfway going to the one nearer zero (section 4.5, R132). -/
theorem divRoundEvenTowardZero_nearest (i : Int) :
    divRoundEvenTowardZero i 256 % 2 = 0 ∧ (256 * divRoundEvenTowardZero i 256 - i).natAbs ≤ 256 ∧
    ((256 * divRoundEvenTowardZero i 256 - i).natAbs = 256 → (256 * divRoundEvenTowardZero i 256).natAbs < i.natAbs) := by
  unfold divRoundEvenTowardZero
  split <;> omega

theorem divRoundEvenTowardZero_zero : divRoundEvenTowardZero 0 256 = 0 := by decide

/-- The crop is the wish held to the margin. -/
theorem coe_cropOf (margin ppu : Nat) (r : Int) :
    (cropOf margin r ppu : Int) = max 0 (min (margin : Int) (cropWish margin r ppu)) := by
  unfold cropOf clampInt
  omega

/-- The clamp acts exactly on a wish outside the margin. -/
theorem cropClamped_iff (margin ppu : Nat) (r : Int) :
    cropClamped margin r ppu = true ↔ cropWish margin r ppu < 0 ∨ margin < cropWish margin r ppu := by
  unfold cropClamped clampInt
  rw [bne_iff_ne]
  omega

/-- Settles O23: the wish is the even centre of the margin moved by an even quotient, and the crop is that wish held. -/
theorem cropIsEvenWithinMargin : Obligations.CropIsEvenWithinMargin := by
  intro margin ppu r hmargin v
  have hv : v = divRoundEvenTowardZero (r * ppu) 256 := by
    show cropWish margin r ppu - (margin / 2 : Nat) = _
    unfold cropWish
    omega
  have hwish : cropWish margin r ppu = (margin / 2 : Nat) + v := by omega
  have hcrop := coe_cropOf margin ppu r
  obtain ⟨heven, hnear, htie⟩ := divRoundEvenTowardZero_nearest (r * ppu)
  rw [← hv] at heven hnear htie
  refine ⟨heven, hnear, htie, by omega, by omega, by omega, by omega, by omega, cropClamped_iff .., fun hzero => ?_⟩
  rw [hzero, divRoundEvenTowardZero_zero] at hv
  omega

end Sys2Proof.Machine
end

section
/-! PROOF of the statements on STAB_MODE, STAB_CENTER and STAB_SETUP (R128, R129, R134, R138), and on READBACK and the strobe
edges (R133 to R136). -/

namespace Sys2Proof.Machine

/-! ### The host commands -/

section
variable {s : State} {tag : Tag}

/-- OPTICAL and ELECTRONIC without a valid ZOOM table (R128). -/
theorem exec_stabMode_refusedTable {n : Nat} {mode : StabMode} (h : s.turnOf (.stabMode tag (.args n)))
    (harg : stabMode? n = some mode) (hmode : mode ≠ .off) (htable : s.tableValid zoomId = false) :
    exec (.stabMode tag (.args n)) s = .next (s.replied tag 21 (answer .refusedTable)) := by
  refine congrArg Host.Outcome.next (hostCommand_unchanged h ?_)
  unfold stabModeCommand
  rw [harg]
  exact if_pos ⟨hmode, htable⟩

theorem exec_stabMode_taken {n : Nat} {mode : StabMode} (h : s.turnOf (.stabMode tag (.args n)))
    (harg : stabMode? n = some mode) (htable : mode = .off ∨ s.tableValid zoomId = true) :
    exec (.stabMode tag (.args n)) s = .next ((setStabMode s mode).replied tag 21 (answer .done)) := by
  refine congrArg Host.Outcome.next (hostCommand_replied h rfl ?_)
  unfold stabModeCommand
  rw [harg]
  refine if_neg ?_
  rintro ⟨hmode, hinvalid⟩
  rcases htable with hoff | hvalid
  · exact hmode hoff
  · exact Bool.noConfusion (hvalid.symm.trans hinvalid)

theorem stabMode?_of_lt {n : Nat} (h : 2 < n) : stabMode? n = none := by
  match n, h with
  | n + 3, _ => rfl

theorem exec_stabMode_refusedArg {n : Nat} (h : s.turnOf (.stabMode tag (.args n))) (hn : 2 < n) :
    exec (.stabMode tag (.args n)) s = .next (s.replied tag 21 (answer .refusedArg)) := by
  refine congrArg Host.Outcome.next (hostCommand_unchanged h ?_)
  unfold stabModeCommand
  rw [stabMode?_of_lt hn]

theorem exec_stabCenter (h : s.turnOf (.stabCenter tag (.args ()))) :
    exec (.stabCenter tag (.args ())) s = .next ((s.setMou (stabCenter s.mou)).replied tag 22 (answer .done)) :=
  congrArg Host.Outcome.next (hostCommand_replied h rfl rfl)

/-! ### STAB_SETUP (R138) -/

theorem panCombination?_of_le {n : Nat} (h : n ≤ 1) : panCombination? n = some (if n = 0 then .or else .and) := by
  match n, h with
  | 0, _ => rfl
  | 1, _ => rfl

theorem panCombination?_of_lt {n : Nat} (h : 1 < n) : panCombination? n = none := by
  match n, h with
  | n + 2, _ => rfl

/-- The arguments of a STAB_SETUP held to their ranges (R138). -/
def heldStabParams (a : StabSetupArgs) : StabParams :=
  ⟨max 100 (min 2000 a.dt), max 6 (min 12 a.biasShift), max 6 (min 14 a.leakShift), min 32767 a.panRef,
    max 1 (min 255 a.panDeb), if a.combination = 0 then .or else .and, decide (a.yawEnable = 1),
    decide (a.pitchEnable = 1), min 32767 a.stillRef, min 32767 a.shakyRef, min 1023 a.ppu, min 4095 a.shiftTol,
    max 1 (min 15 a.shiftFaultCount), min 65535 a.blurLimit⟩

variable {a : StabSetupArgs}

theorem stabParamsOf_of_le (hc : a.combination ≤ 1) (hy : a.yawEnable ≤ 1) (hp : a.pitchEnable ≤ 1) :
    stabParamsOf a = some (heldStabParams a) := by
  unfold stabParamsOf
  rw [panCombination?_of_le hc, yesNo?_of_le hy, yesNo?_of_le hp]
  simp only [clampNat_zero]
  rfl

theorem stabParamsOf_of_lt (h : 1 < a.combination ∨ 1 < a.yawEnable ∨ 1 < a.pitchEnable) : stabParamsOf a = none := by
  unfold stabParamsOf
  rcases h with h | h | h
  · rw [panCombination?_of_lt h]
  · rw [yesNo?_of_lt h]
    cases panCombination? a.combination <;> rfl
  · rw [yesNo?_of_lt h]
    cases panCombination? a.combination <;> cases yesNo? a.yawEnable <;> rfl

/-- No value of a STAB_SETUP differs from its argument. -/
abbrev StabArgsHeld (p : StabParams) (a : StabSetupArgs) : Prop :=
  p.dt = a.dt ∧ p.biasShift = a.biasShift ∧ p.leakShift = a.leakShift ∧ p.panRef = a.panRef ∧
  p.panDeb = a.panDeb ∧ p.stillRef = a.stillRef ∧ p.shakyRef = a.shakyRef ∧ p.ppu = a.ppu ∧
  p.shiftTol = a.shiftTol ∧ p.shiftFaultCount = a.shiftFaultCount ∧ p.blurLimit = a.blurLimit

theorem stabClamped_eq_true : stabClamped a = true ↔ ¬ StabArgsHeld (heldStabParams a) a := by
  simp only [stabClamped, StabArgsHeld, heldStabParams, Bool.or_eq_true, clampArg_changed_eq_true, clampNat_zero, ne_eq]
  unfold clampNat
  tauto

theorem exec_stabSetup_refusedArg (h : s.turnOf (.stabSetup tag (.args a)))
    (ha : 1 < a.combination ∨ 1 < a.yawEnable ∨ 1 < a.pitchEnable) :
    exec (.stabSetup tag (.args a)) s = .next (s.replied tag 23 (answer .refusedArg)) := by
  refine congrArg Host.Outcome.next (hostCommand_unchanged h ?_)
  unfold stabSetup
  rw [stabParamsOf_of_lt ha]

theorem exec_stabSetup_taken (h : s.turnOf (.stabSetup tag (.args a))) (hc : a.combination ≤ 1) (hy : a.yawEnable ≤ 1)
    (hp : a.pitchEnable ≤ 1) :
    exec (.stabSetup tag (.args a)) s = .next ((s.setMou { s.mou with params := heldStabParams a }).replied tag 23
      (answer (clampedStatus (stabClamped a) .done))) := by
  refine congrArg Host.Outcome.next (hostCommand_replied h rfl ?_)
  unfold stabSetup
  rw [stabParamsOf_of_le hc hy hp]
  rfl

end

/-- Settles O47: each command by the rule of its outcome. -/
theorem stabCommandsRecentreAndSet : Obligations.StabCommandsRecentreAndSet := by
  unfold Obligations.StabCommandsRecentreAndSet
  intro centred
  refine ⟨fun s tag n mode h hmode => ?_, fun s tag n h hn => exec_stabMode_refusedArg h hn, fun s tag h => exec_stabCenter h,
    fun s tag a h => ⟨fun ha => exec_stabSetup_refusedArg h ha, fun hc hy hp => ?_⟩⟩
  · have harg : stabMode? n = some mode ∧ (n = 0 ↔ mode = .off) := by
      rcases hmode with ⟨rfl, rfl⟩ | ⟨rfl, rfl⟩ | ⟨rfl, rfl⟩ <;> decide
    obtain ⟨harg, hoff⟩ := harg
    exact ⟨fun hn htable => exec_stabMode_refusedTable h harg (mt hoff.2 hn) htable,
      fun htable => exec_stabMode_taken h harg (htable.imp_left hoff.1)⟩
  · rw [exec_stabSetup_taken h hc hy hp, clampedStatus_eq stabClamped_eq_true]
    rfl

/-! ### READBACK (R133, R134) -/

section
variable {s : State} {r a : AxisPair}

/-- A readback that is not compared is held (R133). -/
theorem takeReadback_uncompared (h : ∀ a, s.mou.mode = .optical → s.mou.targetBefore ≠ some a) :
    takeReadback s r = s.setMou { s.mou with readback := r } := by
  unfold takeReadback
  dsimp only
  split
  · next hm ht => exact absurd ht (h _ hm)
  · rfl

/-- In OPTICAL a readback is compared with the target of the sample before (R133). -/
theorem takeReadback_compared (hm : s.mou.mode = .optical) (ht : s.mou.targetBefore = some a) :
    takeReadback s r =
      if readbackFails s.mou.params.shiftTol r a then
        let n := min 15 (s.mou.faultCount + 1)
        let t := s.setMou { s.mou with readback := r, faultCount := n }
        if s.mou.params.shiftFaultCount ≤ n then enterShiftFault t else t
      else s.setMou { s.mou with readback := r, faultCount := 0 } := by
  unfold takeReadback
  dsimp only
  rw [hm, ht]

theorem readbackFails_iff {tol : Nat} : readbackFails tol r a = true ↔
    tol < (r.yaw - a.yaw).natAbs ∨ tol < (r.pitch - a.pitch).natAbs := by
  rw [readbackFails, Bool.or_eq_true, decide_eq_true_eq, decide_eq_true_eq]

end

/-! ### The strobe line (R135, R136) -/

section
variable {s : State}

/-- A full queue loses its oldest record (R136). -/
theorem pushBlur_eq (q : List BlurRecord) (b : BlurRecord) : pushBlur q b = (if 4 ≤ q.length then q.tail else q) ++ [b] :=
  (apply_ite (· ++ [b]) (4 ≤ q.length) q.tail q).symm

theorem exec_strobeRise_of_high (h : s.mou.strobe = true) : exec .strobeRise s = .next s :=
  congrArg Host.Outcome.next (if_pos h)

theorem exec_strobeFall_of_low (h : s.mou.strobe = false) : exec .strobeFall s = .next s :=
  congrArg Host.Outcome.next (if_neg (by simp [h]))

theorem exec_strobeRise_of_low (h : s.mou.strobe = false) : exec .strobeRise s = .next (s.setMou (strobeRises s.mou)) :=
  congrArg Host.Outcome.next (if_neg (by simp [h]))

theorem exec_strobeFall_of_high (h : s.mou.strobe = true) : exec .strobeFall s = .next (s.setMou (strobeFalls s.mou)) :=
  congrArg Host.Outcome.next (if_pos h)

theorem strobeFalls_of_none {m : Mou} (h : m.window = none) : strobeFalls m = { m with strobe := false } := by
  unfold strobeFalls
  rw [h]

theorem strobeFalls_of_window {m : Mou} {w : BlurWindow} (h : m.window = some w) : strobeFalls m =
    { m with strobe := false, window := none, queue := pushBlur m.queue (blurRecord w) } := by
  unfold strobeFalls
  rw [h]

end

/-- Settles O49: a readback held or compared, and each edge of the strobe line from each level. -/
theorem readbackAndStrobe : Obligations.ReadbackAndStrobe := by
  unfold Obligations.ReadbackAndStrobe
  refine ⟨fun s y p h => congrArg Host.Outcome.next (takeReadback_uncompared h), fun s y p a hm ht => ?_,
    fun s => exec_strobeRise_of_high, fun s => exec_strobeFall_of_low, fun s h => exec_strobeRise_of_low h,
    fun s h hw => ?_, fun s w h hw => ?_⟩
  · intro fails n
    have hfails : readbackFails s.mou.params.shiftTol ⟨y, p⟩ a = true ↔ fails := readbackFails_iff
    have hexec : exec (.readback y p) s = .next (takeReadback s ⟨y, p⟩) := rfl
    rw [hexec, takeReadback_compared hm ht]
    refine ⟨fun hf => ?_, fun hf hn => ?_, fun hf hn => ?_⟩
    · rw [if_neg (mt hfails.1 hf)]
    · rw [if_pos (hfails.2 hf)]
      exact congrArg Host.Outcome.next (if_neg (Nat.not_le.2 hn))
    · rw [if_pos (hfails.2 hf)]
      exact congrArg Host.Outcome.next (if_pos hn)
  · rw [exec_strobeFall_of_high h, strobeFalls_of_none hw]
  · rw [exec_strobeFall_of_high h, strobeFalls_of_window hw, pushBlur_eq]
    rfl

end Sys2Proof.Machine
end

section
/-! PROOF of the statement on RATE_SAMPLE (R120 to R127, R129 to R131, R135): the sequence check, one axis of a sample, and
the unit and the machine after it. -/

namespace Sys2Proof.Machine

/-- The rounded quotient lies within half of the quotient, and a half goes away from zero (section 4.5). -/
theorem divRoundAway_nearest (i : Int) {d : Nat} (hd : 0 < d) : (2 * (d * divRoundAway i d - i)).natAbs ≤ d ∧
    ((2 * (d * divRoundAway i d - i)).natAbs = d → i.natAbs < (d * divRoundAway i d).natAbs) := by
  have hdiv := Nat.div_add_mod (2 * i.natAbs + d) (2 * d)
  have hmod := Nat.mod_lt (2 * i.natAbs + d) (show 0 < 2 * d by omega)
  unfold divRoundAway
  generalize (2 * i.natAbs + d) / (2 * d) = q at *
  have hprod : 2 * d * q = 2 * (d * q) := Nat.mul_assoc ..
  have hcast : (d : Int) * (q : Int) = (d * q : Nat) := (Int.natCast_mul ..).symm
  split
  · rw [hcast]
    omega
  · rw [Int.mul_neg, hcast]
    omega

/-! ### The sequence check (R121) -/

theorem sequenceCase_none (seq : Nat) : sequenceCase none seq = .inOrder := rfl

/-- What the check finds, by the number g of samples missing modulo 256. -/
theorem sequenceCase_of_missing {last g : Nat} (hg : g ≤ 255) :
    sequenceCase (some last) ((last + 1 + g) % 256) =
      if g = 0 then .inOrder else if g ≤ 8 then .shortGap g else if g ≤ 254 then .longGap else .repeated := by
  have hmissing : ((last + 1 + g) % 256 + 511 - last % 256) % 256 = g := by omega
  unfold sequenceCase
  dsimp only
  rw [hmissing]

theorem sequenceCase_next (last : Nat) : sequenceCase (some last) ((last + 1) % 256) = .inOrder :=
  sequenceCase_of_missing (Nat.zero_le _)

theorem sequenceCase_repeated {last : Nat} (hl : last < 256) : sequenceCase (some last) last = .repeated := by
  have h := sequenceCase_of_missing (last := last) (le_refl 255)
  rwa [show (last + 1 + 255) % 256 = last by omega] at h

/-- Before the sample after a long gap the unit is recentred, and no axis counts toward pan (R121, R129). -/
theorem sequenceEffect_longGap (m : Mou) : sequenceEffect m .longGap = { m with
    yaw := axisPanCleared (axisCentred m.yaw), pitch := axisPanCleared (axisCentred m.pitch), target := ⟨0, 0⟩
    targetBefore := none } := rfl

/-- The machine after a sample taken into the unit m, from the machine s. -/
def State.sampled (s : State) (m : Mou) : State := shiftLimitSample ((s.setMou m).level condPan m.pan)

section
variable {s : State} {seq : Nat} {yaw pitch : Int}

theorem rateSample_inOrder (h : sequenceCase s.mou.lastSeq seq = .inOrder) :
    rateSample s seq yaw pitch = s.sampled (processSample s.mou s.shiftScaleNow seq yaw pitch) := by
  unfold rateSample
  dsimp only
  rw [h]
  rfl

/-- A repeated sample is not used. -/
theorem rateSample_repeated (h : sequenceCase s.mou.lastSeq seq = .repeated) :
    rateSample s seq yaw pitch = s.raise condMotionGap := by
  unfold rateSample
  dsimp only
  rw [h]
  rfl

/-- After a gap the sample is processed as one in order, on the unit that the sequence check leaves. -/
theorem rateSample_afterGap {c : SequenceCase} (h : sequenceCase s.mou.lastSeq seq = c) (hc : c = .longGap ∨ ∃ g, c = .shortGap g) :
    rateSample s seq yaw pitch =
      rateSample ((s.raise condMotionGap).setMou { sequenceEffect s.mou c with lastSeq := none }) seq yaw pitch := by
  have horder : sequenceCase ((s.raise condMotionGap).setMou { sequenceEffect s.mou c with lastSeq := none }).mou.lastSeq seq =
      .inOrder := sequenceCase_none seq
  rw [rateSample_inOrder horder]
  unfold rateSample
  dsimp only
  rw [h]
  rcases hc with rfl | ⟨g, rfl⟩ <;> rfl

end

/-- The integration of R121, one step for each element of a list. -/
theorem integrateTimes_eq_foldl (p : StabParams) (n : Nat) (x : Axis) :
    integrateTimes p n x = (List.range n).foldl (fun y _ => integrate p y) x := by
  induction n generalizing x with
  | zero => rfl
  | succ n ih =>
    rw [List.range_succ_eq_map, List.foldl_cons, List.foldl_map]
    exact ih (integrate p x)

/-! ### One axis (R122 to R124, R130, R131) -/

/-- An axis after a sample of rate r, with the pan state before it, in a mode with shift scale k. -/
def sampledAxis (p : StabParams) (pan : Bool) (mode : StabMode) (k : Nat) (r : Int) (x : Axis) : Axis :=
  axisShift mode k (integrate p (axisPan p (axisRate p pan r x)))

theorem panCandidate_iff (p : StabParams) (x : Axis) : panCandidate p x = true ↔
    p.panRef ≤ x.rate.natAbs ∧ ((0 < x.rate ∧ x.prevSign = .positive) ∨ (x.rate < 0 ∧ x.prevSign = .negative)) := by
  unfold panCandidate signOf
  simp only [Bool.and_eq_true, decide_eq_true_eq, and_assoc]
  refine and_congr_right' ?_
  rcases lt_trichotomy x.rate 0 with h | h | h
  · simp [h, h.ne, h.not_gt]
  · simp [h]
  · simp [h, h.ne', h.le]

/-- The pan counter counts while the axis is a candidate (R124). -/
theorem axisPan_panCount (p : StabParams) (x : Axis) :
    (panCandidate p x = true → (axisPan p x).panCount = min 255 (x.panCount + 1)) ∧
    (¬ panCandidate p x = true → (axisPan p x).panCount = 0) := ⟨fun h => if_pos h, fun h => if_neg h⟩

/-- The leak of an asserted axis is the quicker one (R123). -/
theorem leakOf_eq (p : StabParams) (x : Axis) : leakOf p x = if p.panDeb ≤ x.panCount then p.leakShift - 3 else p.leakShift := by
  unfold leakOf asserted
  simp only [decide_eq_true_eq]

theorem opticalTarget_eq (mode : StabMode) (total : Int) :
    opticalTarget mode total = if mode = .optical then max (-2047) (min 2047 total) else 0 := by cases mode <;> rfl

theorem residualOf_eq (mode : StabMode) (total optical : Int) :
    residualOf mode total optical = if mode = .off then 0 else total - optical := by cases mode <;> rfl

/-! ### The unit after a sample -/

/-- Pan as the combination of the enabled axes (R125). -/
theorem panOf_iff (p : StabParams) (yaw pitch : Axis) : panOf p yaw pitch = true ↔
    if p.combination = .or then
      (p.yawEnable = true ∧ p.panDeb ≤ yaw.panCount) ∨ (p.pitchEnable = true ∧ p.panDeb ≤ pitch.panCount)
    else (p.yawEnable = true ∨ p.pitchEnable = true) ∧ (p.yawEnable = true → p.panDeb ≤ yaw.panCount) ∧
      (p.pitchEnable = true → p.panDeb ≤ pitch.panCount) := by
  unfold panOf asserted
  cases p.combination with
  | or => simp
  | and => cases p.yawEnable <;> cases p.pitchEnable <;> simp

/-- The clamp acts on an axis whose optical target is not its total shift (R131). -/
theorem axisClamped_iff (m : Mou) : (axisClamped m.mode m.yaw || axisClamped m.mode m.pitch) = true ↔
    m.mode = .optical ∧ (m.yaw.optical ≠ m.yaw.total ∨ m.pitch.optical ≠ m.pitch.total) := by
  simp only [axisClamped, Bool.or_eq_true, decide_eq_true_eq]
  exact and_or_left.symm

/-! ### The machine after a sample -/

section
variable (s : State) (m : Mou)

/-- Where the optical clamp acts SHIFT_LIMIT follows, and the frame being stored carries it (R131, R142). -/
theorem sampled_of_clamps (h : m.mode = .optical ∧ (m.yaw.optical ≠ m.yaw.total ∨ m.pitch.optical ≠ m.pitch.total)) :
    s.sampled m = ((s.setMou m).setCnd (cndRaise (cndSetLevel s.cnd condPan m.pan) condShiftLimit)).setCst
      { s.cst with slots := fillingRecord recordShiftLimit s.cst.slots } := if_pos ((axisClamped_iff m).2 h)

theorem sampled_of_not_clamps (h : ¬ (m.mode = .optical ∧ (m.yaw.optical ≠ m.yaw.total ∨ m.pitch.optical ≠ m.pitch.total))) :
    s.sampled m = (s.setMou m).setCnd (cndSetLevel s.cnd condPan m.pan) := if_neg (mt (axisClamped_iff m).1 h)

theorem sampled_mou : (s.sampled m).mou = m := shiftLimitSample_mou _

theorem sampled_eq_set : ∃ c d, s.sampled m = ((s.setMou m).setCnd c).setCst d := by
  by_cases h : m.mode = .optical ∧ (m.yaw.optical ≠ m.yaw.total ∨ m.pitch.optical ≠ m.pitch.total)
  · exact ⟨_, _, sampled_of_clamps s m h⟩
  · exact ⟨_, s.cst, (sampled_of_not_clamps s m h).trans (State.setCst_self _).symm⟩

/-- Beside the unit, the conditions and the store nothing changes. -/
theorem sampled_frame : (((s.sampled m).setMou s.mou).setCnd s.cnd).setCst s.cst = s := by
  obtain ⟨c, d, h⟩ := sampled_eq_set s m
  rw [h]
  cases s
  rfl

end

/-- The rules of one axis (R122 to R124, R130, R131). -/
theorem sampledAxis_rules (p : StabParams) (pan : Bool) (mode : StabMode) (k : Nat) (r : Int) (x : Axis) :
    let y := sampledAxis p pan mode k r x
    let candidate := p.panRef ≤ y.rate.natAbs ∧
      ((0 < y.rate ∧ x.prevSign = .positive) ∨ (y.rate < 0 ∧ x.prevSign = .negative))
    let leak := if p.panDeb ≤ y.panCount then p.leakShift - 3 else p.leakShift
    y.bias = (if pan then x.bias else x.bias + Int.tdiv (256 * r - x.bias) (2 ^ p.biasShift)) ∧
    y.rate = max (-32767) (min 32767 (r - divRoundAway y.bias 256)) ∧
    (candidate → y.panCount = min 255 (x.panCount + 1)) ∧ (¬ candidate → y.panCount = 0) ∧
    y.prevSign = (if 0 < y.rate then .positive else if y.rate < 0 then .negative else .cleared) ∧
    y.angle = max (-2147483647) (min 2147483647 (x.angle + y.rate * p.dt - Int.tdiv x.angle (2 ^ leak))) ∧
    y.total = -divRoundAway (y.angle * k) 16777216 ∧
    y.optical = (if mode = .optical then max (-2047) (min 2047 y.total) else 0) ∧
    y.residual = (if mode = .off then 0 else y.total - y.optical) := by
  intro y candidate leak
  have hcandidate : panCandidate p (axisRate p pan r x) = true ↔ candidate := panCandidate_iff ..
  obtain ⟨hcounts, hclears⟩ := axisPan_panCount p (axisRate p pan r x)
  have hleak : leakOf p (axisPan p (axisRate p pan r x)) = leak := leakOf_eq ..
  refine ⟨rfl, rfl, fun h => hcounts (hcandidate.2 h), fun h => hclears (mt hcandidate.1 h), rfl, ?_, rfl,
    opticalTarget_eq .., residualOf_eq ..⟩
  rw [← hleak]
  rfl

/-- Settles O48: the sequence check decides what the sample works on, and one in order gives the unit of processSample. -/
theorem rateSampleUpdatesAxes : Obligations.RateSampleUpdatesAxes := by
  unfold Obligations.RateSampleUpdatesAxes
  refine ⟨fun i d hd => divRoundAway_nearest i hd, fun s yaw pitch last hlast hl => ?_, ?_, ?_⟩
  · exact congrArg Host.Outcome.next (rateSample_repeated (hlast ▸ sequenceCase_repeated hl))
  · intro s yaw pitch last seq g hlast hl hseq h1 h254 leak once filled cleared gap
    have hcase := sequenceCase_of_missing (last := last) (g := g) (by omega)
    rw [← hseq, ← hlast, if_neg (by omega)] at hcase
    have honce : integrate s.mou.params = once := by
      funext x
      simp only [integrate, leakOf_eq]
      rfl
    have hfilled (x : Axis) : integrateTimes s.mou.params g x = filled x := by
      rw [integrateTimes_eq_foldl, honce]
    have hcleared (x : Axis) : axisPanCleared (axisCentred x) = cleared x := rfl
    refine ⟨fun hg => congrArg Host.Outcome.next ?_, fun hg => congrArg Host.Outcome.next ?_⟩
    · rw [if_pos hg] at hcase
      rw [rateSample_afterGap hcase (.inr ⟨g, rfl⟩), sequenceEffect, hfilled, hfilled]
    · rw [if_neg (by omega), if_pos h254] at hcase
      rw [rateSample_afterGap hcase (.inl rfl), sequenceEffect_longGap, hcleared, hcleared]
  · intro s seq yaw pitch hlast hseq p row k rule
    have hcase : sequenceCase s.mou.lastSeq seq = .inOrder := by
      rcases hlast with h | ⟨last, h, hnext⟩
      · rw [h]
        exact sequenceCase_none seq
      · rw [h, hnext]
        exact sequenceCase_next last
    refine ⟨_, congrArg Host.Outcome.next (rateSample_inOrder hcase), ?_⟩
    rw [sampled_mou]
    refine ⟨sampledAxis_rules .., sampledAxis_rules .., panOf_iff .., rfl, rfl, rfl, rfl, rfl, rfl, rfl, rfl,
      ⟨fun h => ?_, fun h => ?_⟩, sampled_frame ..⟩
    · rw [sampled_of_clamps _ _ h]
      exact ⟨rfl, rfl⟩
    · rw [sampled_of_not_clamps _ _ h]
      exact ⟨rfl, rfl⟩

end Sys2Proof.Machine
end

section
/-! PROOF of the statement on the canonical form of the memories (R140, R179): which commands and events leave the tables alone,
and what the others, and a stored line, write. -/

namespace Sys2Proof.Machine

/-! ### What leaves the link alone -/

theorem State.lnk_ite {p : Prop} [Decidable p] {a b s : State} (ha : a.lnk = s.lnk) (hb : b.lnk = s.lnk) :
    (if p then a else b).lnk = s.lnk := by
  split
  · exact ha
  · exact hb

theorem losePosition_lnk (s : State) (m : Move) : (losePosition s m).lnk = s.lnk := by
  have hm (ks : List Source) (u : State) : (ks.foldl moveLost u).lnk = u.lnk := by
    induction ks generalizing u with
    | nil => rfl
    | cons k ks ih => exact (ih _).trans (moveLost_lnk u k)
  unfold losePosition
  dsimp only
  rw [State.grant_lnk]
  exact State.lnk_ite ((afcFocusInvalid_lnk _).trans (hm ..)) (hm ..)

theorem takeStep_lnk (s : State) (m : Move) (x : LensSample) : (takeStep s m x).lnk = s.lnk := by
  have hs (l : Lds) : (signalStep (s.setLds l) m.motor).lnk = s.lnk := (signalStep_storeOnly ..).lnk
  unfold takeStep
  exact State.lnk_ite ((losePosition_lnk ..).trans (hs _)) (State.lnk_ite ((endComplete_lnk ..).trans (hs _)) (hs _))

theorem stepBoundary_lnk (s : State) (x : LensSample) (b : Bool) : (stepBoundary s x b).lnk = s.lnk := by
  have hon (m : Move) : (boundaryOn s m x).lnk = s.lnk := by
    unfold boundaryOn
    split
    · exact preempt_lnk ..
    · exact State.lnk_ite (State.lnk_ite (endComplete_lnk ..) (takeStep_lnk ..)) (takeStep_lnk ..)
  unfold stepBoundary
  split
  · rfl
  · exact State.lnk_ite (State.lnk_ite (hon _) (endStopped_lnk ..)) (hon _)

theorem referenceStep_lnk (s : State) (x : LensSample) : (referenceStep s x).lnk = s.lnk := by
  have hnext (u : State) (m : Motor) : (nextPhase u m).lnk = u.lnk := by
    cases m with
    | iris | focus => rfl
    | zoom => exact State.grant_lnk _
  unfold referenceStep
  split
  · rfl
  · next r _ =>
    have hs (l : Lds) : (signalStep (s.setLds l) r.motor).lnk = s.lnk := (signalStep_storeOnly ..).lnk
    exact State.lnk_ite (State.grant_lnk _) (State.lnk_ite ((hnext ..).trans (hs _))
      (State.lnk_ite ((hnext ..).trans (hs _)) (hs _)))

theorem frameEndPacket_lnk (s : State) : (frameEndPacket s).lnk = s.lnk := by
  have hcomplete : (completeFrame s).lnk = s.lnk := by
    cases hm : s.stats.measure with
    | some m => exact (completeFrame_keeps hm).2.2.2.2
    | none =>
      unfold completeFrame
      rw [hm]
      exact (truncatedWork_mou_stats _).2.2.2.2
  unfold frameEndPacket
  split
  · exact State.lnk_ite (truncateFrame_lnk ..) hcomplete
  · rfl

theorem timeoutExpires_lnk (s : State) : (timeoutExpires s).lnk = s.lnk := by
  unfold timeoutExpires
  refine State.lnk_ite ?_ rfl
  exact State.lnk_ite (truncateFrame_lnk ..) rfl

theorem rateSample_lnk (s : State) (seq : Nat) (yaw pitch : Int) : (rateSample s seq yaw pitch).lnk = s.lnk := by
  have hgap (p : Prop) [Decidable p] : (if p then s else s.raise condMotionGap).lnk = s.lnk := State.lnk_ite rfl rfl
  unfold rateSample
  dsimp only
  split
  · exact hgap _
  · exact (shiftLimitSample_storeOnly _).lnk.trans (hgap _)

/-! ### Host commands (R176) -/

/-- A command leaves the tables alone when its block does. -/
theorem hostCommand_tables {α : Type} {i : Instr} {s : State} {tag : Tag} {code : Byte} {p : Payload α}
    {block : α → State → State × Answer} (h : ∀ a u, (block a u).1.lnk.tables = u.lnk.tables) :
    (hostCommand i tag code p block s).lnk.tables = s.lnk.tables := by
  unfold hostCommand takeCommand
  split
  · cases p with
    | args a => exact h a _
    | wrongLength => rfl
  · rfl

theorem hostCommand_tables_of_lnk {α : Type} {i : Instr} {s : State} {tag : Tag} {code : Byte} {p : Payload α}
    {block : α → State → State × Answer} (h : ∀ a u, (block a u).1.lnk = u.lnk) :
    (hostCommand i tag code p block s).lnk.tables = s.lnk.tables :=
  hostCommand_tables fun a u => congrArg Lnk.tables (h a u)

theorem aeMode_lnk (n : Nat) (s : State) : (aeMode n s).1.lnk = s.lnk := by
  have hchange (u : State) (st : AeState) : (aeModeChanges u st).lnk = u.lnk :=
    State.lnk_ite ((State.cancelMove_lnk ..).trans (aecEnter_lnk ..)) (aecEnter_lnk ..)
  unfold aeMode
  split
  · rfl
  · split
    · rfl
    · exact State.lnk_ite rfl (hchange ..)

theorem lensSetup_lnk (a : LensSetupArgs) (s : State) : (lensSetup a s).1.lnk = s.lnk := by
  unfold lensSetup
  repeat' split
  iterate 2 rfl
  exact lensSetupTaken_lnk ..

theorem focusMove_lnk (a : MoveArgs) (s : State) : (focusMove a s).1.lnk = s.lnk := by
  unfold focusMove
  dsimp only
  repeat' split
  iterate 3 rfl
  exact (State.grant_lnk _).trans (State.place_lnk ..)

theorem lensPark_lnk (s : State) : (lensPark s).1.lnk = s.lnk := by
  unfold lensPark
  repeat' split
  iterate 3 rfl
  exact (State.grant_lnk _).trans (parkRequest_lnk ..)

theorem afSetup_lnk (a : AfSetupArgs) (s : State) : (afSetup a s).1.lnk = s.lnk := by
  unfold afSetup
  repeat' split
  iterate 2 rfl
  exact afSetupTaken_lnk ..

theorem afStart_lnk (s : State) : (afStart s).1.lnk = s.lnk := by
  unfold afStart
  split
  · rfl
  · exact (State.grant_lnk _).trans (afcScanStart_lnk s)

theorem zoomTo_lnk (a : MoveArgs) (s : State) : (zoomTo a s).1.lnk = s.lnk := by
  unfold zoomTo
  split
  · rfl
  · exact zoomGranted_lnk ..

theorem zoomBy_lnk (a : ZoomByArgs) (s : State) : (zoomBy a s).1.lnk = s.lnk := by
  unfold zoomBy
  split
  · rfl
  · exact zoomGranted_lnk ..

theorem storeStart_lnk (s : State) : (storeStart s).1.lnk = s.lnk := by
  unfold storeStart
  dsimp only
  repeat' split
  all_goals rfl

theorem triggerCommand_lnk (s : State) : (triggerCommand s).1.lnk = s.lnk := by
  unfold triggerCommand
  split
  · rfl
  · exact (takeTrigger_storeOnly s).lnk

theorem slotCommand_lnk {need : SlotState} {effect : State → Nat → State} (h : ∀ s n, (effect s n).StoreOnly s) (n : Nat)
    (s : State) : (slotCommand need effect n s).1.lnk = s.lnk := by
  unfold slotCommand
  split
  · rfl
  · split
    · exact (h s n).lnk
    · rfl

/-! ### Every command and event but six -/

/-- The commands and events that write a table: the power-on reset, a frame's start, PATH_STOP, TABLE_LOAD, TABLE_COMMIT and
RESET. -/
def touchesTables : Instr → Bool
  | .powerOnReset _ | .frameStart | .pathStop _ _ | .tableLoad _ _ | .tableCommit _ _ | .reset _ _ => true
  | _ => false

/-- Any other command or event leaves every table as it is. -/
theorem exec_tables {i : Instr} (hi : touchesTables i = false) {s t : State} (h : exec i s = .next t) :
    t.lnk.tables = s.lnk.tables := by
  cases i with
  | powerOnReset | frameStart | pathStop | tableLoad | tableCommit | reset => cases hi
  | line => rw [(execLine_keeps h).2]
  | packetBoundary => exact (execPacketBoundary_memoriesKept h).tables
  | frameEnd => cases h; exact congrArg Lnk.tables (frameEndPacket_lnk s)
  | frameTimeout => cases h; exact congrArg Lnk.tables (timeoutExpires_lnk s)
  | upstreamPacket =>
    cases h
    simp only [State.setLnk_lnk, lnkReceive]
    split
    · split <;> rfl
    · rfl
  | unknownCommand tag code =>
    cases h
    unfold takeCommand
    split <;> rfl
  | pathSetup => cases h; exact hostCommand_tables_of_lnk fun a u => (pathSetup_keeps a u).2.1
  | pathStart =>
    cases h
    refine hostCommand_tables fun _ _ => ?_
    unfold pathStart
    split <;> rfl
  | statsSetup => cases h; exact hostCommand_tables fun _ _ => rfl
  | aeMode => cases h; exact hostCommand_tables_of_lnk aeMode_lnk
  | aeSetup =>
    cases h
    refine hostCommand_tables fun _ _ => ?_
    unfold aeSetup
    split <;> rfl
  | aeManual =>
    cases h
    refine hostCommand_tables fun _ _ => ?_
    unfold aeManual
    repeat' split
    all_goals rfl
  | lensSetup => cases h; exact hostCommand_tables_of_lnk lensSetup_lnk
  | focusMove => cases h; exact hostCommand_tables_of_lnk focusMove_lnk
  | lensStop => cases h; exact hostCommand_tables_of_lnk fun _ u => (congrArg State.lnk (lensStop_eq u) :)
  | lensReference =>
    cases h
    refine hostCommand_tables fun _ _ => ?_
    unfold lensReference
    repeat' split
    all_goals rfl
  | lensPark => cases h; exact hostCommand_tables_of_lnk fun _ => lensPark_lnk
  | afSetup => cases h; exact hostCommand_tables_of_lnk afSetup_lnk
  | afStart => cases h; exact hostCommand_tables_of_lnk fun _ => afStart_lnk
  | afCancel => cases h; exact hostCommand_tables_of_lnk fun _ => afcCancel_lnk
  | afHistory => cases h; exact hostCommand_tables fun _ _ => rfl
  | zoomSetup =>
    cases h
    refine hostCommand_tables fun _ _ => ?_
    unfold zoomSetup
    split <;> rfl
  | zoomTo => cases h; exact hostCommand_tables_of_lnk zoomTo_lnk
  | zoomBy => cases h; exact hostCommand_tables_of_lnk zoomBy_lnk
  | zoomStop => cases h; exact hostCommand_tables_of_lnk fun _ u => (State.grant_lnk _).trans (zmcStop_lnk u)
  | stabMode =>
    cases h
    refine hostCommand_tables fun _ _ => ?_
    unfold stabModeCommand
    repeat' split
    all_goals rfl
  | stabCenter => cases h; exact hostCommand_tables fun _ _ => rfl
  | stabSetup =>
    cases h
    refine hostCommand_tables fun _ _ => ?_
    unfold stabSetup
    split <;> rfl
  | storeSetup => cases h; exact hostCommand_tables fun a u => (storeSetup_memoriesKept a u).tables
  | storeStart => cases h; exact hostCommand_tables_of_lnk fun _ => storeStart_lnk
  | storeStop => cases h; exact hostCommand_tables_of_lnk fun _ u => (storeStop_storeOnly u).lnk
  | trigger => cases h; exact hostCommand_tables_of_lnk fun _ => triggerCommand_lnk
  | accept => cases h; exact hostCommand_tables_of_lnk (slotCommand_lnk acceptSlot_storeOnly)
  | discard => cases h; exact hostCommand_tables_of_lnk (slotCommand_lnk freeSlotAt_storeOnly)
  | release => cases h; exact hostCommand_tables_of_lnk (slotCommand_lnk freeSlotAt_storeOnly)
  | fetch tag => cases h; exact hostCommand_tables fun a u => (fetchCommand_memoriesKept tag a u).tables
  | sendAbort => cases h; exact hostCommand_tables fun _ u => (abortFetch_memoriesKept u).tables
  | noticeArm => cases h; exact hostCommand_tables fun _ _ => rfl
  | shutterSetup =>
    cases h
    refine hostCommand_tables fun _ _ => ?_
    unfold shutterSetup
    split <;> rfl
  | conditionsSetup =>
    cases h
    refine hostCommand_tables fun _ _ => ?_
    unfold conditionsSetup
    split <;> rfl
  | conditionsClear =>
    cases h
    refine hostCommand_tables fun _ _ => ?_
    unfold conditionsClear
    split <;> rfl
  | tableRead =>
    cases h
    refine hostCommand_tables fun _ _ => ?_
    unfold readTable
    repeat' split
    all_goals rfl
  | statusQuery => cases h; exact hostCommand_tables fun _ _ => rfl
  | resetCompletion =>
    cases h
    unfold resetCompletes
    split
    · split <;> rfl
    · rfl
  | stepBoundary => cases h; exact congrArg Lnk.tables (stepBoundary_lnk ..)
  | referenceStep => cases h; exact congrArg Lnk.tables (referenceStep_lnk ..)
  | writeItemAcknowledged => cases h; exact congrArg Lnk.tables (itemAcknowledged_lnk s)
  | writeItemNotAcknowledged => cases h; exact congrArg Lnk.tables (itemNotAcknowledged_lnk s)
  | rateSample => cases h; exact congrArg Lnk.tables (rateSample_lnk ..)
  | readback =>
    cases h
    unfold takeReadback
    dsimp only
    repeat' split
    all_goals rfl
  | strobeRise => cases h; exact congrArg Lnk.tables (State.lnk_ite rfl rfl)
  | strobeFall => cases h; exact congrArg Lnk.tables (State.lnk_ite rfl rfl)
  | shutterLevelChange => cases h; exact congrArg Lnk.tables (rawChanges_storeOnly ..).lnk
  | debounceExpiry => cases h; exact congrArg Lnk.tables (debounceExpires_storeOnly ..).lnk
  | gateExpiry => cases h; exact congrArg Lnk.tables (State.lnk_ite (gateExpires_storeOnly s).lnk rfl)
  | settleTimeout =>
    cases h
    exact congrArg Lnk.tables (State.lnk_ite ((State.grant_lnk _).trans (afcSettleSof_lnk ..)) rfl)
  | timedLatchExpiry => cases h; exact congrArg Lnk.tables (State.lnk_ite rfl rfl)

/-! ### The tables in their canonical form (R179 to R182) -/

/-- Fourteen tables, both copies of each in canonical form. -/
def TablesCanonical (ts : List Table) : Prop :=
  ts.length = 14 ∧ ∀ t ∈ ts, memWf t.pending = true ∧ memWf t.working = true

/-- A change of one table that keeps its copies canonical. -/
theorem TablesCanonical.modifyAt {ts : List Table} (h : TablesCanonical ts) {f : Table → Table} (i : Nat)
    (hf : ∀ t ∈ ts, memWf (f t).pending = true ∧ memWf (f t).working = true) : TablesCanonical (modifyAt f ts i) := by
  refine ⟨(length_modifyAt ..).trans h.1, fun t ht => ?_⟩
  obtain ⟨j, hj⟩ := List.mem_iff_getElem?.1 ht
  rw [getElem?_modifyAt] at hj
  split at hj
  · obtain ⟨x, hx, rfl⟩ := Option.map_eq_some_iff.1 hj
    exact hf x (List.mem_of_getElem? hx)
  · exact h.2 t (List.mem_of_getElem? hj)

theorem applyCommit_tablesCanonical {s : State} (h : TablesCanonical s.lnk.tables) (k : Nat) :
    TablesCanonical (applyCommit s k).lnk.tables := by
  unfold applyCommit
  split
  · exact h.modifyAt k fun t ht => ⟨(h.2 t ht).1, (h.2 t ht).1⟩
  · exact h

/-- A commit copies a pending copy to a working one (R182). -/
theorem applyCommits_tablesCanonical {s : State} (h : TablesCanonical s.lnk.tables) :
    TablesCanonical (applyCommits s).lnk.tables := by
  have hfold (ks : List Nat) (u : State) (hu : TablesCanonical u.lnk.tables) : TablesCanonical (ks.foldl applyCommit u).lnk.tables := by
    induction ks generalizing u with
    | nil => exact hu
    | cons k ks ih => exact ih _ (applyCommit_tablesCanonical hu k)
  have hall := hfold (List.range 14) s h
  unfold applyCommits
  dsimp only
  generalize (List.range 14).foldl applyCommit s = u at hall
  split
  · exact hall
  · exact hall

theorem applyIfStopped_tablesCanonical {s : State} (h : TablesCanonical s.lnk.tables) :
    TablesCanonical (applyIfStopped s).lnk.tables := by
  unfold applyIfStopped
  split
  · exact applyCommits_tablesCanonical h
  · exact h

theorem commitTable_tablesCanonical (n : Nat) {s : State} (h : TablesCanonical s.lnk.tables) :
    TablesCanonical (commitTable n s).1.lnk.tables := by
  unfold commitTable
  repeat' split
  iterate 3 exact h
  exact applyIfStopped_tablesCanonical (h.modifyAt n h.2)

/-- A load is a run of writes into one pending copy (R180). -/
theorem loadTable_tablesCanonical (a : TableLoadArgs) {s : State} (h : TablesCanonical s.lnk.tables) :
    TablesCanonical (loadTable a s).1.lnk.tables := by
  unfold loadTable
  repeat' split
  iterate 3 exact h
  exact h.modifyAt _ fun t ht => ⟨memWf_memWriteBytes _ _ _ (h.2 t ht).1, (h.2 t ht).2⟩

theorem frameStartPacket_tablesCanonical {s : State} (h : TablesCanonical s.lnk.tables) :
    TablesCanonical (frameStartPacket s).lnk.tables := by
  have hopens (u : State) (hu : TablesCanonical u.lnk.tables) : TablesCanonical (frameOpens u).lnk.tables := by
    have hlnk : (frameOpens u).lnk = (applyCommits (u.setIntake (intakeSof u.intake))).lnk := sofAfterCommits_lnk _
    rw [hlnk]
    exact applyCommits_tablesCanonical hu
  unfold frameStartPacket
  split
  · exact h
  · exact hopens s h
  · exact hopens _ (truncateFrame_lnk s .newStart ▸ h)

theorem pathStop_tablesCanonical {s : State} (h : TablesCanonical s.lnk.tables) : TablesCanonical (pathStop s).1.lnk.tables := by
  unfold pathStop
  split
  · exact h
  · exact applyCommits_tablesCanonical ((pathHalted_keeps s).2.1.symm ▸ h)

theorem resetScope_tablesCanonical (full : Bool) {s : State} (h : TablesCanonical s.lnk.tables) :
    TablesCanonical (resetScope full s).lnk.tables := by
  cases full with
  | true =>
    have htables : (resetScope true s).lnk.tables = s.lnk.tables.map fun t => { t with commitPending := false } := by
      rw [← (abortFetch_memoriesKept s).tables]
      rfl
    rw [htables]
    refine ⟨(List.length_map _).trans h.1, fun t ht => ?_⟩
    obtain ⟨x, hx, rfl⟩ := List.mem_map.1 ht
    exact h.2 x hx
  | false => exact applyIfStopped_tablesCanonical (s := pipelineHalted s) ((pipelineHalted_keeps s).2.1.symm ▸ h)

/-- A host command keeps the form when its block does. -/
theorem hostCommand_tablesCanonical {α : Type} {i : Instr} {s : State} {tag : Tag} {code : Byte} {p : Payload α}
    {block : α → State → State × Answer} (hs : TablesCanonical s.lnk.tables)
    (h : ∀ a u, TablesCanonical u.lnk.tables → TablesCanonical (block a u).1.lnk.tables) :
    TablesCanonical (hostCommand i tag code p block s).lnk.tables := by
  unfold hostCommand takeCommand
  split
  · cases p with
    | args a => exact h a (s.setLnk (lnkTake s.lnk tag)) hs
    | wrongLength => exact hs
  · exact hs

theorem exec_tablesCanonical {i : Instr} {s t : State} (hs : TablesCanonical s.lnk.tables) (h : exec i s = .next t) :
    TablesCanonical t.lnk.tables := by
  by_cases hi : touchesTables i = false
  · rw [exec_tables hi h]
    exact hs
  · cases i with
    | powerOnReset => cases h; exact memoriesCanonical_reset.2
    | frameStart => cases h; exact frameStartPacket_tablesCanonical hs
    | pathStop => cases h; exact hostCommand_tablesCanonical hs fun _ _ => pathStop_tablesCanonical
    | tableLoad => cases h; exact hostCommand_tablesCanonical hs fun a _ => loadTable_tablesCanonical a
    | tableCommit => cases h; exact hostCommand_tablesCanonical hs fun n _ => commitTable_tablesCanonical n
    | reset tag p =>
      cases h
      obtain hk | ⟨n, full, -, -, hk⟩ := resetCommand_cases (.reset tag p) tag p s
      · exact hk.tables ▸ hs
      · exact hk.tables ▸ resetScope_tablesCanonical full (s := s.setLnk (lnkTake s.lnk tag)) hs
    | _ => exact absurd rfl hi

/-! ### The frame memory in its canonical form (R140) -/

theorem storedMemory_wf {s : State} (h : memWf s.cst.dram = true) (y : Nat) (line : List Nat) :
    memWf (storedMemory s y line) = true := by
  unfold storedMemory
  split
  · exact memWf_memWriteBytes _ _ _ h
  · exact h

theorem exec_dram_wf {i : Instr} {s t : State} (hs : memWf s.cst.dram = true) (h : exec i s = .next t) :
    memWf t.cst.dram = true := by
  by_cases hl : ∃ pixels, i = .line pixels
  · obtain ⟨pixels, rfl⟩ := hl
    simp only [exec, execLine] at h
    split at h
    · cases h; exact hs
    · split at h
      · cases h; exact hs
      · split at h
        · cases h
        · cases h
          rw [takeLine_eq]
          exact storedMemory_wf hs ..
  · by_cases hp : ∃ lines, i = .powerOnReset lines
    · obtain ⟨lines, rfl⟩ := hp
      cases h
      rfl
    · rw [exec_dram h (fun pixels e => hl ⟨pixels, e⟩) fun lines e => hp ⟨lines, e⟩]
      exact hs

/-- Settles O3: a step is exec of the front of the queue, which writes the frame memory and the tables by memWriteBytes and by
copying alone. -/
theorem memoriesStayCanonical : Obligations.MemoriesStayCanonical := by
  intro s t ⟨hdram, htables⟩ h
  unfold step at h
  split at h
  · cases h
    exact ⟨hdram, htables⟩
  · next i rest _ =>
    exact ⟨exec_dram_wf (s := s.setPending rest) hdram h, exec_tablesCanonical (s := s.setPending rest) htables h⟩

end Sys2Proof.Machine
end

section
/-! PROOF of the statement on the ready list (R140, R141): an insertion adds one slot and keeps a list that is in storing order so,
where the orders lie in one half of the circle of numbers. -/

namespace Sys2Proof.Machine

/-! ### The circle of storing orders (R140) -/

theorem orderLater_iff {a b : Nat} (ha : a < 4294967296) :
    orderLater a b = true ↔ ∃ d, 1 ≤ d ∧ d ≤ 2147483647 ∧ a = (b + d) % 4294967296 := by
  unfold orderLater
  rw [decide_eq_true_iff]
  exact ⟨fun h => ⟨_, h.1, h.2, by omega⟩, fun ⟨d, h1, h2, h⟩ => by omega⟩

/-- How far order a lies after base on the circle. -/
def orderAfter (base a : Nat) : Nat := (a + 4294967296 - base % 4294967296) % 4294967296

/-- Order a lies in the half of the circle that base begins. -/
def InHalf (base a : Nat) : Prop := ∃ d ≤ 2147483647, a = (base + d) % 4294967296

theorem InHalf.lt {base a : Nat} (h : InHalf base a) : a < 4294967296 := by
  obtain ⟨d, -, rfl⟩ := h
  omega

/-- In one half of the circle the later order is the one farther from its beginning. -/
theorem orderLater_inHalf {base a b : Nat} (ha : InHalf base a) (hb : InHalf base b) :
    orderLater a b = true ↔ orderAfter base b < orderAfter base a := by
  obtain ⟨d, hd, rfl⟩ := ha
  obtain ⟨e, he, rfl⟩ := hb
  unfold orderLater orderAfter
  rw [decide_eq_true_iff]
  omega

/-! ### Inserting in storing order (R141) -/

section
variable (slots : List Slot)

theorem insertByOrder_perm (i : Nat) (l : List Nat) : (insertByOrder slots i l).Perm (i :: l) := by
  induction l with
  | nil => exact .refl _
  | cons j rest ih =>
    unfold insertByOrder
    split
    · exact (ih.cons j).trans (.swap i j rest)
    · exact .refl _

theorem foldl_insertByOrder_perm (ks acc : List Nat) :
    (ks.foldl (fun acc i => insertByOrder slots i acc) acc).Perm (ks ++ acc) := by
  induction ks generalizing acc with
  | nil => exact .refl _
  | cons k ks ih => exact (ih _).trans (((insertByOrder_perm slots k acc).append_left ks).trans List.perm_middle)

theorem readyList_perm : (readyList slots).Perm (slotsWhere Slot.inReadyList slots) := by
  simpa [readyList] using foldl_insertByOrder_perm slots (slotsWhere Slot.inReadyList slots) []

variable {slots} {key : Nat → Nat}

/-- An insertion into a list sorted by a key that tells which of two orders is later. -/
theorem insertByOrder_sorted {i : Nat} {l : List Nat}
    (hkey : ∀ j ∈ l, orderLater (orderOf slots i) (orderOf slots j) = true ↔ key j < key i)
    (hl : l.Pairwise fun j k => key j ≤ key k) : (insertByOrder slots i l).Pairwise fun j k => key j ≤ key k := by
  induction l with
  | nil => exact List.pairwise_singleton ..
  | cons j rest ih =>
    obtain ⟨hj, hrest⟩ := List.pairwise_cons.1 hl
    unfold insertByOrder
    split
    · next hlater =>
      have hji := (hkey j List.mem_cons_self).1 hlater
      refine List.pairwise_cons.2 ⟨fun k hk => ?_, ih (fun k hk => hkey k (List.mem_cons_of_mem _ hk)) hrest⟩
      rcases List.mem_cons.1 ((insertByOrder_perm slots i rest).mem_iff.1 hk) with rfl | hk
      · exact hji.le
      · exact hj k hk
    · next hlater =>
      have hij : key i ≤ key j := Nat.le_of_not_lt fun h => hlater ((hkey j List.mem_cons_self).2 h)
      refine List.pairwise_cons.2 ⟨fun k hk => ?_, hl⟩
      rcases List.mem_cons.1 hk with rfl | hk
      · exact hij
      · exact hij.trans (hj k hk)

theorem foldl_insertByOrder_sorted {ks acc : List Nat} {p : Nat → Prop}
    (hkey : ∀ i j, p i → p j → (orderLater (orderOf slots i) (orderOf slots j) = true ↔ key j < key i))
    (hks : ∀ i ∈ ks, p i) (hacc : ∀ j ∈ acc, p j) (hsorted : acc.Pairwise fun j k => key j ≤ key k) :
    (ks.foldl (fun acc i => insertByOrder slots i acc) acc).Pairwise fun j k => key j ≤ key k := by
  induction ks generalizing acc with
  | nil => exact hsorted
  | cons k ks ih =>
    have hk := hks k List.mem_cons_self
    refine ih (fun i hi => hks i (List.mem_cons_of_mem _ hi)) (fun j hj => ?_)
      (insertByOrder_sorted (fun j hj => hkey k j hk (hacc j hj)) hsorted)
    rcases List.mem_cons.1 ((insertByOrder_perm slots k acc).mem_iff.1 hj) with rfl | hj
    · exact hk
    · exact hacc j hj

end

/-! ### The ready list (R141) -/

theorem mem_readyList {slots : List Slot} {i : Nat} :
    i ∈ readyList slots ↔ ∃ x, slots[i]? = some x ∧ (x.state = .ready ∨ x.state = .held) := by
  rw [(readyList_perm slots).mem_iff, mem_slotsWhere]
  simp only [Slot.inReadyList, decide_eq_true_eq]

theorem orderOf_eq {slots : List Slot} {i : Nat} {x : Slot} (h : slots[i]? = some x) : orderOf slots i = x.order := by
  simp [orderOf, List.getD_eq_getElem?_getD, h]

/-- Settles O24: the list is a permutation of the slots chosen, sorted by how far their orders lie after base. -/
theorem readyListHoldsReadySlots : Obligations.ReadyListHoldsReadySlots := by
  intro slots
  refine ⟨(readyList_perm slots).nodup_iff.2 (nodup_slotsWhere ..), fun i => mem_readyList, fun base hbase => ?_⟩
  have hhalf (i : Nat) (hi : i ∈ readyList slots) : InHalf base (orderOf slots i) := by
    obtain ⟨x, hx, hready⟩ := mem_readyList.1 hi
    rw [orderOf_eq hx]
    exact hbase x (List.mem_of_getElem? hx) hready
  have hsorted : (readyList slots).Pairwise fun i j => orderAfter base (orderOf slots i) ≤ orderAfter base (orderOf slots j) :=
    foldl_insertByOrder_sorted (p := fun i => InHalf base (orderOf slots i)) (fun i j hi hj => orderLater_inHalf hi hj)
      (fun i hi => hhalf i ((readyList_perm slots).mem_iff.2 hi)) nofun .nil
  refine hsorted.imp_of_mem fun {i j} hi hj hle x y hx hy hlater => ?_
  rw [← orderOf_eq hx, ← orderOf_eq hy, ← orderLater_iff (hhalf i hi).lt, orderLater_inHalf (hhalf i hi) (hhalf j hj)] at hlater
  exact Nat.not_lt.2 hle hlater

end Sys2Proof.Machine
end

section
/-! SUPPORT. What the operations on one slot do to the slots and to STORE_FULL, exactly (R141, R155, R157, R158): a change that
leaves a slot in use, AUTO release, and a SENDING slot that returns. -/

namespace Sys2Proof.Machine

/-- s with slot i changed to y, and STORE_FULL false where that frees the slot (R141). -/
def State.slotSet (s : State) (i : Nat) (y : Slot) (frees : Prop) [Decidable frees] : State :=
  (s.setCst { s.cst with slots := s.cst.slots.set i y }).setCnd (if frees then cndSetLevel s.cnd condStoreFull false else s.cnd)

theorem State.slotSet_congr {s : State} {i : Nat} {y z : Slot} {p q : Prop} [Decidable p] [Decidable q] (hy : y = z) (h : p ↔ q) :
    s.slotSet i y p = s.slotSet i z q := by
  unfold State.slotSet
  rw [hy]
  simp only [h]

/-- A reply after an update of the store and the conditions leaves nothing else changed. -/
theorem State.storeSet_replied_undone (s : State) (c : Cst) (d : Cnd) (tag : Tag) (code : Byte) (x : Answer) :
    (((((s.setCst c).setCnd d).replied tag code x).setCst s.cst).setCnd s.cnd).setLnk s.lnk = s := by
  cases s
  rfl

/-- AUTO release frees slot y (R155). -/
abbrev Cst.autoFrees (c : Cst) (y : Slot) : Prop :=
  c.params.release = .auto ∧ y.state = .ready ∧ y.recordSent = true ∧ y.imageSent = true

section
variable {s : State} {i : Nat} {x : Slot}

theorem freeSlotAt_eq_set (hx : s.cst.slots[i]? = some x) : freeSlotAt s i =
    (s.setCst { s.cst with slots := s.cst.slots.set i (freed x) }).setCnd (cndSetLevel s.cnd condStoreFull false) := by
  rw [freeSlotAt_eq (List.getElem?_eq_some_iff.1 hx).1, modifyAt_eq_set hx]

theorem autoRelease_eq_set (hx : s.cst.slots[i]? = some x) :
    autoRelease s i = s.slotSet i (autoReleased s.cst x) (s.cst.autoFrees x) := by
  unfold autoRelease autoReleased State.slotSet
  rw [hx]
  dsimp only
  split
  · exact freeSlotAt_eq_set hx
  · obtain ⟨hi, rfl⟩ := List.getElem?_eq_some_iff.1 hx
    rw [List.set_getElem_self]
    rfl

theorem autoRelease_of_none (hx : s.cst.slots[i]? = none) : autoRelease s i = s := by
  unfold autoRelease
  rw [hx]

theorem autoRelease_of_not_ready (hx : s.cst.slots[i]? = some x) (h : x.state ≠ .ready) : autoRelease s i = s := by
  unfold autoRelease
  rw [hx]
  exact if_neg fun hr => h hr.2.1

/-- A slot in use that stays in use changes STORE_FULL in nothing. -/
theorem storeFull_set {slots : List Slot} {y : Slot} (hx : slots[i]? = some x) (hfree : x.state ≠ .free) (hy : y.state ≠ .free) :
    storeFull (slots.set i y) = storeFull slots := by
  rw [storeFull_eq_decide, storeFull_eq_decide, decide_eq_decide]
  constructor
  · intro h z hz
    obtain ⟨j, hj⟩ := List.mem_iff_getElem?.1 hz
    by_cases hij : i = j
    · subst hij
      cases hx.symm.trans hj
      exact hfree
    · exact h z (List.mem_of_getElem? (i := j) (by rw [List.getElem?_set_ne hij, hj]))
  · intro h z hz
    rcases List.mem_or_eq_of_mem_set hz with hz | rfl
    · exact h z hz
    · exact hy

/-- STORE_FULL stands at what the slots say (R163). -/
theorem State.ConditionsFollow.storeFull (h : s.ConditionsFollow) :
    (s.cnd.condition condStoreFull).current = storeFull s.cst.slots := h.2.2.2.2.2.2

/-- A change of a slot in use that leaves it in use: STORE_FULL stays as it is. -/
theorem setSlot_inUse (hfull : (s.cnd.condition condStoreFull).current = storeFull s.cst.slots) {f : Slot → Slot}
    (hx : s.cst.slots[i]? = some x) (hfree : x.state ≠ .free) (hf : (f x).state ≠ .free) :
    setSlot s i f = s.setCst { s.cst with slots := s.cst.slots.set i (f x) } := by
  rw [setSlot_eq_set f hx, storeFull_set hx hfree hf, cndSetLevel_of_current hfull]
  rfl

/-- A change of a slot in use, then AUTO release (R155). -/
theorem autoRelease_setSlot (hfull : (s.cnd.condition condStoreFull).current = storeFull s.cst.slots) {f : Slot → Slot}
    (hx : s.cst.slots[i]? = some x) (hfree : x.state ≠ .free) (hf : (f x).state ≠ .free) :
    autoRelease (setSlot s i f) i = s.slotSet i (autoReleased s.cst (f x)) (s.cst.autoFrees (f x)) := by
  have hi := (List.getElem?_eq_some_iff.1 hx).1
  have hset : (s.setCst { s.cst with slots := s.cst.slots.set i (f x) }).cst.slots[i]? = some (f x) := List.getElem?_set_self hi
  rw [setSlot_inUse hfull hx hfree hf, autoRelease_eq_set hset]
  unfold State.slotSet
  rw [State.setCst_cst, List.set_set]
  rfl

/-- A SENDING slot returns to READY or HELD (R157, R158), or is freed (R155). -/
theorem slotReturns_eq_set (hfull : (s.cnd.condition condStoreFull).current = storeFull s.cst.slots)
    (hx : s.cst.slots[i]? = some x) (hs : x.state = .sending) (hb : x.before = .ready ∨ x.before = .held) :
    slotReturns s i = s.slotSet i (autoReleased s.cst { x with state := x.before })
      (s.cst.autoFrees { x with state := x.before }) := by
  have hbefore : x.before ≠ .free := by rcases hb with h | h <;> rw [h] <;> exact SlotState.noConfusion
  have hreturns : slotReturns s i = autoRelease (setSlot s i fun y => { y with state := y.before }) i := by
    unfold slotReturns
    rw [hx]
    exact if_pos hs
  rw [hreturns]
  exact autoRelease_setSlot (f := fun y => { y with state := y.before }) hfull hx (by rw [hs]; exact SlotState.noConfusion) hbefore

end

/-- Slots tried for AUTO release one after the other change each by autoReleased, and STORE_FULL at most. -/
theorem foldl_autoRelease {ks : List Nat} (hks : ks.Nodup) (s : State) (h : ∀ k ∈ ks, k < s.cst.slots.length) :
    ∃ c, ks.foldl autoRelease s =
      (s.setCst { s.cst with slots := ks.foldl (modifyAt (autoReleased s.cst)) s.cst.slots }).setCnd c := by
  induction ks generalizing s with
  | nil => exact ⟨s.cnd, rfl⟩
  | cons k ks ih =>
    have hk := List.getElem?_eq_getElem (h k List.mem_cons_self)
    have hfirst : autoRelease s k = s.slotSet k (autoReleased s.cst _) (s.cst.autoFrees _) := autoRelease_eq_set hk
    have hslots : (autoRelease s k).cst = { s.cst with slots := modifyAt (autoReleased s.cst) s.cst.slots k } := by
      rw [hfirst, modifyAt_eq_set hk]
      rfl
    obtain ⟨c, hc⟩ := ih (List.nodup_cons.1 hks).2 (autoRelease s k) fun j hj => by
      rw [hslots]
      exact (length_modifyAt ..).symm ▸ h j (List.mem_cons_of_mem _ hj)
    refine ⟨c, ?_⟩
    rw [List.foldl_cons, hc, hslots, List.foldl_cons, hfirst]
    rfl

/-- Every slot tried for AUTO release (R145, R155). -/
theorem foldl_autoRelease_range (s : State) : ∃ c, (List.range s.cst.slots.length).foldl autoRelease s =
    (s.setCst { s.cst with slots := s.cst.slots.map (autoReleased s.cst) }).setCnd c := by
  obtain ⟨c, hc⟩ := foldl_autoRelease List.nodup_range s fun k hk => List.mem_range.1 hk
  refine ⟨c, ?_⟩
  have hslots : (List.range s.cst.slots.length).foldl (modifyAt (autoReleased s.cst)) s.cst.slots =
      s.cst.slots.map (autoReleased s.cst) := by
    refine List.ext_getElem? fun j => ?_
    rw [getElem?_foldl_modifyAt _ _ List.nodup_range, List.getElem?_map]
    split
    · rfl
    · next hj =>
      rw [List.getElem?_eq_none (Nat.le_of_not_lt fun h => hj (List.mem_range.2 h))]
      rfl
  rw [hc, hslots]

end Sys2Proof.Machine
end

section
/-! PROOF of the statement on STORE_SETUP and SHUTTER_SETUP (R145, R155, R160). -/

namespace Sys2Proof.Machine

/-! ### The structural arguments (R145, R188) -/

theorem storeMode?_of_le {n : Nat} (h : n ≤ 3) :
    storeMode? n = some (if n = 0 then .off else if n = 1 then .stream else if n = 2 then .burst else .pretrigger) := by
  match n, h with
  | 0, _ => rfl
  | 1, _ => rfl
  | 2, _ => rfl
  | 3, _ => rfl

theorem storeMode?_of_lt {n : Nat} (h : 3 < n) : storeMode? n = none := by
  match n, h with
  | n + 4, _ => rfl

theorem overflow?_of_le {n : Nat} (h : n ≤ 1) : overflow? n = some (if n = 0 then .stop else .overwrite) := by
  match n, h with
  | 0, _ => rfl
  | 1, _ => rfl

theorem overflow?_of_lt {n : Nat} (h : 1 < n) : overflow? n = none := by
  match n, h with
  | n + 2, _ => rfl

theorem timeoutAction?_of_le {n : Nat} (h : n ≤ 1) : timeoutAction? n = some (if n = 0 then .proceed else .cancel) := by
  match n, h with
  | 0, _ => rfl
  | 1, _ => rfl

theorem timeoutAction?_of_lt {n : Nat} (h : 1 < n) : timeoutAction? n = none := by
  match n, h with
  | n + 2, _ => rfl

theorem releaseMode?_of_le {n : Nat} (h : n ≤ 1) : releaseMode? n = some (if n = 0 then .auto else .explicit) := by
  match n, h with
  | 0, _ => rfl
  | 1, _ => rfl

theorem releaseMode?_of_lt {n : Nat} (h : 1 < n) : releaseMode? n = none := by
  match n, h with
  | n + 2, _ => rfl

theorem noticeMode?_of_le {n : Nat} (h : n ≤ 3) :
    noticeMode? n = some (if n = 0 then .none else if n = 1 then .first else if n = 2 then .every else .heldOnly) := by
  match n, h with
  | 0, _ => rfl
  | 1, _ => rfl
  | 2, _ => rfl
  | 3, _ => rfl

theorem noticeMode?_of_lt {n : Nat} (h : 3 < n) : noticeMode? n = none := by
  match n, h with
  | n + 4, _ => rfl

theorem bitSetWithin_of_lt {n size : Nat} (h : n < 2 ^ size) : bitSetWithin n size = true := decide_eq_true h

theorem bitSetWithin_of_le {n size : Nat} (h : 2 ^ size ≤ n) : bitSetWithin n size = false := decide_eq_false (Nat.not_lt.2 h)

section
variable {s : State} {tag : Tag} {a : StoreSetupArgs} {c : StoreChoice}

/-- A structural argument out of its range (R145). -/
def StoreSetupRefused (a : StoreSetupArgs) : Prop :=
  3 < a.mode ∨ 1 < a.policy ∨ 2 ^ 3 ≤ a.gateMask ∨ 1 < a.timeoutAction ∨ 2 ^ 5 ≤ a.filterMask ∨ 2 ^ 6 ≤ a.holdMask ∨
    1 < a.releaseMode ∨ 3 < a.noticeMode

/-- The choice that arguments in their ranges make. -/
def storeChoiceOf (a : StoreSetupArgs) : StoreChoice :=
  { mode := if a.mode = 0 then .off else if a.mode = 1 then .stream else if a.mode = 2 then .burst else .pretrigger
    overflow := if a.policy = 0 then .stop else .overwrite
    gate := ⟨inBitSet a.gateMask 0, inBitSet a.gateMask 1, inBitSet a.gateMask 2⟩
    timeoutAction := if a.timeoutAction = 0 then .proceed else .cancel
    filter := ⟨inBitSet a.filterMask 0, inBitSet a.filterMask 1, inBitSet a.filterMask 2, inBitSet a.filterMask 3,
      inBitSet a.filterMask 4⟩
    hold := ⟨inBitSet a.holdMask 0, inBitSet a.holdMask 1, inBitSet a.holdMask 2, inBitSet a.holdMask 3,
      inBitSet a.holdMask 4, inBitSet a.holdMask 5⟩
    release := if a.releaseMode = 0 then .auto else .explicit
    notice := if a.noticeMode = 0 then .none else if a.noticeMode = 1 then .first
      else if a.noticeMode = 2 then .every else .heldOnly }

/-- Each argument of a choice has been read. -/
theorem storeChoice?_fields (h : storeChoice? a = some c) :
    storeMode? a.mode = some c.mode ∧ overflow? a.policy = some c.overflow ∧ gateMask? a.gateMask = some c.gate ∧
    timeoutAction? a.timeoutAction = some c.timeoutAction ∧ filterMask? a.filterMask = some c.filter ∧
    holdMask? a.holdMask = some c.hold ∧ releaseMode? a.releaseMode = some c.release ∧
    noticeMode? a.noticeMode = some c.notice := by
  simp only [storeChoice?, Option.bind_eq_bind, Option.bind_eq_some_iff] at h
  obtain ⟨mode, hmode, overflow, hoverflow, gate, hgate, timeout, htimeout, filter, hfilter, hold, hhold, release, hrelease,
    notice, hnotice, hc⟩ := h
  cases hc
  exact ⟨hmode, hoverflow, hgate, htimeout, hfilter, hhold, hrelease, hnotice⟩

theorem storeChoice?_of_refused (h : StoreSetupRefused a) : storeChoice? a = none := by
  by_contra hn
  obtain ⟨c, hc⟩ := Option.ne_none_iff_exists'.1 hn
  obtain ⟨hmode, hoverflow, hgate, htimeout, hfilter, hhold, hrelease, hnotice⟩ := storeChoice?_fields hc
  rcases h with h | h | h | h | h | h | h | h
  · cases (storeMode?_of_lt h).symm.trans hmode
  · cases (overflow?_of_lt h).symm.trans hoverflow
  · rw [gateMask?, bitSetWithin_of_le h] at hgate
    cases hgate
  · cases (timeoutAction?_of_lt h).symm.trans htimeout
  · rw [filterMask?, bitSetWithin_of_le h] at hfilter
    cases hfilter
  · rw [holdMask?, bitSetWithin_of_le h] at hhold
    cases hhold
  · cases (releaseMode?_of_lt h).symm.trans hrelease
  · cases (noticeMode?_of_lt h).symm.trans hnotice

theorem storeChoice?_of_not_refused (h : ¬ StoreSetupRefused a) : storeChoice? a = some (storeChoiceOf a) := by
  unfold StoreSetupRefused at h
  push Not at h
  obtain ⟨hmode, hoverflow, hgate, htimeout, hfilter, hhold, hrelease, hnotice⟩ := h
  unfold storeChoice? gateMask? filterMask? holdMask?
  rw [storeMode?_of_le hmode, overflow?_of_le hoverflow, bitSetWithin_of_lt hgate, timeoutAction?_of_le htimeout,
    bitSetWithin_of_lt hfilter, bitSetWithin_of_lt hhold, releaseMode?_of_le hrelease, noticeMode?_of_le hnotice]
  rfl

theorem storeChoice?_eq_none : storeChoice? a = none ↔ StoreSetupRefused a := by
  refine ⟨fun h => ?_, storeChoice?_of_refused⟩
  by_contra hn
  cases (storeChoice?_of_not_refused hn).symm.trans h

theorem eq_storeChoiceOf (h : storeChoice? a = some c) : c = storeChoiceOf a := by
  have hn : ¬ StoreSetupRefused a := fun hr => by cases (storeChoice?_of_refused hr).symm.trans h
  exact Option.some.inj (h.symm.trans (storeChoice?_of_not_refused hn))

/-! ### The slot count and the clamps (R145) -/

theorem slotCountRefused_eq_true {g : Geometry} {m : StoreMode} {n : Nat} : slotCountRefused g m n = true ↔
    n < 2 ∨ 24 < n ∨ slotSize n < storedBytes g ∨ (m = .pretrigger ∧ n = 2) := by
  simp only [slotCountRefused, Bool.or_eq_true, decide_eq_true_eq]
  tauto

/-- No value of a STORE_SETUP differs from its argument. -/
abbrev StoreArgsHeld (p : StoreParams) (a : StoreSetupArgs) : Prop :=
  p.nAfter = a.nAfter ∧ p.nPre = a.nPre ∧ p.gateTimeout = a.gateTimeout ∧ p.skipMax = a.skipMax

theorem storeClamped_eq_true : storeClamped a = true ↔ ¬ StoreArgsHeld (storeParamsOf c a) a := by
  simp only [storeClamped, StoreArgsHeld, storeParamsOf, Bool.or_eq_true, clampArg_changed_eq_true]
  tauto

/-! ### The outcomes of STORE_SETUP -/

theorem exec_storeSetup_busy (h : s.turnOf (.storeSetup tag (.args a))) (hs : s.cst.state ≠ .idle) :
    exec (.storeSetup tag (.args a)) s = .next (s.replied tag 24 (answer .refusedState)) :=
  congrArg Host.Outcome.next (hostCommand_unchanged h (if_pos hs))

theorem exec_storeSetup_arg (h : s.turnOf (.storeSetup tag (.args a))) (hs : s.cst.state = .idle)
    (ha : ∀ c, storeChoice? a = some c → slotCountRefused s.intake.geometry c.mode a.slots = true) :
    exec (.storeSetup tag (.args a)) s = .next (s.replied tag 24 (answer .refusedArg)) := by
  refine congrArg Host.Outcome.next (hostCommand_unchanged h ?_)
  refine (if_neg (not_not.2 hs)).trans ?_
  cases hc : storeChoice? a with
  | none => rfl
  | some c => exact if_pos (ha c hc)

theorem exec_storeSetup_inUse (h : s.turnOf (.storeSetup tag (.args a))) (hs : s.cst.state = .idle)
    (hc : storeChoice? a = some c) (hn : ¬ slotCountRefused s.intake.geometry c.mode a.slots = true)
    (hne : a.slots ≠ s.cst.slots.length) (huse : ∃ x ∈ s.cst.slots, x.state ≠ .free) :
    exec (.storeSetup tag (.args a)) s = .next (s.replied tag 24 (answer .refusedState)) := by
  refine congrArg Host.Outcome.next (hostCommand_unchanged h ?_)
  refine (if_neg (not_not.2 hs)).trans ?_
  rw [hc]
  refine (if_neg hn).trans (if_pos ⟨hne, ?_⟩)
  obtain ⟨x, hx, hfree⟩ := huse
  exact fun hall => hfree (of_decide_eq_true (List.all_eq_true.1 hall x hx))

theorem autoRelease_ignores (i : Nat) : IgnoresBuffer (autoRelease · i) := by
  intro s b
  change autoRelease (s.withBuffer b) i = (autoRelease s i).withBuffer b
  cases hx : s.cst.slots[i]? with
  | none => rw [autoRelease_of_none hx, autoRelease_of_none (s := s.withBuffer b) hx]
  | some x =>
    rw [autoRelease_eq_set hx, autoRelease_eq_set (s := s.withBuffer b) hx]
    rfl

theorem foldl_ignores {f : State → Nat → State} (h : ∀ i, IgnoresBuffer (f · i)) (ks : List Nat) :
    IgnoresBuffer fun s => ks.foldl f s := by
  intro s b
  induction ks generalizing s with
  | nil => rfl
  | cons k ks ih => exact (congrArg (ks.foldl f) (h k s b)).trans (ih _)

/-- The slots of a taken STORE_SETUP, before AUTO release (R145). -/
def slotsSetup (c : Cst) (n : Nat) : List Slot := if n = c.slots.length then c.slots else List.replicate n freeSlot

theorem storeSetupTaken_eq (s : State) (p : StoreParams) (n : Nat) : storeSetupTaken s p n =
    (List.range (slotsSetup s.cst n).length).foldl autoRelease (s.setCst { s.cst with params := p, slots := slotsSetup s.cst n }) :=
  rfl

theorem storeSetupTaken_ignores (p : StoreParams) (n : Nat) : IgnoresBuffer (storeSetupTaken · p n) := fun s b =>
  foldl_ignores autoRelease_ignores _ (s.setCst _) b

theorem storeSetupTaken_lnk (s : State) (p : StoreParams) (n : Nat) : (storeSetupTaken s p n).lnk = s.lnk :=
  (foldl_storeOnly autoRelease_storeOnly _ _).lnk

theorem exec_storeSetup_taken (h : s.turnOf (.storeSetup tag (.args a))) (hs : s.cst.state = .idle)
    (hc : storeChoice? a = some c) (hn : ¬ slotCountRefused s.intake.geometry c.mode a.slots = true)
    (hfree : a.slots ≠ s.cst.slots.length → ∀ x ∈ s.cst.slots, x.state = .free) :
    exec (.storeSetup tag (.args a)) s = .next ((storeSetupTaken s (storeParamsOf c a) a.slots).replied tag 24
      (answer (clampedStatus (storeClamped a) .done))) := by
  refine congrArg Host.Outcome.next (hostCommand_ignoring (f := (storeSetupTaken · (storeParamsOf c a) a.slots)) h
    (storeSetupTaken_ignores _ _) (storeSetupTaken_lnk ..) ?_)
  refine (if_neg (not_not.2 hs)).trans ?_
  rw [hc]
  refine (if_neg hn).trans (if_neg ?_)
  rintro ⟨hne, hall⟩
  exact hall (List.all_eq_true.2 fun x hx => decide_eq_true (hfree hne x hx))

/-- At the same slot count every slot is tried for AUTO release (R145, R155). -/
theorem storeSetupTaken_sameCount {p : StoreParams} {n : Nat} (h : n = s.cst.slots.length) :
    ∃ d, storeSetupTaken s p n =
      (s.setCst { s.cst with params := p, slots := s.cst.slots.map (autoReleased { s.cst with params := p }) }).setCnd d := by
  rw [storeSetupTaken_eq, slotsSetup, if_pos h]
  exact foldl_autoRelease_range (s.setCst { s.cst with params := p })

theorem foldl_autoRelease_of_free (ks : List Nat) {s : State} (h : ∀ x ∈ s.cst.slots, x.state = .free) :
    ks.foldl autoRelease s = s := by
  have hone (i : Nat) : autoRelease s i = s := by
    cases hx : s.cst.slots[i]? with
    | none => exact autoRelease_of_none hx
    | some x => exact autoRelease_of_not_ready hx (by rw [h x (List.mem_of_getElem? hx)]; exact SlotState.noConfusion)
  induction ks with
  | nil => rfl
  | cons k ks ih => rw [List.foldl_cons, hone, ih]

/-- At a new slot count the memory is divided anew (R145, log entry 78). -/
theorem storeSetupTaken_newCount {p : StoreParams} {n : Nat} (h : n ≠ s.cst.slots.length) :
    storeSetupTaken s p n = s.setCst { s.cst with params := p, slots := List.replicate n freeSlot } := by
  rw [storeSetupTaken_eq, slotsSetup, if_neg h]
  exact foldl_autoRelease_of_free _ fun x hx => by rw [List.eq_of_mem_replicate hx]; rfl

end

/-! ### SHUTTER_SETUP (R160) -/

section
variable {s : State} {tag : Tag} {a : ShutterSetupArgs}

theorem exec_shutterSetup_arg (h : s.turnOf (.shutterSetup tag (.args a))) (ha : 1 < a.s1Enable ∨ 1 < a.s2Enable) :
    exec (.shutterSetup tag (.args a)) s = .next (s.replied tag 34 (answer .refusedArg)) := by
  refine congrArg Host.Outcome.next (hostCommand_unchanged h ?_)
  unfold shutterSetup
  rcases ha with ha | ha
  · rw [yesNo?_of_lt ha]
  · rw [yesNo?_of_lt ha]
    cases yesNo? a.s1Enable <;> rfl

theorem exec_shutterSetup_taken (h : s.turnOf (.shutterSetup tag (.args a))) (h1 : a.s1Enable ≤ 1) (h2 : a.s2Enable ≤ 1) :
    exec (.shutterSetup tag (.args a)) s = .next ((s.setCst { s.cst with
      debounce := clampNat 0 50 a.debounce, s1 := { s.cst.s1 with enable := decide (a.s1Enable = 1) }
      s2 := { s.cst.s2 with enable := decide (a.s2Enable = 1) } }).replied tag 34
        (answer (clampedStatus (clampArg 0 50 a.debounce).changed .done))) := by
  refine congrArg Host.Outcome.next (hostCommand_replied h rfl ?_)
  unfold shutterSetup
  rw [yesNo?_of_le h1, yesNo?_of_le h2]
  rfl

end

/-- Settles O50, by the order of R145's checks and by whether the slot count changes. -/
theorem storeAndShutterSetup : Obligations.StoreAndShutterSetup := by
  refine ⟨fun s tag a h => ⟨storeChoice?_eq_none, fun c hc => eq_storeChoiceOf hc, fun hnone hs => ?_, fun _ hs => ?_⟩, ?_,
    fun s tag a h => ⟨exec_shutterSetup_arg h, fun h1 h2 => ?_⟩⟩
  · exact exec_storeSetup_arg h hs fun c hc => by cases hnone.symm.trans hc
  · exact exec_storeSetup_busy h hs
  · intro s tag a c h hc bytes refused p status
    have hrefused : slotCountRefused s.intake.geometry c.mode a.slots = true ↔ refused := slotCountRefused_eq_true
    have hp : storeParamsOf c a = p := by
      unfold storeParamsOf
      simp only [clampNat_zero]
      rfl
    have hstatus : answer (clampedStatus (storeClamped a) .done) = status :=
      congrArg answer (clampedStatus_eq (hp ▸ storeClamped_eq_true) .done)
    refine ⟨exec_storeSetup_busy h, fun hs hr => ?_, fun hs hr hne => ⟨?_, fun hfree => ?_⟩, fun hs hr heq => ?_⟩
    · refine exec_storeSetup_arg h hs fun d hd => ?_
      cases hc.symm.trans hd
      exact hrefused.2 hr
    · exact exec_storeSetup_inUse h hs hc (mt hrefused.1 hr) hne
    · rw [exec_storeSetup_taken h hs hc (mt hrefused.1 hr) fun _ => hfree, storeSetupTaken_newCount hne, hp, hstatus]
    · have htaken := exec_storeSetup_taken h hs hc (mt hrefused.1 hr) fun hne => absurd heq hne
      obtain ⟨d, hd⟩ := storeSetupTaken_sameCount (s := s) (p := storeParamsOf c a) heq
      rw [hd, hp, hstatus] at htaken
      exact ⟨_, htaken, rfl, rfl, s.storeSet_replied_undone _ d tag 24 status⟩
  · have hstatus : (clampArg 0 50 a.debounce).changed = true ↔ ¬ a.debounce ≤ 50 := by
      rw [clampArg_changed_eq_true, clampNat_zero]
      omega
    rw [exec_shutterSetup_taken h h1 h2, clampedStatus_eq hstatus, clampNat_zero]

end Sys2Proof.Machine
end

section
/-! PROOF of the statement on ACCEPT, DISCARD and RELEASE (R141, R155). -/

namespace Sys2Proof.Machine

/-! ### A command on one slot (R155) -/

section
variable {need : SlotState} {effect : State → Nat → State} {n : Nat} {s : State}

theorem slotCommand_of_none (h : s.cst.slots[n]? = none) : slotCommand need effect n s = (s, answer .refusedArg) := by
  unfold slotCommand
  rw [h]

theorem slotCommand_of_other {x : Slot} (hx : s.cst.slots[n]? = some x) (h : x.state ≠ need) :
    slotCommand need effect n s = (s, answer .refusedState) := by
  unfold slotCommand
  rw [hx]
  exact if_neg h

theorem slotCommand_of_state {x : Slot} (hx : s.cst.slots[n]? = some x) (h : x.state = need) :
    slotCommand need effect n s = (effect s n, answer .done) := by
  unfold slotCommand
  rw [hx]
  exact if_pos h

end

/-- Command i of the given code judges slot n, in state need, by effect (R155). -/
def JudgesSlot (i : Instr) (tag : Tag) (n : Nat) (code : Byte) (need : SlotState) (effect : State → Nat → State) : Prop :=
  ∀ s, exec i s = .next (hostCommand i tag code (.args n) (slotCommand need effect) s)

section
variable {s : State} {i : Instr} {tag : Tag} {n : Nat} {code : Byte} {need : SlotState} {effect : State → Nat → State}

/-- The outcomes of such a command; its effect on a slot in the state needed is given as the change of that slot. -/
theorem JudgesSlot.outcomes (hi : JudgesSlot i tag n code need effect) (h : s.turnOf i) :
    (s.cst.slots.length ≤ n → exec i s = .next (s.replied tag code (answer .refusedArg))) ∧
    ∀ x, s.cst.slots[n]? = some x →
      (x.state ≠ need → exec i s = .next (s.replied tag code (answer .refusedState))) ∧
      (x.state = need → ∀ (y : Slot) (frees : Prop) [Decidable frees],
        (∀ u : State, u.cst = s.cst → u.cnd = s.cnd → effect u n = u.slotSet n y frees) →
        exec i s = .next ((s.slotSet n y frees).replied tag code (answer .done))) := by
  let taken := s.setLnk (lnkTake s.lnk tag)
  refine ⟨fun hn => ?_, fun x hx => ⟨fun hs => ?_, fun hs y frees _ he => ?_⟩⟩
  · exact (hi s).trans (congrArg Host.Outcome.next (hostCommand_unchanged h (slotCommand_of_none (List.getElem?_eq_none hn))))
  · exact (hi s).trans (congrArg Host.Outcome.next (hostCommand_unchanged h (slotCommand_of_other (s := taken) hx hs)))
  · refine (hi s).trans (congrArg Host.Outcome.next (hostCommand_replied h rfl ?_))
    rw [slotCommand_of_state (s := taken) hx hs, he taken rfl rfl]
    rfl

/-- DISCARD and RELEASE free the slot (R141). -/
theorem JudgesSlot.frees (hi : JudgesSlot i tag n code need freeSlotAt) (h : s.turnOf i) {x : Slot} (hx : s.cst.slots[n]? = some x)
    (hs : x.state = need) : exec i s = .next ((s.slotSet n (freed x) True).replied tag code (answer .done)) :=
  ((hi.outcomes h).2 x hx).2 hs _ True fun u hcst hcnd => by
    rw [freeSlotAt_eq_set (s := u) (hcst ▸ hx), State.slotSet, if_pos trivial]

/-- ACCEPT makes a HELD slot READY, and AUTO release may then free it (R155). -/
theorem acceptSlot_eq {u : State} (hcst : u.cst = s.cst) (hcnd : u.cnd = s.cnd) (hc : s.ConditionsFollow) {x : Slot}
    (hx : s.cst.slots[n]? = some x) (hs : x.state = .held) : acceptSlot u n =
      u.slotSet n (autoReleased s.cst { x with state := .ready }) (s.cst.autoFrees { x with state := .ready }) := by
  rw [← hcst] at hx ⊢
  refine autoRelease_setSlot (f := fun y => { y with state := .ready }) ?_ hx ?_ SlotState.noConfusion
  · rw [hcnd, hcst]
    exact hc.storeFull
  · rw [hs]
    exact SlotState.noConfusion

end

/-- Settles O52: each command by the slot it names, and ACCEPT by AUTO release of a slot that stays in use. -/
theorem hostJudgesSlots : Obligations.HostJudgesSlots := by
  intro s tag n i code h hi need
  rcases hi with ⟨rfl, rfl⟩ | hi
  · have hneed : need = .held := if_neg nofun
    obtain ⟨hnone, hsome⟩ := JudgesSlot.outcomes (effect := acceptSlot) (need := .held) (fun _ => rfl) h
    refine ⟨hnone, fun x hx => ⟨fun hs => (hsome x hx).1 (hneed ▸ hs), fun hs => ?_⟩⟩
    intro frees y hc
    rw [hneed] at hs
    rw [(hsome x hx).2 hs _ _ fun u hcst hcnd => acceptSlot_eq hcst hcnd hc hx hs]
    have hfrees : s.cst.autoFrees { x with state := .ready } ↔ frees :=
      ⟨fun ⟨hr, _, h1, h2⟩ => .inr ⟨hr, h1, h2⟩, fun hf => hf.elim (fun hn => absurd rfl hn) fun ⟨hr, h1, h2⟩ => ⟨hr, rfl, h1, h2⟩⟩
    have hy : autoReleased s.cst { x with state := .ready } = y := if_congr hfrees rfl rfl
    rw [State.slotSet_congr hy hfrees]
    rfl
  · have hjudges : ¬ i = .accept tag (.args n) ∧ JudgesSlot i tag n code need freeSlotAt := by
      rcases hi with ⟨rfl, rfl⟩ | ⟨rfl, rfl⟩
      · have hneed : need = .held := if_neg nofun
        exact ⟨nofun, hneed ▸ fun _ => rfl⟩
      · have hneed : need = .ready := if_pos rfl
        exact ⟨nofun, hneed ▸ fun _ => rfl⟩
    obtain ⟨hfree, hj⟩ := hjudges
    obtain ⟨hnone, hsome⟩ := hj.outcomes h
    refine ⟨hnone, fun x hx => ⟨(hsome x hx).1, fun hs => ?_⟩⟩
    intro frees y _
    have hfrees : frees := .inl hfree
    have hy : freed x = y := (if_pos hfrees).symm
    rw [hj.frees h hx hs, State.slotSet_congr hy (iff_of_true trivial hfrees)]
    rfl

end Sys2Proof.Machine
end

section
/-! PROOF of the statement on FETCH and SEND_ABORT (R155 to R158). -/

namespace Sys2Proof.Machine

/-! ### The arguments of FETCH (R156) -/

/-- The selector of a number in range. -/
def selectorOf (n : Nat) : Selector := if n = 0 then .oldest else if n = 1 then .newest else .slot

theorem selector?_of_le {n : Nat} (h : n ≤ 2) : selector? n = some (selectorOf n) := by
  match n, h with
  | 0, _ => rfl
  | 1, _ => rfl
  | 2, _ => rfl

theorem selector?_of_lt {n : Nat} (h : 2 < n) : selector? n = none := by
  match n, h with
  | n + 3, _ => rfl

theorem selectorOf_eq_oldest {n : Nat} : selectorOf n = .oldest ↔ n = 0 := by
  unfold selectorOf
  split_ifs <;> simp_all

theorem selectorOf_eq_slot {n : Nat} (h : n ≤ 2) : selectorOf n = .slot ↔ n = 2 := by
  match n, h with
  | 0, _ => decide
  | 1, _ => decide
  | 2, _ => decide

theorem parts?_of_le {n : Nat} (h : n ≤ 2) : parts? n = some ⟨decide (n ≠ 1), decide (n ≠ 0)⟩ := by
  match n, h with
  | 0, _ => rfl
  | 1, _ => rfl
  | 2, _ => rfl

theorem parts?_of_lt {n : Nat} (h : 2 < n) : parts? n = none := by
  match n, h with
  | n + 3, _ => rfl

/-! ### The slot that is fetched (R156) -/

section
variable {s : State} {tag : Tag} {a : FetchArgs} {n : Nat} {x : Slot} {r : FrameRecord}

/-- The slot holds a complete frame (R141). -/
def Cst.readyAt (c : Cst) (n : Nat) : Prop := ∃ x, c.slots[n]? = some x ∧ (x.state = .ready ∨ x.state = .held)

theorem inReadyList_getD {c : Cst} : (c.slots.getD n freeSlot).inReadyList = true ↔ c.readyAt n := by
  rw [Slot.inReadyList, decide_eq_true_iff, List.getD_eq_getElem?_getD, Cst.readyAt]
  cases c.slots[n]? with
  | none => simp [freeSlot]
  | some x => simp

/-- The selector finds no slot. -/
abbrev Cst.fetchFindsNone (c : Cst) (a : FetchArgs) : Prop :=
  (a.selector ≤ 1 ∧ readyList c.slots = []) ∨ (a.selector = 2 ∧ ¬ c.readyAt a.slot)

/-- The selector finds slot n. -/
abbrev Cst.fetchFinds (c : Cst) (a : FetchArgs) (n : Nat) : Prop :=
  (a.selector = 0 ∧ (readyList c.slots).head? = some n) ∨ (a.selector = 1 ∧ (readyList c.slots).getLast? = some n) ∨
    (a.selector = 2 ∧ a.slot = n ∧ c.readyAt n)

theorem fetchSlot_none {c : Cst} (h : c.fetchFindsNone a) : fetchSlot c a.slot (selectorOf a.selector) = none := by
  rcases h with ⟨hle, hempty⟩ | ⟨h2, hn⟩
  · rcases (by omega : a.selector = 0 ∨ a.selector = 1) with h | h
    all_goals
      rw [h]
      simp [fetchSlot, selectorOf, hempty]
  · rw [h2]
    exact if_neg (mt inReadyList_getD.1 hn)

theorem fetchSlot_some {c : Cst} (h : c.fetchFinds a n) : fetchSlot c a.slot (selectorOf a.selector) = some n := by
  rcases h with ⟨h0, h⟩ | ⟨h1, h⟩ | ⟨h2, rfl, h⟩
  · rw [h0]
    exact h
  · rw [h1]
    exact h
  · rw [h2]
    exact if_pos (inReadyList_getD.2 h)

/-! ### The outcomes of FETCH (R156, R157) -/

/-- The arguments are in their ranges. -/
abbrev Cst.fetchAllowed (c : Cst) (a : FetchArgs) : Prop :=
  a.selector ≤ 2 ∧ a.parts ≤ 2 ∧ (a.selector = 2 → a.slot < c.slots.length)

theorem fetchCommand_refusedArg (h : 2 < a.selector ∨ 2 < a.parts ∨ (a.selector = 2 ∧ s.cst.slots.length ≤ a.slot)) :
    fetchCommand tag a s = (s, answer .refusedArg) := by
  unfold fetchCommand
  by_cases hs : 2 < a.selector
  · rw [selector?_of_lt hs]
  · by_cases hp : 2 < a.parts
    · rw [parts?_of_lt hp, selector?_of_le (Nat.le_of_not_lt hs)]
    · obtain ⟨h2, hn⟩ := (h.resolve_left hs).resolve_left hp
      rw [parts?_of_le (Nat.le_of_not_lt hp), selector?_of_le (Nat.le_of_not_lt hs)]
      exact if_pos ⟨(selectorOf_eq_slot (Nat.le_of_not_lt hs)).2 h2, hn⟩

theorem not_slotOutside (h : s.cst.fetchAllowed a) : ¬ (selectorOf a.selector = .slot ∧ s.cst.slots.length ≤ a.slot) :=
  fun ⟨hslot, hle⟩ => Nat.not_lt.2 hle (h.2.2 ((selectorOf_eq_slot h.1).1 hslot))

theorem fetchCommand_busy (h : s.cst.fetchAllowed a) (hf : s.cst.fetch.isSome = true) :
    fetchCommand tag a s = (s, answer .refusedBusy) := by
  unfold fetchCommand
  rw [selector?_of_le h.1, parts?_of_le h.2.1]
  exact (if_neg (not_slotOutside h)).trans (if_pos hf)

theorem fetchCommand_refusedState (h : s.cst.fetchAllowed a) (hf : s.cst.fetch = none) (hn : s.cst.fetchFindsNone a) :
    fetchCommand tag a s = (s, answer .refusedState) := by
  unfold fetchCommand
  rw [selector?_of_le h.1, parts?_of_le h.2.1]
  refine (if_neg (not_slotOutside h)).trans ((if_neg (by rw [hf]; nofun)).trans ?_)
  rw [fetchSlot_none hn]

theorem fetchCommand_taken (h : s.cst.fetchAllowed a) (hf : s.cst.fetch = none) (hn : s.cst.fetchFinds a n)
    (hx : s.cst.slots[n]? = some x) (hr : x.record = some r) : fetchCommand tag a s =
      (takeFetch s n (fetchOf tag n x r (selectorOf a.selector) ⟨decide (a.parts ≠ 1), decide (a.parts ≠ 0)⟩),
        answer .accepted) := by
  unfold fetchCommand
  rw [selector?_of_le h.1, parts?_of_le h.2.1]
  refine (if_neg (not_slotOutside h)).trans ((if_neg (by rw [hf]; nofun)).trans ?_)
  rw [fetchSlot_some hn]
  have hget : s.cst.slots.getD n freeSlot = x := by simp [List.getD_eq_getElem?_getD, hx]
  dsimp only
  rw [hget, hr]

theorem heldHead_selectorOf : heldHead (selectorOf a.selector) x = decide (a.selector = 0 ∧ x.state = .held) := by
  unfold heldHead
  simp only [selectorOf_eq_oldest]

/-- The slots once fetch f has taken slot n, which holds x. -/
def slotsTaken (slots : List Slot) (n : Nat) (x : Slot) (image : Bool) : List Slot :=
  if image then slots.set n { x with state := .sending, before := x.state } else slots

/-- A taken fetch: the slot whose image is asked is SENDING, and STORE_FULL follows. -/
theorem takeFetch_eq {f : Fetch} (hx : s.cst.slots[n]? = some x) : takeFetch s n f =
    (s.setCst { s.cst with slots := slotsTaken s.cst.slots n x f.image, fetch := some f }).setCnd
      (if f.image then cndSetLevel s.cnd condStoreFull (storeFull (slotsTaken s.cst.slots n x f.image)) else s.cnd) := by
  unfold takeFetch slotsTaken
  cases f.image with
  | false => rfl
  | true =>
    exact setSlot_eq_set (s := s.setCst { s.cst with fetch := some f })
      (fun y => { y with state := .sending, before := y.state }) hx

/-! ### SEND_ABORT (R158) -/

/-- An aborted fetch of an image: what its slot returns to, and STORE_FULL where the conditions follow. -/
theorem slotReturns_aborted {fetch : Option Fetch} (hx : s.cst.slots[n]? = some x) (hs : x.state = .sending) :
    let frees := s.cst.params.release = .auto ∧ x.before = .ready ∧ x.recordSent = true ∧ x.imageSent = true
    ∃ c, slotReturns (s.setCst { s.cst with fetch := fetch }) n =
        (s.setCst { s.cst with fetch := fetch, slots := s.cst.slots.set n (returnedFrom s.cst x) }).setCnd c ∧
      (s.ConditionsFollow → x.before = .ready ∨ x.before = .held →
        c = if frees then cndSetLevel s.cnd condStoreFull false else s.cnd) := by
  obtain ⟨c, hc, -⟩ := slotReturns_eq (s := s.setCst { s.cst with fetch := fetch }) hx hs
  refine ⟨c, hc, fun hcond hb => ?_⟩
  have hset := slotReturns_eq_set (s := s.setCst { s.cst with fetch := fetch }) hcond.storeFull hx hs hb
  exact (congrArg State.cnd hc).symm.trans (congrArg State.cnd hset)

end

/-- The outcomes of FETCH. -/
theorem fetch_outcomes {s : State} {tag : Tag} {a : FetchArgs} (h : s.turnOf (.fetch tag (.args a))) :
    (2 < a.selector ∨ 2 < a.parts ∨ (a.selector = 2 ∧ s.cst.slots.length ≤ a.slot) →
      exec (.fetch tag (.args a)) s = .next (s.replied tag 31 (answer .refusedArg))) ∧
    (s.cst.fetchAllowed a →
      (s.cst.fetch.isSome = true → exec (.fetch tag (.args a)) s = .next (s.replied tag 31 (answer .refusedBusy))) ∧
      (s.cst.fetch = none →
        (s.cst.fetchFindsNone a → exec (.fetch tag (.args a)) s = .next (s.replied tag 31 (answer .refusedState))) ∧
        ∀ (n : Nat) (x : Slot) (r : FrameRecord), s.cst.fetchFinds a n → s.cst.slots[n]? = some x → x.record = some r →
          let f := fetchOf tag n x r (selectorOf a.selector) ⟨decide (a.parts ≠ 1), decide (a.parts ≠ 0)⟩
          exec (.fetch tag (.args a)) s = .next (((s.setCst { s.cst with
            slots := slotsTaken s.cst.slots n x f.image, fetch := some f }).setCnd
              (if f.image then cndSetLevel s.cnd condStoreFull (storeFull (slotsTaken s.cst.slots n x f.image))
                else s.cnd)).replied tag 31 (answer .accepted)))) := by
  let taken := s.setLnk (lnkTake s.lnk tag)
  have unchanged {x : Answer} (hb : fetchCommand tag a taken = (taken, x)) :
      exec (.fetch tag (.args a)) s = .next (s.replied tag 31 x) :=
    congrArg Host.Outcome.next (hostCommand_unchanged h hb)
  refine ⟨fun hr => unchanged (fetchCommand_refusedArg hr), fun ha => ⟨fun hf => unchanged (fetchCommand_busy ha hf),
    fun hf => ⟨fun hn => unchanged (fetchCommand_refusedState ha hf hn), fun n x r hn hx hr => ?_⟩⟩⟩
  refine congrArg Host.Outcome.next (hostCommand_replied h rfl ?_)
  rw [fetchCommand_taken (s := taken) ha hf hn hx hr, takeFetch_eq (s := taken) hx]
  rfl

/-- The outcomes of SEND_ABORT. -/
theorem sendAbort_outcome {s t : State} {tag : Tag} (h : s.turnOf (.sendAbort tag (.args ()))) (ht : t.lnk = s.lnk)
    (hb : abortFetch (s.setLnk (lnkTake s.lnk tag)) = t.setLnk (lnkTake s.lnk tag)) :
    exec (.sendAbort tag (.args ())) s = .next (t.replied tag 32 (answer .done)) :=
  congrArg Host.Outcome.next (hostCommand_replied h ht (congrArg (·, answer .done) hb))

theorem abortFetch_of_none {s : State} (h : s.cst.fetch = none) : abortFetch s = s := by
  unfold abortFetch
  rw [h]

theorem abortFetch_of_final {s : State} (h : sendingFinal s.lnk = true) : abortFetch s = s := by
  unfold abortFetch
  split
  · rfl
  · exact if_pos h

theorem abortFetch_of_some {s : State} {f : Fetch} (hf : s.cst.fetch = some f) (h : sendingFinal s.lnk = false) :
    abortFetch s = if f.image then
      slotReturns (s.setCst { s.cst with fetch := some { f with aborted := true, record := none } }) f.slot
      else endFetch s := by
  unfold abortFetch
  rw [hf]
  exact if_neg (by rw [h]; nofun)

/-- Settles O53: FETCH by its arguments, the fetch in progress and the slot that the selector finds; SEND_ABORT by the fetch. -/
theorem fetchAndAbort : Obligations.FetchAndAbort := by
  refine ⟨fun s tag a h => ?_, fun s tag h => ⟨fun hf => ?_, fun f hf => ⟨fun hfin => ?_, fun hfin him => ?_,
    fun hfin him x hx hs => ?_⟩⟩⟩
  · obtain ⟨hrefused, hallowed⟩ := fetch_outcomes h
    refine ⟨hrefused, fun hsel hparts hslot => ⟨(hallowed ⟨hsel, hparts, hslot⟩).1, fun hf => ?_⟩⟩
    obtain ⟨hnone, hsome⟩ := (hallowed ⟨hsel, hparts, hslot⟩).2 hf
    refine ⟨hnone, fun n x r hn hx hr => ?_⟩
    have htaken := hsome n x r hn hx hr
    simp only [fetchOf, heldHead_selectorOf] at htaken
    exact htaken
  · exact sendAbort_outcome h rfl (abortFetch_of_none hf)
  · exact sendAbort_outcome h rfl (abortFetch_of_final hfin)
  · refine sendAbort_outcome (t := s.setCst { s.cst with fetch := none }) h rfl ?_
    exact (abortFetch_of_some (s := s.setLnk (lnkTake s.lnk tag)) hf hfin).trans (if_neg (by rw [him]; nofun))
  · obtain ⟨c, hc, hcnd⟩ := slotReturns_aborted (s := s.setLnk (lnkTake s.lnk tag))
      (fetch := some { f with aborted := true, record := none }) hx hs
    have habort := (abortFetch_of_some (s := s.setLnk (lnkTake s.lnk tag)) hf hfin).trans ((if_pos him).trans hc)
    let t := (s.setCst { s.cst with
      fetch := some { f with aborted := true, record := none }, slots := s.cst.slots.set f.slot (returnedFrom s.cst x) }).setCnd c
    exact ⟨_, sendAbort_outcome (t := t) h rfl habort, rfl, hcnd, rfl, State.storeSet_replied_undone ..⟩

end Sys2Proof.Machine
end

section
/-! SUPPORT. The payloads of NOTICE, STATS and RECORD, field by field (R170, R187, R189, R190). -/

namespace Sys2Proof.Machine

/-! ### A run of fields of one length (R187) -/

section
variable {α β : Type} {f : α → List β} {n i : Nat} {l : List α} {x : α}

theorem length_flatMap_fields (hf : ∀ x ∈ l, (f x).length = n) : (l.flatMap f).length = n * l.length := by
  induction l with
  | nil => rfl
  | cons y l ih =>
    rw [List.flatMap_cons, List.length_append, hf y List.mem_cons_self, ih fun z hz => hf z (List.mem_cons_of_mem _ hz),
      List.length_cons, Nat.mul_succ, Nat.add_comm]

/-- From the beginning of a field on, the run goes on with that field. -/
theorem drop_flatMap_fields (hf : ∀ x ∈ l, (f x).length = n) (hx : l[i]? = some x) :
    (l.flatMap f).drop (n * i) = f x ++ (l.drop (i + 1)).flatMap f := by
  induction l generalizing i with
  | nil => cases hx
  | cons y l ih =>
    cases i with
    | zero =>
      cases hx
      rfl
    | succ i =>
      rw [List.flatMap_cons, Nat.mul_succ, Nat.add_comm, ← hf y List.mem_cons_self, List.drop_length_add_append,
        hf y List.mem_cons_self, ih (fun z hz => hf z (List.mem_cons_of_mem _ hz)) hx]
      rfl

variable {bytes pre post : List β} {k : Nat}

/-- A run of fields that follows k bytes: the bytes from field i on. -/
theorem drop_field (hb : bytes = pre ++ l.flatMap f ++ post) (hk : pre.length = k) (hf : ∀ x ∈ l, (f x).length = n)
    (hx : l[i]? = some x) : bytes.drop (k + n * i) = f x ++ ((l.drop (i + 1)).flatMap f ++ post) := by
  have hi := (List.getElem?_eq_some_iff.1 hx).1
  rw [hb, ← hk, List.append_assoc, List.drop_length_add_append, List.drop_append_of_le_length, drop_flatMap_fields hf hx,
    List.append_assoc]
  rw [length_flatMap_fields hf]
  exact Nat.mul_le_mul_left n hi.le

/-- Field i of the run. -/
theorem take_drop_field (hb : bytes = pre ++ l.flatMap f ++ post) (hk : pre.length = k) (hf : ∀ x ∈ l, (f x).length = n)
    (hx : l[i]? = some x) : (bytes.drop (k + n * i)).take n = f x := by
  rw [drop_field hb hk hf hx]
  exact List.take_left' (hf x (List.mem_of_getElem? hx))

/-- A byte of field i of the run. -/
theorem getElem?_field (hb : bytes = pre ++ l.flatMap f ++ post) (hk : pre.length = k) (hf : ∀ x ∈ l, (f x).length = n)
    (hx : l[i]? = some x) {j : Nat} (hj : j < n) : bytes[k + n * i + j]? = (f x)[j]? := by
  rw [← List.getElem?_drop, drop_field hb hk hf hx]
  exact List.getElem?_append_left (hj.trans_eq (hf x (List.mem_of_getElem? hx)).symm)

end

theorem getElem?_eq_getD {α : Type} {l : List α} {i : Nat} (h : i < l.length) (d : α) : l[i]? = some (l.getD i d) := by
  rw [List.getD_eq_getElem?_getD, List.getElem?_eq_getElem h]
  rfl

/-! ### Flags and bit sets (R187) -/

theorem fieldOption8_eq (n : Option Nat) : fieldOption8 n = fieldBool n.isSome ++ field8 (n.getD 0) := by
  cases n <;> rfl

/-- The weight of a flag at bit n. -/
def flagBit (b : Bool) (n : Nat) : Nat := if b = true then 2 ^ n else 0

theorem flagBit_succ (b : Bool) (n : Nat) : flagBit b (n + 1) = 2 * flagBit b n := by
  cases b
  · rfl
  · exact Nat.pow_succ'

theorem flagByte_three (a b c : Bool) : flagByte [a, b, c] = field8 (flagBit a 0 + flagBit b 1 + flagBit c 2) := by
  refine congrArg field8 ?_
  change 2 * (2 * (2 * 0 + flagBit c 0) + flagBit b 0) + flagBit a 0 = _
  simp only [flagBit_succ]
  omega

theorem flagByte_six (a b c d e f : Bool) : flagByte [a, b, c, d, e, f] =
    field8 (flagBit a 0 + flagBit b 1 + flagBit c 2 + flagBit d 3 + flagBit e 4 + flagBit f 5) := by
  refine congrArg field8 ?_
  change 2 * (2 * (2 * (2 * (2 * (2 * 0 + flagBit f 0) + flagBit e 0) + flagBit d 0) + flagBit c 0) + flagBit b 0) +
    flagBit a 0 = _
  simp only [flagBit_succ]
  omega

/-- The members below n of a set, as a number. -/
def bitSum (p : Nat → Bool) (n : Nat) : Nat := (List.range n).foldl (fun acc b => if p b then acc + 2 ^ b else acc) 0

theorem bitSum_succ (p : Nat → Bool) (n : Nat) : bitSum p (n + 1) = bitSum p n + flagBit (p n) n := by
  rw [bitSum, List.range_succ, List.foldl_append]
  change (if p n = true then bitSum p n + 2 ^ n else bitSum p n) = _
  unfold flagBit
  split <;> rfl

theorem bitSum_lt (p : Nat → Bool) (n : Nat) : bitSum p n < 2 ^ n := by
  induction n with
  | zero => exact Nat.one_pos
  | succ n ih =>
    have hbit : flagBit (p n) n ≤ 2 ^ n := by unfold flagBit; split <;> omega
    rw [bitSum_succ, Nat.pow_succ]
    omega

theorem testBit_bitSum (p : Nat → Bool) {n j : Nat} (h : j < n) : (bitSum p n).testBit j = p j := by
  induction n with
  | zero => cases h
  | succ n ih =>
    rw [bitSum_succ, Nat.add_comm]
    unfold flagBit
    rcases Nat.lt_succ_iff_lt_or_eq.1 h with h | rfl
    · split
      · rw [Nat.testBit_two_pow_add_gt h, ih h]
      · rw [Nat.zero_add, ih h]
    · have hout : (bitSum p j).testBit j = false := Nat.testBit_lt_two_pow (bitSum_lt p j)
      split
      · next hp => rw [Nat.testBit_two_pow_add_eq, hout, hp]; rfl
      · next hp => rw [Nat.zero_add, hout, Bool.eq_false_iff.2 hp]

/-- Member 8 * k + j of a bit set of n bytes: bit j of the byte that stands k before the last. -/
theorem getElem?_fieldBitSet {n k j : Nat} (hk : k < n) (hj : j < 8) (members : List Nat) {b : Byte}
    (hb : (fieldBitSet n members)[n - 1 - k]? = some b) : b.getLsbD j = decide (8 * k + j ∈ members) := by
  have hbyte : b = byteOf (bitSum (fun b => members.contains (8 * (n - 1 - (n - 1 - k)) + b)) 8) := by
    rw [fieldBitSet, List.getElem?_map, List.getElem?_range (by omega)] at hb
    exact (Option.some.inj hb).symm
  rw [hbyte, byteOf, BitVec.getLsbD_ofNat, testBit_bitSum _ hj, show n - 1 - (n - 1 - k) = k by omega]
  simp [hj]

/-! ### NOTICE (R170, R189) -/

section
variable (c : Cnd) (last : Option Nat)

theorem length_notice : (noticePacket c last).payload.length = 60 := rfl

/-- The bytes of condition k. -/
def noticeBytes (k : Nat) : List Byte := fieldBool (c.condition k).latch ++ field8 (c.condition k).count

/-- The bytes of a state condition's levels. -/
def noticeLevels (k : Nat) : List Byte := fieldBool (c.condition k).latchedLevel ++ fieldBool (c.condition k).current

theorem notice_condition {k j : Nat} (hk : k < 25) (hj : j < 2) :
    (noticePacket c last).payload[2 + 2 * k + j]? = (noticeBytes c k)[j]? :=
  getElem?_field (f := noticeBytes c) (post := stateConditions.flatMap (noticeLevels c)) rfl rfl (fun _ _ => rfl)
    (List.getElem?_range hk) hj

theorem notice_level {i k j : Nat} (hk : stateConditions[i]? = some k) (hj : j < 2) :
    (noticePacket c last).payload[52 + 2 * i + j]? = (noticeLevels c k)[j]? :=
  getElem?_field (f := noticeLevels c) (post := []) (List.append_nil _).symm rfl (fun _ _ => rfl) hk hj

end

/-! ### STATS (R189) -/

section
variable {p : StatsPacket}

/-- The fields of STATS before the means. -/
def statsHeader (p : StatsPacket) : List Byte :=
  field16 p.fn ++ field16 p.zw ++ field16 p.zh ++ field16 p.clip ++ field8 p.noise ++ [0] ++ field16 p.replaced

theorem length_windowRecordBytes (w : WindowRecord) : (windowRecordBytes w).length = 10 := by
  unfold windowRecordBytes
  split <;> rfl

theorem stats_mean (hm : p.means.length = 192) {i : Nat} (hi : i < 192) :
    ((statsBytes p).payload.drop (12 + 2 * i)).take 2 = field16 (p.means.getD i 0) :=
  take_drop_field (pre := statsHeader p) (f := field16)
    (post := p.clipped.flatMap field16 ++ (fieldBitSet 24 p.mask ++ p.windows.flatMap windowRecordBytes))
    (by simp [statsBytes, statsHeader]) rfl (fun _ _ => rfl) (getElem?_eq_getD (hm ▸ hi) 0)

theorem stats_clipped (hm : p.means.length = 192) (hc : p.clipped.length = 192) {i : Nat} (hi : i < 192) :
    ((statsBytes p).payload.drop (396 + 2 * i)).take 2 = field16 (p.clipped.getD i 0) := by
  have hpre : (statsHeader p ++ p.means.flatMap field16).length = 396 := by
    rw [List.length_append, length_flatMap_fields (n := 2) fun _ _ => rfl, hm]
    rfl
  exact take_drop_field (f := field16) (post := fieldBitSet 24 p.mask ++ p.windows.flatMap windowRecordBytes)
    (by simp [statsBytes, statsHeader]) hpre (fun _ _ => rfl) (getElem?_eq_getD (hc ▸ hi) 0)

/-- What stands before the mask. -/
theorem length_statsZones (hm : p.means.length = 192) (hc : p.clipped.length = 192) :
    (statsHeader p ++ p.means.flatMap field16 ++ p.clipped.flatMap field16).length = 780 := by
  rw [List.length_append, List.length_append, length_flatMap_fields (n := 2) fun _ _ => rfl, hm,
    length_flatMap_fields (n := 2) fun _ _ => rfl, hc]
  rfl

theorem length_statsMasked (hm : p.means.length = 192) (hc : p.clipped.length = 192) :
    (statsHeader p ++ p.means.flatMap field16 ++ p.clipped.flatMap field16 ++ fieldBitSet 24 p.mask).length = 804 := by
  rw [List.length_append, length_statsZones hm hc, fieldBitSet, List.length_map, List.length_range]

theorem stats_mask (hm : p.means.length = 192) (hc : p.clipped.length = 192) {i : Nat} (hi : i < 192) {b : Byte}
    (hb : (statsBytes p).payload[803 - i / 8]? = some b) : b.getLsbD (i % 8) = decide (i ∈ p.mask) := by
  have hbyte : (fieldBitSet 24 p.mask)[24 - 1 - i / 8]? = some b := by
    rw [← hb, show (statsBytes p).payload = (statsHeader p ++ p.means.flatMap field16 ++ p.clipped.flatMap field16) ++
      (fieldBitSet 24 p.mask ++ p.windows.flatMap windowRecordBytes) by simp [statsBytes, statsHeader],
      List.getElem?_append_right (by rw [length_statsZones hm hc]; omega), length_statsZones hm hc,
      show 803 - i / 8 - 780 = 24 - 1 - i / 8 by omega]
    refine (List.getElem?_append_left ?_).symm
    rw [fieldBitSet, List.length_map, List.length_range]
    omega
  rw [getElem?_fieldBitSet (by omega) (Nat.mod_lt i (by decide)) p.mask hbyte, Nat.div_add_mod]

theorem stats_window (hm : p.means.length = 192) (hc : p.clipped.length = 192) {k : Nat} {w : WindowRecord}
    (hw : p.windows[k]? = some w) : ((statsBytes p).payload.drop (804 + 10 * k)).take 10 = windowRecordBytes w :=
  take_drop_field (f := windowRecordBytes) (post := []) (by simp [statsBytes, statsHeader]) (length_statsMasked hm hc)
    (fun w _ => length_windowRecordBytes w) hw

theorem length_stats (hm : p.means.length = 192) (hc : p.clipped.length = 192) (hw : p.windows.length = 8) :
    (statsBytes p).payload.length = 884 := by
  rw [show (statsBytes p).payload = (statsHeader p ++ p.means.flatMap field16 ++ p.clipped.flatMap field16 ++
    fieldBitSet 24 p.mask) ++ p.windows.flatMap windowRecordBytes by simp [statsBytes, statsHeader], List.length_append,
    length_statsMasked hm hc, length_flatMap_fields fun w _ => length_windowRecordBytes w, hw]

end

/-! ### RECORD (R190) -/

theorem record_payload (tag : Tag) (p : RecordPacket) :
    let r := p.record
    let x := r.exposure
    let valid := flagBit r.zoom.valid 0 + flagBit r.focus.valid 1 + flagBit r.iris.valid 2
    let moving := flagBit r.moving.zoom 0 + flagBit r.moving.focus 1 + flagBit r.moving.iris 2
    let blur := r.blur.getD ⟨0, 0, 0⟩
    (recordPacket tag p).payload = field8 p.slot ++ field8 p.state.code ++ fieldBool p.heldMark ++ [0] ++
      (field16 r.fn ++ field16 r.captureId ++ field8 r.part.code ++ field8 r.skippedBefore ++ field16 (min 65535 r.index) ++
        field16 r.outW ++ field16 r.outH ++ field32 r.length) ++
      (field8 x.tI ++ field8 x.aE ++ field8 x.gA ++ field8 x.gD ++ field16 x.x ++ field8 x.program.code ++
        fieldBool x.mark.isSome ++ field8 (x.mark.getD 0) ++ field8 x.state.code ++ fieldBool x.settled) ++
      (field8 valid ++ field16 r.zoom.pos ++ field16 r.focus.pos ++ field8 r.iris.pos ++ field8 moving) ++
      (field8 r.afState.code ++ field8 (r.primary.getD 255) ++ fieldBool r.primaryFigure.isSome ++ [0] ++
        field32 (r.primaryFigure.getD 0)) ++
      (field8 r.shake.code ++ field8 r.stab.code ++ fieldBool r.blur.isSome ++ [0] ++ field16 blur.yaw ++ field16 blur.pitch ++
        field16 blur.count ++ field16 r.cropX ++ field16 r.cropY) ++
      field8 (flagBit r.forced 0 + flagBit r.blurred 1 + flagBit r.clippedSubject 2 + flagBit r.shiftLimit 3 +
        flagBit r.trackLimit 4 + flagBit (!x.settled) 5) ++ [0, 0, 0] := by
  simp only [recordPacket, recordBytes, exposureBytes, lensBytes, focusBytes, motionBytes, recordFlags, fieldOption8_eq,
    fieldPrimary_eq, flagByte_three, flagByte_six, List.append_assoc]

theorem length_record (tag : Tag) (p : RecordPacket) : (recordPacket tag p).payload.length = 64 := by
  rw [record_payload]
  rfl

end Sys2Proof.Machine
end

section
/-! SUPPORT. PACKET_BOUNDARY in its two halves (R178): what the end of the packet being sent does to the store (R155, R157,
R158), and which packet begins next. -/

namespace Sys2Proof.Machine

/-! ### The end of a packet (R155, R157, R158) -/

/-- s with no packet being sent. -/
def State.linkIdle (s : State) : State := s.setLnk { s.lnk with sending := none }

section
variable {s t : State} {x : Sending} {f : Fetch} {y : Slot} {i order : Nat}

theorem packetEnds_of_none (h : s.lnk.sending = none) : packetEnds s = s := by
  unfold packetEnds
  rw [h]

/-- A boundary depends on the packet being sent by what its end brings alone. -/
theorem boundary_of_packetEnds (hend : packetEnds s = t) (ht : t.lnk.sending = none) :
    exec .packetBoundary s = exec .packetBoundary t := by
  change execPacketBoundary s = execPacketBoundary t
  unfold execPacketBoundary
  rw [hend, packetEnds_of_none ht]

/-- What the end of a packet brings. -/
def State.sendEnded (s : State) : SendEnd → State
  | .nothing => s
  | .record i order => recordSent s i order
  | .line final => if final then imageSent s else s
  | .abort => abortSent s

theorem packetEnds_of_some {e : SendEnd} (h : s.lnk.sending = some x) (he : x.atEnd = e) :
    packetEnds s = s.linkIdle.sendEnded e := by
  subst he
  unfold packetEnds
  rw [h]
  rfl

theorem packetEnds_plain (h : s.lnk.sending = some x) (he : x.atEnd = .nothing ∨ x.atEnd = .line false) :
    packetEnds s = s.linkIdle :=
  he.elim (packetEnds_of_some h) (packetEnds_of_some h)

theorem abortSent_kept (hf : s.cst.fetch = some f) (h : f.freeAtEnd = false) : abortSent s = endFetch s := by
  unfold abortSent
  rw [hf]
  exact if_neg (by rw [h]; nofun)

theorem abortSent_freed (hf : s.cst.fetch = some f) (h : f.freeAtEnd = true) (hy : s.cst.slots[f.slot]? = some y) :
    abortSent s = (s.setCst { s.cst with fetch := none, slots := s.cst.slots.set f.slot (freed y) }).setCnd
      (cndSetLevel s.cnd condStoreFull false) := by
  have hfreed : abortSent s = freeSlotAt (endFetch s) f.slot := by
    unfold abortSent
    rw [hf]
    exact if_pos h
  rw [hfreed, freeSlotAt_eq_set (s := endFetch s) hy]
  rfl

/-- s with the fetch ended or not, and a slot changed, under AUTO release (R155). -/
def State.sentWhole (s : State) (fetch : Option Fetch) (i : Nat) (y : Slot) : State :=
  (s.setCst { s.cst with fetch := fetch, slots := s.cst.slots.set i (autoReleased s.cst y) }).setCnd
    (if s.cst.autoFrees y then cndSetLevel s.cnd condStoreFull false else s.cnd)

/-- The final line ends the fetch, and its slot returns with image_sent (R157). -/
theorem imageSent_eq (hfull : (s.cnd.condition condStoreFull).current = storeFull s.cst.slots) (hf : s.cst.fetch = some f)
    (hy : s.cst.slots[f.slot]? = some y) (hs : y.state = .sending) (hb : y.before = .ready ∨ y.before = .held) :
    imageSent s = s.sentWhole none f.slot { y with state := y.before, imageSent := true } := by
  have hmark : markImageSent y = { y with imageSent := true } := if_pos hs
  have hfree : y.state ≠ .free := by rw [hs]; exact SlotState.noConfusion
  have hmarked : setSlot s f.slot markImageSent =
      s.setCst { s.cst with slots := s.cst.slots.set f.slot { y with imageSent := true } } := by
    rw [setSlot_inUse hfull hy hfree (hmark ▸ hfree), hmark]
  let u := s.setCst { s.cst with fetch := none, slots := s.cst.slots.set f.slot { y with imageSent := true } }
  have himage : imageSent s = slotReturns u f.slot := by
    unfold imageSent
    rw [hf]
    dsimp only
    rw [hmarked]
    rfl
  have hu : u.cst.slots[f.slot]? = some { y with imageSent := true } :=
    List.getElem?_set_self (List.getElem?_eq_some_iff.1 hy).1
  have hufull : (u.cnd.condition condStoreFull).current = storeFull u.cst.slots :=
    hfull.trans (storeFull_set (y := { y with imageSent := true }) hy hfree hfree).symm
  rw [himage, slotReturns_eq_set hufull hu hs hb]
  unfold State.slotSet State.sentWhole
  rw [State.setCst_cst, List.set_set]
  rfl

/-- The fetch once a RECORD packet has been sent (R157). -/
def fetchAfterRecord (fetch : Option Fetch) : Option Fetch :=
  fetch.bind fun f => if f.image = true ∨ f.record.isSome = true then some f else none

/-- A fetch of the record alone ends. -/
def recordFetchEnds (s : State) : State :=
  match s.cst.fetch with
  | some f => if f.image || f.record.isSome then s else endFetch s
  | none => s

theorem setCst_fetch_self {fetch : Option Fetch} (h : s.cst.fetch = fetch) : s.setCst { s.cst with fetch := fetch } = s := by
  subst h
  cases s
  rfl

theorem recordFetchEnds_eq (s : State) : recordFetchEnds s = s.setCst { s.cst with fetch := fetchAfterRecord s.cst.fetch } := by
  unfold recordFetchEnds
  cases hf : s.cst.fetch with
  | none => exact (setCst_fetch_self hf).symm
  | some f =>
    by_cases h : f.image = true ∨ f.record.isSome = true
    · rw [show fetchAfterRecord (some f) = some f from if_pos h, setCst_fetch_self hf]
      exact if_pos (by simpa using h)
    · rw [show fetchAfterRecord (some f) = none from if_neg h]
      exact if_neg (by simpa using h)

theorem recordSent_gone (h : ∀ y, s.cst.slots[i]? = some y → y.state = .free ∨ y.order ≠ order) :
    recordSent s i order = s.setCst { s.cst with fetch := fetchAfterRecord s.cst.fetch } := by
  rw [← recordFetchEnds_eq]
  unfold recordSent
  cases hy : s.cst.slots[i]? with
  | none => rfl
  | some y =>
    have hgone : ¬ holdsFrame y order = true := by
      rw [holdsFrame, decide_eq_true_iff]
      exact fun ⟨hfree, horder⟩ => (h y hy).elim hfree fun hn => hn horder
    exact congrArg recordFetchEnds (if_neg hgone)

/-- The slot that still holds the frame takes record_sent (R157). -/
theorem recordSent_held (hfull : (s.cnd.condition condStoreFull).current = storeFull s.cst.slots)
    (hy : s.cst.slots[i]? = some y) (hfree : y.state ≠ .free) (horder : y.order = order) :
    recordSent s i order = s.sentWhole (fetchAfterRecord s.cst.fetch) i { y with recordSent := true } := by
  have hheld : recordSent s i order = recordFetchEnds (autoRelease (setSlot s i fun z => { z with recordSent := true }) i) := by
    unfold recordSent
    rw [hy]
    exact congrArg recordFetchEnds (if_pos (decide_eq_true ⟨hfree, horder⟩))
  rw [hheld, autoRelease_setSlot (f := fun z => { z with recordSent := true }) hfull hy hfree hfree, recordFetchEnds_eq]
  rfl

end

/-! ### The next packet (R178) -/

/-- The oldest answered command leaves the buffer (R175). -/
theorem dropAnswered_eq {p : BufferPlace → Bool} (ha : ∀ tag, p (.answered tag) = true) (ht : ∀ tag, p (.taken tag) = false)
    (hw : ∀ x, p (.waiting x) = false) (l : List BufferPlace) : dropAnswered l = l.eraseP p := by
  induction l with
  | nil => rfl
  | cons x l ih =>
    cases x with
    | waiting x => rw [List.eraseP_cons_of_neg (by rw [hw]; nofun), ← ih]; rfl
    | taken tag => rw [List.eraseP_cons_of_neg (by rw [ht]; nofun), ← ih]; rfl
    | answered tag => rw [List.eraseP_cons_of_pos (ha tag)]; rfl

/-- Nothing is being sent, and no REPLY waits nor anything that follows one. -/
abbrev State.linkQuiet (s : State) : Prop := s.lnk.sending = none ∧ s.lnk.following = [] ∧ s.lnk.replies = []

section
variable {s : State} {f : Fetch}

theorem noticeReady_eq_true : noticeReady s = true ↔
    s.cnd.waiting = true ∧ ∀ w, s.lnk.resetWait = some w → w.noticeKept = false := by
  unfold noticeReady
  cases s.lnk.resetWait <;> simp

theorem nextClass_following {p : Packet} {rest : List Packet} (h : s.lnk.following = p :: rest) :
    nextClass s = .following p rest := by
  unfold nextClass
  rw [h]

theorem nextClass_reply {r : Reply} {rest : List Reply} (hf : s.lnk.following = []) (h : s.lnk.replies = r :: rest) :
    nextClass s = .reply r rest := by
  unfold nextClass
  rw [hf, h]

theorem nextClass_notice (hq : s.linkQuiet) (h : noticeReady s = true) : nextClass s = .notice := by
  unfold nextClass
  rw [hq.2.1, hq.2.2]
  exact if_pos h

theorem nextClass_of_offer (hq : s.linkQuiet) (hn : ¬ noticeReady s = true) (hf : s.cst.fetch = some f) (ho : s.offer ≠ .none) :
    nextClass s = .fetch f := by
  unfold nextClass
  rw [hq.2.1, hq.2.2]
  refine (if_neg hn).trans ?_
  rw [hf]
  cases h : s.offer with
  | none => exact absurd h ho
  | abort => rfl
  | record p => rfl
  | line k w final => rfl

theorem nextClass_stats {p : StatsPacket} (hq : s.linkQuiet) (hn : ¬ noticeReady s = true) (hf : s.cst.fetch = none)
    (h : s.stats.waiting = some p) : nextClass s = .stats p := by
  unfold nextClass
  rw [hq.2.1, hq.2.2]
  refine (if_neg hn).trans ?_
  rw [hf, h]

theorem nextClass_nothing (hq : s.linkQuiet) (hn : ¬ noticeReady s = true) (hf : s.cst.fetch = none)
    (h : s.stats.waiting = none) : nextClass s = .nothing := by
  unfold nextClass
  rw [hq.2.1, hq.2.2]
  refine (if_neg hn).trans ?_
  rw [hf, h]

/-- A boundary with nothing being sent begins the packet of its class, unless that is a line outside the frame memory. -/
theorem boundary_begins (hs : s.lnk.sending = none) (hout : fetchOutside s = false) :
    exec .packetBoundary s = .next (sendNext s) := by
  change execPacketBoundary s = _
  unfold execPacketBoundary
  rw [packetEnds_of_none hs]
  exact if_neg (by rw [hout]; nofun)

theorem fetchOutside_of_class (h : ∀ f, nextClass s ≠ .fetch f) : fetchOutside s = false := by
  unfold fetchOutside
  split
  · next hc _ => exact absurd hc (h _)
  · rfl

theorem fetchOutside_of_offer {o : FetchOffer} (ho : s.offer = o) (h : ∀ k w final, o ≠ .line k w final) :
    fetchOutside s = false := by
  unfold fetchOutside
  split
  · next hline => exact absurd (ho.symm.trans hline) (h _ _ _)
  · rfl

/-- The packet of a class begins. -/
def beginClass (s : State) : SendClass → State
  | .following p rest => beginFollowing s p rest
  | .reply r rest => beginReply s r rest
  | .notice => beginNotice s
  | .fetch f => beginFetchPacket s f s.offer
  | .stats p => beginStats s p
  | .nothing => s

theorem sendNext_eq (s : State) : sendNext s = beginClass s (nextClass s) := rfl

/-- The classes other than the fetch. -/
theorem boundary_of_class {c : SendClass} (hs : s.lnk.sending = none) (h : nextClass s = c) (hc : ∀ f, c ≠ .fetch f) :
    exec .packetBoundary s = .next (beginClass s c) := by
  rw [boundary_begins hs (fetchOutside_of_class fun f => h ▸ hc f), sendNext_eq, h]

/-- The fetch, where it offers a packet. -/
theorem boundary_of_offer {o : FetchOffer} (hq : s.linkQuiet) (hn : ¬ noticeReady s = true) (hf : s.cst.fetch = some f)
    (ho : s.offer = o) (hne : o ≠ .none) (hout : fetchOutside s = false) :
    exec .packetBoundary s = .next (beginFetchPacket s f o) := by
  rw [boundary_begins hq.1 hout, sendNext_eq, nextClass_of_offer hq hn hf (ho ▸ hne), ← ho]
  rfl

theorem offer_abort (hf : s.cst.fetch = some f) (h : f.aborted = true) : s.offer = .abort := by
  rw [State.offer_of_fetch hf]
  exact if_pos h

theorem offer_record {p : RecordPacket} (hf : s.cst.fetch = some f) (h : f.aborted = false) (hp : f.record = some p) :
    s.offer = .record p := by
  rw [State.offer_of_fetch hf]
  unfold fetchOffer
  rw [hp]
  exact if_neg (by rw [h]; nofun)

theorem offer_line {x : Slot} {r : FrameRecord} (hf : s.cst.fetch = some f) (h : f.aborted = false) (hp : f.record = none)
    (him : f.image = true) (hx : s.cst.slots[f.slot]? = some x) (hr : x.record = some r) (hk : f.nextLine < r.outH) :
    s.offer = .line f.nextLine r.outW (decide (f.nextLine + 1 = r.outH)) := by
  have hget : s.cst.slots.getD f.slot freeSlot = x := by simp [List.getD_eq_getElem?_getD, hx]
  rw [State.offer_of_fetch hf, hget, hr]
  unfold fetchOffer
  rw [hp, him]
  refine (if_neg (by rw [h]; nofun)).trans (if_pos ?_)
  rw [Bool.true_and]
  exact decide_eq_true hk

end

end Sys2Proof.Machine
end

section
/-! PROOF of the statement on PACKET_BOUNDARY (R155, R157, R158, R170, R174, R175, R178, R187, R189, R190). -/

namespace Sys2Proof.Machine

section
variable {s : State} {x : Sending} {f : Fetch} {y : Slot} {i order : Nat}

/-- The end of a final line (R157). -/
theorem boundary_final (hc : s.ConditionsFollow) (h : s.lnk.sending = some x) (he : x.atEnd = .line true)
    (hf : s.cst.fetch = some f) (hy : s.cst.slots[f.slot]? = some y) (hs : y.state = .sending)
    (hb : y.before = .ready ∨ y.before = .held) : exec .packetBoundary s =
      exec .packetBoundary (s.linkIdle.sentWhole none f.slot { y with state := y.before, imageSent := true }) :=
  boundary_of_packetEnds ((packetEnds_of_some h he).trans (imageSent_eq (s := s.linkIdle) hc.storeFull hf hy hs hb)) rfl

/-- The end of a RECORD packet whose frame has left the slot (R157). -/
theorem boundary_record_gone (h : s.lnk.sending = some x) (he : x.atEnd = .record i order)
    (hy : ∀ y, s.cst.slots[i]? = some y → y.state = .free ∨ y.order ≠ order) : exec .packetBoundary s =
      exec .packetBoundary (s.linkIdle.setCst { s.cst with fetch := fetchAfterRecord s.cst.fetch }) :=
  boundary_of_packetEnds ((packetEnds_of_some h he).trans (recordSent_gone (s := s.linkIdle) hy)) rfl

/-- The end of a RECORD packet whose frame the slot still holds (R157). -/
theorem boundary_record_held (hc : s.ConditionsFollow) (h : s.lnk.sending = some x) (he : x.atEnd = .record i order)
    (hy : s.cst.slots[i]? = some y) (hfree : y.state ≠ .free) (horder : y.order = order) : exec .packetBoundary s =
      exec .packetBoundary (s.linkIdle.sentWhole (fetchAfterRecord s.cst.fetch) i { y with recordSent := true }) :=
  boundary_of_packetEnds
    ((packetEnds_of_some h he).trans (recordSent_held (s := s.linkIdle) hc.storeFull hy hfree horder)) rfl

/-- The end of an ABORT packet (R158). -/
theorem boundary_abort_kept (h : s.lnk.sending = some x) (he : x.atEnd = .abort) (hf : s.cst.fetch = some f)
    (hk : f.freeAtEnd = false) :
    exec .packetBoundary s = exec .packetBoundary (s.linkIdle.setCst { s.cst with fetch := none }) :=
  boundary_of_packetEnds ((packetEnds_of_some h he).trans (abortSent_kept (s := s.linkIdle) hf hk)) rfl

/-- The end of an ABORT packet after a RESET FULL (R162). -/
theorem boundary_abort_freed (h : s.lnk.sending = some x) (he : x.atEnd = .abort) (hf : s.cst.fetch = some f)
    (hk : f.freeAtEnd = true) (hy : s.cst.slots[f.slot]? = some y) : exec .packetBoundary s =
      exec .packetBoundary ((s.linkIdle.setCst { s.cst with
        fetch := none, slots := s.cst.slots.set f.slot (freed y) }).setCnd (cndSetLevel s.cnd condStoreFull false)) :=
  boundary_of_packetEnds ((packetEnds_of_some h he).trans (abortSent_freed (s := s.linkIdle) hf hk hy)) rfl

/-- A REPLY begins (R174, R175). -/
theorem boundary_reply {r : Reply} {rest : List Reply} {p : BufferPlace → Bool} (hs : s.lnk.sending = none)
    (hfol : s.lnk.following = []) (h : s.lnk.replies = r :: rest) (ha : ∀ tag, p (.answered tag) = true)
    (ht : ∀ tag, p (.taken tag) = false) (hw : ∀ x, p (.waiting x) = false) :
    exec .packetBoundary s = .next (s.setLnk { s.lnk with
      replies := rest, following := r.follow, errorMark := false, buffer := s.lnk.buffer.eraseP p
      sending := some ⟨linkBytes (replyPacket r s.lnk.errorMark), .nothing⟩ }) := by
  rw [← dropAnswered_eq ha ht hw]
  exact boundary_of_class hs (nextClass_reply hfol h) fun _ => SendClass.noConfusion

/-- A line of the image begins, from the frame memory (R140, R157). -/
theorem boundary_line {z : Slot} {r : FrameRecord} (hq : s.linkQuiet) (hn : ¬ noticeReady s = true) (hfit : s.FramesFit)
    (hf : s.cst.fetch = some f) (ha : f.aborted = false) (hr : f.record = none) (him : f.image = true)
    (hz : s.cst.slots[f.slot]? = some z) (hz' : z.record = some r) (hk : f.nextLine < r.outH) :
    exec .packetBoundary s = .next (beginFetchPacket s f (.line f.nextLine r.outW (decide (f.nextLine + 1 = r.outH)))) :=
  boundary_of_offer hq hn hf (offer_line hf ha hr him hz hz' hk) nofun (fetchOutside_eq_false hfit)

end

/-- The layout of NOTICE (R170, R189). -/
theorem notice_layout (c : Cnd) (last : Option Nat) :
    let flag := fun b : Bool => if b = true then 1#8 else 0#8
    let p := noticePacket c last
    (∀ k < 25, p.payload[2 + 2 * k]? = some (flag (c.condition k).latch) ∧
      p.payload[3 + 2 * k]? = some (BitVec.ofNat 8 (c.condition k).count)) ∧
    ∀ j < 4, let k := [condAeSettled, condPan, condShiftFault, condStoreFull].getD j 0
      p.payload[52 + 2 * j]? = some (flag (c.condition k).latchedLevel) ∧
      p.payload[53 + 2 * j]? = some (flag (c.condition k).current) := by
  refine ⟨fun k hk => ⟨notice_condition c last hk Nat.two_pos, ?_⟩, fun j hj => ?_⟩
  · rw [show 3 + 2 * k = 2 + 2 * k + 1 by omega, notice_condition c last hk Nat.one_lt_two]
    rfl
  · have hstate := getElem?_eq_getD (l := stateConditions) hj 0
    refine ⟨notice_level c last hstate Nat.two_pos, ?_⟩
    rw [show 53 + 2 * j = 52 + 2 * j + 1 by omega, notice_level c last hstate Nat.one_lt_two]
    rfl

/-- Settles O57: the layouts field by field, the end of each packet by what it brings, the next packet by its class. -/
theorem packetBoundarySendsByClass : Obligations.PacketBoundarySendsByClass := by
  unfold Obligations.PacketBoundarySendsByClass
  intro b1 b2 b4 yes
  have hyes (b : Bool) : yes b = fieldBool b := (fieldBool_eq b).symm
  refine ⟨fun c last => ?_, fun p hm hc hw => ?_, fun tag p => ?_, ?_⟩
  · exact ⟨rfl, rfl, length_notice c last, rfl, notice_layout c last⟩
  · refine ⟨rfl, rfl, length_stats hm hc hw, rfl,
      fun i hi => ⟨stats_mean hm hi, stats_clipped hm hc hi, fun b => stats_mask hm hc hi⟩, fun k _ w hk => ?_⟩
    rw [hyes]
    exact stats_window hm hc hk
  · refine ⟨rfl, rfl, length_record tag p, ?_⟩
    simp only [hyes]
    exact record_payload tag p
  intro sent quiet notice cleared ended
  have hnotice {s : State} : noticeReady s = true ↔ notice s := noticeReady_eq_true
  refine ⟨fun s x h he => boundary_of_packetEnds (packetEnds_plain h he) rfl,
    fun s x f h he hf => ⟨boundary_abort_kept h he hf, fun y hk hy => boundary_abort_freed h he hf hk hy⟩,
    fun s x f y hc h he hf hy hs hb => boundary_final hc h he hf hy hs hb,
    fun s x i order hc h he => ⟨boundary_record_gone h he, fun y hy hfree horder => boundary_record_held hc h he hy hfree horder⟩,
    fun s p rest hs h => boundary_of_class hs (nextClass_following h) fun _ => SendClass.noConfusion,
    fun s r rest hs hfol h => boundary_reply hs hfol h (fun _ => rfl) (fun _ => rfl) (fun _ => rfl),
    fun s hq hn => boundary_of_class hq.1 (nextClass_notice hq (hnotice.2 hn)) fun _ => SendClass.noConfusion,
    fun s f hq hn hf => ⟨fun ha => ?_, fun p ha hp => ?_, fun x r hfit ha hr him hx hr' hk => ?_⟩,
    fun s p hq hn hf h => boundary_of_class hq.1 (nextClass_stats hq (mt hnotice.1 hn) hf h) fun _ => SendClass.noConfusion,
    fun s hq hn hf h => boundary_of_class hq.1 (nextClass_nothing hq (mt hnotice.1 hn) hf h) fun _ => SendClass.noConfusion⟩
  · have ho := offer_abort hf ha
    exact boundary_of_offer hq (mt hnotice.1 hn) hf ho FetchOffer.noConfusion
      (fetchOutside_of_offer ho fun _ _ _ => FetchOffer.noConfusion)
  · have ho := offer_record hf ha hp
    exact boundary_of_offer hq (mt hnotice.1 hn) hf ho FetchOffer.noConfusion
      (fetchOutside_of_offer ho fun _ _ _ => FetchOffer.noConfusion)
  · exact boundary_line hq (mt hnotice.1 hn) hfit hf ha hr him hx hr' hk

end Sys2Proof.Machine
end
